-- ==== Sys2Proof/Word.lean ====
section
/-! DEFINITION. The word types of the Lunhar LH-210: bytes on the lines, two-byte fields, and hill time. -/

namespace Sys2Proof

/-- A byte of a frame (spec/01_the_station_line.md, Table 2-1). -/
abbrev Byte := BitVec 8

/-- A two-byte field, sent high byte first (R28). -/
abbrev Half := BitVec 16

/-- A hill time: a 32-bit count of time units of 100 µs that wraps (R30). -/
abbrev Time := BitVec 32

end Sys2Proof
end

