-- ==== Sys2Proof/Syntax.lean ====
section
/-! DEFINITION. The commands of the LH-210: one constructor for each row of spec/opcode_table.json. `now` is the hill time
the command is taken at (R38); `seq` is the sequence number of the REQUEST frame that carries a request (R1). The other
operands are the arguments the row's rule gives, in the widths of R188, or what the outside world brings with an event. -/

namespace Sys2Proof

/-- The two station segments: tower (port T) and slope (port S). -/
inductive Seg where
  | T
  | S
deriving DecidableEq, Repr

/-- The three line ports (2.1). -/
inductive Port where
  | T
  | S
  | O
deriving DecidableEq, Repr

/-- Which of the six stored items the store engine wrote and read back correctly (R197). -/
structure StoreOutcome where
  stations : Bool
  schedT : Bool
  schedS : Bool
  hill : Bool
  distance : Bool
  enables : Bool
deriving DecidableEq, Repr

/-- The commands. -/
inductive Instr where
  -- management
  | identify (now : Time) (seq : Byte)
  | reset (now : Time) (seq : Byte) (kind : Byte)
  | resetEffect (now : Time)
  | powerOnReset
  | ready (now : Time)
  | restart (now : Time) (seq : Byte) (port : Byte)
  | restartSilenceEnd (now : Time) (seg : Seg)
  | store (now : Time) (seq : Byte)
  | storeCompletion (now : Time) (outcome : StoreOutcome)
  | loadBegin (now : Time) (seq : Byte) (table : Byte) (length : Half)
  | loadData (now : Time) (seq : Byte) (offset : Half) (data : List Byte)
  | loadEnd (now : Time) (seq : Byte)
  | readTable (now : Time) (seq : Byte) (table : Byte) (offset : Half)
  -- readings
  | readCounters (now : Time) (seq : Byte) (port : Byte)
  | readStation (now : Time) (seq : Byte) (address : Byte) (clear : Byte)
  | readConditions (now : Time) (seq : Byte)
  | setReportEnables (now : Time) (seq : Byte) (conditions : Half) (kinds : Byte)
  | snapshot (now : Time) (seq : Byte)
  | snapshotPart (now : Time) (seq : Byte) (part : Byte)
  -- rounds and lists
  | roundOpen (now : Time) (seq : Byte) (round : Byte)
  | roundClose (now : Time) (seq : Byte)
  | resultsClear (now : Time) (seq : Byte)
  | listInsert (now : Time) (seq : Byte) (bib : Half) (position : Half)
  | listRemove (now : Time) (seq : Byte) (bib : Half)
  | listMove (now : Time) (seq : Byte) (bib : Half) (position : Half)
  | listRead (now : Time) (seq : Byte) (index : Half)
  | resultsRead (now : Time) (seq : Byte) (index : Half) (detail : Byte)
  -- the start and the records
  | clear (now : Time) (seq : Byte)
  | hold (now : Time) (seq : Byte)
  | windGate (now : Time) (seq : Byte) (on : Byte)
  | setReferenceGate (now : Time) (seq : Byte) (gate : Byte)
  | enterDistance (now : Time) (seq : Byte) (bib : Half) (distance : Half)
  | enterMark (now : Time) (seq : Byte) (bib : Half) (seat : Byte) (mark : Byte)
  | annul (now : Time) (seq : Byte) (bib : Half)
  | disqualify (now : Time) (seq : Byte) (bib : Half)
  | reinstate (now : Time) (seq : Byte) (bib : Half)
  | readJump (now : Time) (seq : Byte) (slot : Byte) (part : Byte)
  | unknownRequest (now : Time) (seq : Byte) (code : Byte) (args : List Byte)
  -- the lines
  | officePass (now : Time) (seq : Byte) (destination : Byte) (payload : List Byte)
  | frameDiscarded (now : Time) (port : Port) (line : List Byte)
  | abortReceived (now : Time) (port : Port)
  | cycleStart (now : Time)
  | slotOpen (now : Time) (seg : Seg)
  | replyWindowOpen (now : Time) (seg : Seg)
  | replyWindowClose (now : Time) (seg : Seg)
  | slotBudgetEnd (now : Time) (seg : Seg)
  -- station frames: the segment, the source and sequence fields, and the payload
  | windFrame (now : Time) (seg : Seg) (source seq : Byte) (payload : List Byte)
  | gateFrame (now : Time) (seg : Seg) (source seq : Byte) (payload : List Byte)
  | edgeFrame (now : Time) (seg : Seg) (source seq : Byte) (payload : List Byte)
  | coachFrame (now : Time) (seg : Seg) (source seq : Byte) (payload : List Byte)
  | styleFrame (now : Time) (seg : Seg) (source seq : Byte) (payload : List Byte)
  | distFrame (now : Time) (seg : Seg) (source seq : Byte) (payload : List Byte)
  | lampstatFrame (now : Time) (seg : Seg) (source seq : Byte) (payload : List Byte)
  | stationPassFrame (now : Time) (seg : Seg) (source seq : Byte) (payload : List Byte)
  | noneFrame (now : Time) (seg : Seg) (source seq : Byte) (payload : List Byte)
  -- expiries and deadlines
  | windWaitExpiry (now : Time)
  | greenFlashExpiry (now : Time)
  | greenExpiry (now : Time)
  | countdownSecondExpiry (now : Time)
  | inRunExpiry (now : Time)
  | flightExpiry (now : Time)
  | landingSettle (now : Time)
  | windClose (now : Time) (slot : Fin 4)
  | confirmExpiry (now : Time) (slot : Fin 4)
  | marksWindowExpiry (now : Time) (slot : Fin 4)
  -- line units and pins
  | officeFrameSent (now : Time)
  | resetPinDrivenLow (itemsWritten : Fin 7) (midItem : Bool)
  | frameBegun (now : Time) (seg : Seg)
  | stationFrameNotAdmitted (now : Time) (seg : Seg) (source kind seq : Byte) (payload : List Byte)
deriving DecidableEq, Repr

end Sys2Proof
end

