-- ==== Sys2Proof/Decode.lean ====
section
/-! DEFINITION. From bytes to commands. The opcode table gives no row any bits, so no table word spells a command; the bytes
of a REQUEST frame do (Table 2-17, R188). -/

namespace Sys2Proof

/-- The command a word of the opcode table spells: none, since the table gives its rows no bits. -/
def decodeTableWord (_nbits _w : Nat) : Option Instr := none

/-- A two-byte argument, high byte first (R28, R188). -/
def half (high low : Byte) : Half := high.append low

/-- A request with no argument bytes. -/
def noArgument (c : Instr) : List Byte → Option Instr
  | [] => some c
  | _ => none

/-- A request with one argument byte. -/
def oneByte (f : Byte → Instr) : List Byte → Option Instr
  | [a] => some (f a)
  | _ => none

/-- A request with two argument bytes. -/
def twoBytes (f : Byte → Byte → Instr) : List Byte → Option Instr
  | [a, b] => some (f a b)
  | _ => none

/-- A request with three argument bytes. -/
def threeBytes (f : Byte → Byte → Byte → Instr) : List Byte → Option Instr
  | [a, b, c] => some (f a b c)
  | _ => none

/-- A request with four argument bytes. -/
def fourBytes (f : Byte → Byte → Byte → Byte → Instr) : List Byte → Option Instr
  | [a, b, c, d] => some (f a b c d)
  | _ => none

/-- LOAD_DATA: an offset and 1 to 117 data bytes (R188). -/
def loadBytes (f : Half → List Byte → Instr) : List Byte → Option Instr
  | h :: l :: data => if 1 ≤ data.length ∧ data.length ≤ 117 then some (f (half h l) data) else none
  | _ => none

/-- The command of a REQUEST frame by its code and argument bytes (Table 2-17, R188); none where the code is unknown or the
bytes are more or fewer than the arguments need. -/
def decodeRequest (now : Time) (seq : Byte) (code : Byte) (args : List Byte) : Option Instr :=
  match code.toNat with
  | 0x01 => noArgument (.identify now seq) args
  | 0x02 => oneByte (.reset now seq) args
  | 0x03 => oneByte (.restart now seq) args
  | 0x04 => noArgument (.store now seq) args
  | 0x05 => threeBytes (fun table h l => .loadBegin now seq table (half h l)) args
  | 0x06 => loadBytes (.loadData now seq) args
  | 0x07 => noArgument (.loadEnd now seq) args
  | 0x08 => threeBytes (fun table h l => .readTable now seq table (half h l)) args
  | 0x10 => oneByte (.readCounters now seq) args
  | 0x11 => twoBytes (.readStation now seq) args
  | 0x12 => noArgument (.readConditions now seq) args
  | 0x13 => threeBytes (fun h l kinds => .setReportEnables now seq (half h l) kinds) args
  | 0x14 => noArgument (.snapshot now seq) args
  | 0x15 => oneByte (.snapshotPart now seq) args
  | 0x20 => oneByte (.roundOpen now seq) args
  | 0x21 => noArgument (.roundClose now seq) args
  | 0x22 => noArgument (.resultsClear now seq) args
  | 0x23 => fourBytes (fun bh bl ph pl => .listInsert now seq (half bh bl) (half ph pl)) args
  | 0x24 => twoBytes (fun bh bl => .listRemove now seq (half bh bl)) args
  | 0x25 => fourBytes (fun bh bl ph pl => .listMove now seq (half bh bl) (half ph pl)) args
  | 0x26 => twoBytes (fun h l => .listRead now seq (half h l)) args
  | 0x27 => threeBytes (fun h l detail => .resultsRead now seq (half h l) detail) args
  | 0x30 => noArgument (.clear now seq) args
  | 0x31 => noArgument (.hold now seq) args
  | 0x32 => oneByte (.windGate now seq) args
  | 0x33 => oneByte (.setReferenceGate now seq) args
  | 0x34 => fourBytes (fun bh bl dh dl => .enterDistance now seq (half bh bl) (half dh dl)) args
  | 0x35 => fourBytes (fun bh bl seat mark => .enterMark now seq (half bh bl) seat mark) args
  | 0x36 => twoBytes (fun bh bl => .annul now seq (half bh bl)) args
  | 0x37 => twoBytes (fun bh bl => .disqualify now seq (half bh bl)) args
  | 0x38 => twoBytes (fun bh bl => .reinstate now seq (half bh bl)) args
  | 0x39 => twoBytes (.readJump now seq) args
  | _ => none

end Sys2Proof
end

