-- ==== Sys2Proof/Config.lean ====
section
/-! DEFINITION. What the manual fixes for every part: the sizes of its collections, its identity, and its spans of hill time. -/

namespace Sys2Proof.Config

/-- R191: the part code in the reply to IDENTIFY. -/
def partCode : Nat := 0x2100

/-- R191: the silicon revision. -/
def revision : Nat := 1

/-- R30, 1.5: a cycle is 1000 time units. -/
def cycleLength : Nat := 1000

/-- Table 1-3: one second is 10 000 time units. -/
def second : Nat := 10000

/-- R10: the length of a reply window, in time units. -/
def replyWindow : Nat := 10

/-- R10: the budget of a slot, in time units. -/
def slotBudget : Nat := 30

/-- DEDUCED from 2.1, R1, R7 and Table 2-11: a TIME frame has been sent this many time units after its cycle start. Its 12 content
bytes go out as at most 22 bytes at 1 Mbit/s, and a byte with its framing takes at most 13 bits (log 9). -/
def timeFrame : Nat := 3

/-- R26: the silence of a RESTART, in time units. -/
def restartSilence : Nat := 500

/-- R190: the part is READY within this many time units of a reset. -/
def readyBound : Nat := 600

/-- R197: a store completes within this many time units of its acceptance. -/
def storeBound : Nat := 4000

/-- R33: entries of the mark history. -/
def markHistory : Nat := 16

/-- R22: frames of a downstream queue. -/
def downstreamLimit : Nat := 32

/-- Table 11-6: a REPLY is admitted while the office queue holds fewer than this. -/
def replyLimit : Nat := 64

/-- Table 11-6: a REPORT is admitted while the office queue holds fewer than this. -/
def reportLimit : Nat := 60

/-- Table 11-6: a MIRROR is admitted while the office queue holds fewer than this. -/
def mirrorLimit : Nat := 48

/-- R87: grid entries of a sample ring. -/
def ringLimit : Nat := 128

/-- R80: samples of an alignment buffer. -/
def bufferLimit : Nat := 2

/-- R44: bibs of the start list, and R42: entries of COMPETITORS. -/
def listLimit : Nat := 96

/-- R192: bytes of the load buffer. -/
def loadLimit : Nat := 4098

/-- R5: where a port counter and a slip counter saturate. -/
def counterTop : Nat := 65535

/-- R1: the delimiter byte. -/
def delimiter : Nat := 0x7A

/-- R1: the escape byte. -/
def escape : Nat := 0x7B

/-- R4: the most content bytes of a frame. -/
def contentLimit : Nat := 127

/-- Table 2-16: the most result bytes of a REPLY. -/
def resultBytes : Nat := 118

/-- R17: the most payload bytes of a PASS from a station. -/
def passLimit : Nat := 118

end Sys2Proof.Config
end

