-- ==== Sys2Proof/Machine/Types.lean ====
section
/-! DEFINITION. The data the LH-210 holds: its tables, its jump records, its frames and its reports, as plain data. -/

namespace Sys2Proof.Machine

/-! ### Tables (R8, R14, R42, R124, R195) -/

/-- The kinds of station (Table 2-6). -/
inductive StationKind where
  | wind | gate | light | coach | cellA | cellB | takeoff | landing | judge | dist | board | aux
deriving DecidableEq, Repr

/-- The kind-specific part of a WIND entry (R14). -/
structure WindPlace where
  index : Nat
  bearing : Nat
  slope : Nat
  weight : Nat
  startWindow : Bool
deriving DecidableEq, Repr

/-- The page kinds (Table 2-11). -/
inductive PageKind where
  | current | leaders | countdown
deriving DecidableEq, Repr

/-- The page mask of a BOARD entry (R14). -/
structure PageMask where
  current : Bool
  leaders : Bool
  countdown : Bool
deriving DecidableEq, Repr

/-- A station's kind with its kind-specific part (R14). -/
inductive StationRole where
  | wind (place : WindPlace)
  | gate
  | light
  | coach
  | cellA
  | cellB
  | takeoff
  | landing (moduleIndex sensors : Nat)
  | judge (seat : Nat)
  | dist
  | board (mask : PageMask)
  | aux
deriving DecidableEq, Repr

/-- An entry of the STATIONS table (R14). -/
structure StationEntry where
  addr : Nat
  role : StationRole
  port : Seg
  mirror : Bool
  missLimit : Nat
deriving DecidableEq, Repr

/-- An entry of SCHED_T or SCHED_S (R8). -/
structure SchedEntry where
  addr : Nat
  interval : Nat
  phase : Nat
deriving DecidableEq, Repr

/-- The HILL table (Table 12-4), in the order of its image. -/
structure HillTable where
  k : Nat
  hs : Nat
  b : Nat
  m : Nat
  headFactor : Nat
  tailFactor : Nat
  g : Nat
  coachThreshold : Nat
  lead : Nat
  flightMin : Nat
  flightMax : Nat
  inRunMax : Nat
  startTime : Nat
  flashTime : Nat
  windWait : Nat
  bandLow : Int
  bandHigh : Int
  liveSpan : Nat
  confirmWindow : Nat
  autoConfirm : Bool
  marksWindow : Nat
  mismatchThreshold : Nat
  mismatchCount : Nat
  lostThreshold : Nat
  recoverCount : Nat
  cellSpacing : Nat
  q : Nat
  windGateAtPowerOn : Bool
deriving DecidableEq, Repr

/-- The defaults of Table 12-4 (R195, R198). -/
def HillTable.defaults : HillTable where
  k := 240
  hs := 280
  b := 600
  m := 18
  headFactor := 800
  tailFactor := 968
  g := 702
  coachThreshold := 266
  lead := 1000
  flightMin := 1000
  flightMax := 8000
  inRunMax := 15
  startTime := 10
  flashTime := 5
  windWait := 60
  bandLow := -200
  bandHigh := 200
  liveSpan := 20
  confirmWindow := 20
  autoConfirm := true
  marksWindow := 30
  mismatchThreshold := 150
  mismatchCount := 3
  lostThreshold := 5
  recoverCount := 10
  cellSpacing := 1000
  q := 30
  windGateAtPowerOn := true

/-- An entry of the DISTANCE table (R124). -/
structure DistanceEntry where
  moduleIndex : Nat
  sensor : Nat
  distance : Nat
deriving DecidableEq, Repr

/-- An entry of the COMPETITORS table (R42). -/
structure Competitor where
  bib : Nat
  name : List Byte
  team : List Byte
deriving DecidableEq, Repr

/-- The six active tables (1.7). -/
structure Tables where
  stations : List StationEntry
  schedT : List SchedEntry
  schedS : List SchedEntry
  hill : HillTable
  distance : List DistanceEntry
  competitors : List Competitor
deriving DecidableEq, Repr

/-- The table codes (Table 12-2). -/
inductive TableCode where
  | stations | schedT | schedS | hill | distance | competitors
deriving DecidableEq, Repr

/-! ### Small enumerations (Tables 2-15, 2-18) -/

/-- The lamps (Table 2-15). -/
inductive Lamp where
  | off | red | yellow | green | greenFlash
deriving DecidableEq, Repr

/-- The presence of a station (R11). -/
inductive Presence where
  | absent | present | missing
deriving DecidableEq, Repr

/-- The reply statuses (Table 12-1). -/
inductive Status where
  | ok | busy | notReady | badRequest | badValue | wrongState | locked | notFound | full
deriving DecidableEq, Repr

/-- The competition states (R50). -/
inductive CompState where
  | prepare | r1Open | r1Closed | r2Open | final
deriving DecidableEq, Repr

/-- The record states (Table 5-3). -/
inductive RecState where
  | cleared | green | late | inRun | flight | landing | measuring | marking | held
deriving DecidableEq, Repr

/-- The reasons of a JUMP report (Table 5-5). -/
inductive JumpReason where
  | advance | needs | hold | lightLost | windTimeout | liveWindUnavailable | annulled | disqualified | scored | dns
deriving DecidableEq, Repr

/-- The wind states of a context (R90). -/
inductive WindState where
  | lost | active | degraded
deriving DecidableEq, Repr

/-- The qualities of a grid entry (R87). -/
inductive Quality where
  | good | single | mean | repeated | missing
deriving DecidableEq, Repr

/-- The source of a record's landing (Table 5-1). -/
inductive LandingSource where
  | none | array
deriving DecidableEq, Repr

/-- The source of a final distance (Table 5-1). -/
inductive DistSource where
  | array | console | office
deriving DecidableEq, Repr

/-- The status of a result entry (R165, R166). -/
inductive ResultStatus where
  | ok | dsq
deriving DecidableEq, Repr

/-- The three resets that return hill time to 0 (R178's argument of RESTARTED). -/
inductive ResetKind where
  | powerOn | keep | clear
deriving DecidableEq, Repr

/-! ### Jump records (R62, R63) -/

/-- A needs set: a subset of DISTANCE and MARKS (R68). -/
structure Needs where
  distance : Bool
  marks : Bool
deriving DecidableEq, Repr

/-- The empty needs set. -/
def Needs.none : Needs := ⟨false, false⟩

/-- The flags of a record (Table 5-2). -/
structure RecFlags where
  early : Bool
  late : Bool
  reinstated : Bool
  timeEstimated : Bool
  noWind : Bool
  landingEstimated : Bool
  gateMoved : Bool
deriving DecidableEq, Repr

/-- No flag set. -/
def RecFlags.none : RecFlags := ⟨false, false, false, false, false, false, false⟩

/-- The marks of the five seats, in half-points (R153). -/
structure Marks where
  seat1 : Option Nat
  seat2 : Option Nat
  seat3 : Option Nat
  seat4 : Option Nat
  seat5 : Option Nat
deriving DecidableEq, Repr

/-- No seat with a mark. -/
def Marks.none : Marks := ⟨.none, .none, .none, .none, .none⟩

/-- An item of a wind means list (R145): wind index, window mean, sample count. -/
structure WindMean where
  index : Nat
  mean : Int
  count : Nat
deriving DecidableEq, Repr

/-- A jump record: the fields of Table 5-1 but for the slot, which is its place in the jump table, the two expiries that belong to
it (R123, R157), and `serial`, by which of two records the one created first is known, whose clear time R31 calls the value stored
first. -/
structure JumpRecord where
  serial : Nat
  bib : Nat
  round : Nat
  state : RecState
  needs : Needs
  clearTime : Time
  greenTime : Option Time
  greenExpiryTime : Option Time
  gate : Option Nat
  coachRequest : Bool
  juryGate : Option Nat
  gateLeftTime : Option Time
  cellATime : Option Time
  cellBTime : Option Time
  speed : Option Nat
  takeoffTime : Option Time
  landingTime : Option Time
  landingSource : LandingSource
  preliminary : Option Nat
  finalDistance : Option Nat
  distanceSource : Option DistSource
  windCloseDone : Bool
  windMeans : List WindMean
  windValue : Option Int
  marks : Marks
  marksLocked : Bool
  marksOverdue : Bool
  flags : RecFlags
  confirmExpiry : Option Time
  marksExpiry : Option Time
deriving DecidableEq, Repr

/-- The four slots of the jump table (R60). -/
structure JumpTable where
  slot0 : Option JumpRecord
  slot1 : Option JumpRecord
  slot2 : Option JumpRecord
  slot3 : Option JumpRecord
deriving DecidableEq, Repr

/-- All four slots free. -/
def JumpTable.empty : JumpTable := ⟨.none, .none, .none, .none⟩

/-! ### Results (R165, R166) -/

/-- The points parts of an OK result (R164). -/
structure Points where
  distancePoints : Nat
  style : Nat
  gateComp : Int
  windComp : Int
  roundTotal : Nat
deriving DecidableEq, Repr

/-- The last jump detail (R165); a DSQ result has no points parts (R166). -/
structure JumpDetail where
  round : Nat
  distance : Nat
  speed : Option Nat
  gate : Option Nat
  points : Option Points
deriving DecidableEq, Repr

/-- A result entry. The competition total and the rounds completed are computed from the two totals (R165). -/
structure ResultEntry where
  bib : Nat
  round1 : Option Nat
  round2 : Option Nat
  status : ResultStatus
  detail : Option JumpDetail
deriving DecidableEq, Repr

/-! ### Reports, replies and the office queue (R181, R182) -/

/-- The reports of Table 11-5. In a JUMP report the slot and the new state may be "none"; the flags of a RESULT report are
absent at a change to DSQ by DISQUALIFY (R169). -/
inductive Report where
  | condition (number : Nat) (v : Bool) (argument : Nat)
  | station (addr : Nat) (old new : Presence)
  | jump (bib : Nat) (slot : Option (Fin 4)) (state : Option RecState) (reason : JumpReason) (needs : Needs) (flags : RecFlags)
  | result (entry : ResultEntry) (rank : Option Nat) (flags : Option RecFlags)
deriving DecidableEq, Repr

/-- The counters of a port (Table 2-4). -/
structure Counters where
  framing : Nat
  crc : Nat
  address : Nat
  source : Nat
  slotTimeout : Nat
deriving DecidableEq, Repr

/-- All counters 0 (R5). -/
def Counters.zero : Counters := ⟨0, 0, 0, 0, 0⟩

/-- A grid entry of a sample ring (R87). -/
structure GridEntry where
  time : Time
  quality : Quality
  value : Option Int
deriving DecidableEq, Repr

/-- The wind fields of READ_STATION (R99). -/
structure WindReading where
  state : WindState
  fill : Nat
  drops : Nat
  repeats : Nat
  last : Option GridEntry
deriving DecidableEq, Repr

/-- A condition of OFU: V (false for an event condition), I and the stored argument (R177). -/
structure Condition where
  v : Bool
  i : Bool
  argument : Nat
deriving DecidableEq, Repr

/-- The reference gate as SNAPSHOT reads it (R106). -/
inductive RefGateReading where
  | unset
  | pending (gate : Nat)
  | fixed (gate : Nat)
deriving DecidableEq, Repr

/-- Part 0 of a snapshot (Table 11-8); its hill time stands in `Snapshot`. -/
structure SnapshotHead where
  lamp : Lamp
  remaining : Nat
  gate : Option Nat
  reference : RefGateReading
  liveWind : Option Int
  competition : CompState
deriving DecidableEq, Repr

/-- The latched copy of a SNAPSHOT (R186). -/
structure Snapshot where
  time : Time
  head : SnapshotHead
  jump : Option (Fin 4 × JumpRecord)
  means : List (Nat × Option Int)
  presences : List Presence
deriving DecidableEq, Repr

/-- A result entry as RESULTS_READ gives it, with its rank (R170). -/
structure RankedEntry where
  entry : ResultEntry
  rank : Option Nat
deriving DecidableEq, Repr

/-- What a DISQUALIFY did to the result entry (R73). -/
inductive EntryChange where
  | created | changed | unchanged
deriving DecidableEq, Repr

/-- The results of an OK reply, one constructor for each shape of reply, in named fields. -/
inductive Results where
  | nothing
  | identity (code revision : Nat) (ready : Bool)
  | loadOpened (table length : Nat)
  | loadFill (fill : Nat)
  | tableLoaded (table length : Nat)
  | tablePiece (table length offset : Nat) (bytes : List Byte)
  | counters (c : Counters)
  | station (kind : StationKind) (port : Seg) (presence : Presence) (missRun goodRun : Nat) (wind : Option WindReading)
  | conditions (cs : List Condition)
  | enables (conditions : Half) (condition station jump result : Bool)
  | snapshotHead (time : Time) (head : SnapshotHead)
  | snapshotJump (time : Time) (jump : Option (Fin 4 × JumpRecord))
  | snapshotMeans (time : Time) (means : List (Nat × Option Int))
  | snapshotPresences (time : Time) (presences : List Presence)
  | roundOpened (state : CompState) (length : Nat)
  | round2Opened (state : CompState) (length cut beyond : Nat)
  | roundClosed (state : CompState) (dropped : Nat)
  | listLength (length : Nat)
  | listView (length : Nat) (state : CompState) (bibs : List Nat)
  | resultsView (length : Nat) (state : CompState) (entries : List RankedEntry) (withDetail : Bool)
  | jumpAt (bib : Nat) (slot : Fin 4) (state : RecState)
  | windGate (on : Bool)
  | referenceGate (gate : Option Nat)
  | distanceSet (slot : Fin 4) (state : Option RecState)
  | markSet (slot : Fin 4) (seats : Nat) (locked : Bool) (state : Option RecState)
  | annulled (slot : Fin 4) (state : RecState)
  | disqualified (freed : Option (Fin 4)) (entry : EntryChange)
  | reinstated (slot : Fin 4) (state : RecState) (flags : RecFlags)
  | slotFree (slot : Fin 4)
  | jumpPart0 (slot : Fin 4) (jump : JumpRecord)
  | jumpPart1 (slot : Fin 4) (jump : JumpRecord)
deriving DecidableEq, Repr

/-- A reply in the office queue: the sequence number and code of its request, its status and results (R188). -/
structure Reply where
  seq : Byte
  code : Byte
  status : Status
  results : Results
deriving DecidableEq, Repr

/-- A MIRROR envelope (R19): the station, the sequence number of its frame, the port, the kind code and the payload. -/
structure Mirror where
  source : Nat
  seq : Byte
  port : Seg
  kind : Byte
  payload : List Byte
deriving DecidableEq, Repr

/-- A frame of the office queue, by class (R182). -/
inductive OfficeFrame where
  | reply (r : Reply)
  | report (r : Report)
  | mirror (m : Mirror)
deriving DecidableEq, Repr

/-- The office queue: the frames of each class not yet sent, oldest first, the frame in transmission, and whether a reply's
place is taken while its request executes (R182, R183, R184). -/
structure OfficeQueue where
  replies : List Reply
  reports : List Report
  mirrors : List Mirror
  sending : Option OfficeFrame
  place : Bool
deriving DecidableEq, Repr

/-- The empty office queue. -/
def OfficeQueue.empty : OfficeQueue := ⟨[], [], [], .none, false⟩

/-! ### Lines and the line scheduler -/

/-- A frame's content fields but for length and CRC, which follow from them (Table 2-1). -/
structure Frame where
  destination : Byte
  source : Byte
  kind : Byte
  sequence : Byte
  payload : List Byte
deriving DecidableEq, Repr

/-- What a line unit has put on its line ahead of the frame in its shifter, or last of all when it sends nothing: no frame that
reaches up to it, the closing delimiter of a frame (R1), or an abort (R26), each with its hill time. -/
inductive LineEnd where
  | idle
  | delimiter (time : Time)
  | abort (time : Time)
deriving DecidableEq, Repr

/-- A line unit: its port counters (R5), transmit sequence count (R1), transmit shifter (Table 1-1), what stands on the line ahead
of it (R1, R26), and whether its receive assembler drops bytes until the next delimiter (R3). -/
structure LineUnit where
  counters : Counters
  txSeq : Byte
  shifter : Option Frame
  ahead : LineEnd
  dropping : Bool
deriving DecidableEq, Repr

/-- A line unit after a reset. -/
def LineUnit.fresh : LineUnit := ⟨.zero, 0, .none, .idle, false⟩

/-- A frame of a downstream queue: a PASS from the office or a PAGE from DSP (R22, R23). -/
inductive QueuedFrame where
  | pass (station : Nat) (seq : Byte) (payload : List Byte)
  | page (board : Nat) (kind : PageKind) (payload : List Byte)
deriving DecidableEq, Repr

/-- An open slot (R9, R10): the entry of its station as it stood at the opening, the lamp command its opener carried, whether
the opener's closing delimiter has been sent, the two slot expiries, whether a frame has begun, and whether a STATIONS swap
has dropped or re-kinded the station since. -/
structure Slot where
  entry : StationEntry
  lampSent : Option Lamp
  openerSent : Bool
  windowClose : Option Time
  budgetEnd : Time
  frameBegun : Bool
  orphan : Bool
deriving DecidableEq, Repr

/-- What LSC keeps for a segment: the downstream queue (R22), the slots of the running cycle not yet opened (R9), the open
slot, and the RESTART silence expiry (R26). -/
structure Segment where
  queue : List QueuedFrame
  granted : List Nat
  slot : Option Slot
  silentUntil : Option Time
deriving DecidableEq, Repr

/-- A segment after a reset. -/
def Segment.fresh : Segment := ⟨[], [], .none, .none⟩

/-- The presence state of a station with its runs (R11). -/
structure Link where
  addr : Nat
  presence : Presence
  missRun : Nat
  goodRun : Nat
deriving DecidableEq, Repr

/-- The line scheduler LSC. -/
structure Scheduler where
  cycleCount : Nat
  segT : Segment
  segS : Segment
  links : List Link
  lampSlot : Lamp
deriving DecidableEq, Repr

/-- The hill clock HCK: hill time (R30) and the mark history, newest first (R33). -/
structure HillClock where
  time : Time
  marks : List (Byte × Time)
deriving DecidableEq, Repr

/-! ### Wind unit -/

/-- A raw sample: speed, direction and fault flag of each head (R80). -/
structure Sample where
  speed1 : Nat
  direction1 : Nat
  fault1 : Bool
  speed2 : Nat
  direction2 : Nat
  fault2 : Bool
deriving DecidableEq, Repr

/-- A wind context (R78). The buffer holds its oldest sample first, the ring its newest entry first. -/
structure WindContext where
  index : Nat
  bearing : Nat
  buffer : List Sample
  mismatch : Nat
  ring : List GridEntry
  state : WindState
  badRun : Nat
  goodRun : Nat
  drops : Nat
  repeats : Nat
deriving DecidableEq, Repr

/-- The wind unit WND: its contexts in ascending wind index, and the live wind record (R78, R95). -/
structure WindUnit where
  contexts : List WindContext
  liveWind : Option Int
  means : List (Nat × Option Int)
deriving DecidableEq, Repr

/-! ### Start unit, flight unit, display unit -/

/-- The start unit STU (7.1). -/
structure StartUnit where
  gate : Option Nat
  candidate : Option Nat
  candidateCount : Nat
  coachRequest : Option Nat
  pendingReference : Option Nat
  roundReference : Option Nat
  referenceFixed : Bool
  windGate : Bool
  lastLiveWind : Option Int
  windWait : Option Time
  greenFlash : Option Time
  greenExpiry : Option Time
  flashing : Bool
  lamp : Lamp
  echoRun : Nat
deriving DecidableEq, Repr

/-- An edge time with the estimated mark of its conversion (R34, R35). -/
structure EdgeTime where
  time : Time
  estimated : Bool
deriving DecidableEq, Repr

/-- The landing candidate (R132). -/
structure Candidate where
  time : Time
  distance : Nat
deriving DecidableEq, Repr

/-- The working state of FLU for the on-course record (R123). -/
structure FlightUnit where
  heldB : List EdgeTime
  inRunExpiry : Option Time
  candidate : Option Candidate
  firstArrival : Time
  settleCount : Nat
deriving DecidableEq, Repr

/-- No working state. -/
def FlightUnit.idle : FlightUnit := ⟨[], .none, .none, 0, 0⟩

/-- The distance marker of a CURRENT page (Table 11-1). -/
inductive DistMarker where
  | none | preliminary | final
deriving DecidableEq, Repr

/-- The CURRENT image when it is not empty (Table 11-1). -/
structure CurrentImage where
  round : Option Nat
  bib : Nat
  name : List Byte
  team : List Byte
  gate : Option Nat
  speed : Option Nat
  distance : Option Nat
  marker : DistMarker
  status : Option ResultStatus
  windComp : Option Int
  gateComp : Option Int
  roundTotal : Option Nat
  competitionTotal : Option Nat
  rank : Option Nat
deriving DecidableEq, Repr

/-- A row of the LEADERS image (Table 11-2). -/
structure LeaderRow where
  rank : Nat
  bib : Nat
  name : List Byte
  total : Nat
deriving DecidableEq, Repr

/-- The display unit DSP (R172). -/
structure Display where
  current : Option CurrentImage
  leaders : List LeaderRow
  countdownLamp : Lamp
  countdownSeconds : Nat
  countdownExpiry : Option Time
deriving DecidableEq, Repr

/-- DSP after a reset. -/
def Display.fresh : Display := ⟨.none, [], .off, 0, .none⟩

/-! ### Office unit -/

/-- The sixteen conditions (Table 11-4). -/
structure Conditions where
  restarted : Condition
  storeBad : Condition
  storeResult : Condition
  stationChange : Condition
  windChange : Condition
  liveWindUnavailable : Condition
  lampMismatch : Condition
  gateFrozen : Condition
  gateChanged : Condition
  gateMoved : Condition
  lateData : Condition
  stationDataBad : Condition
  lineErrors : Condition
  officeOverrun : Condition
  reportLost : Condition
  jumpHeld : Condition
deriving DecidableEq, Repr

/-- The names of the conditions (Table 11-4). -/
inductive CondName where
  | restarted | storeBad | storeResult | stationChange | windChange | liveWindUnavailable | lampMismatch | gateFrozen
  | gateChanged | gateMoved | lateData | stationDataBad | lineErrors | officeOverrun | reportLost | jumpHeld
deriving DecidableEq, Repr

/-- The report enables: condition k in bit k − 1, and one for each report kind (R180, R188). -/
structure Enables where
  conditions : Half
  condition : Bool
  station : Bool
  jump : Bool
  result : Bool
deriving DecidableEq, Repr

/-- Every enable set (R198). -/
def Enables.all : Enables := ⟨0xFFFF, true, true, true, true⟩

/-- The open load buffer (R192). A write never leaves a gap, so the fill count is the length of the content. -/
structure LoadBuffer where
  table : TableCode
  length : Nat
  content : List Byte
deriving DecidableEq, Repr

/-- The six items a STORE copies (R197). -/
structure StoredItems where
  stations : List StationEntry
  schedT : List SchedEntry
  schedS : List SchedEntry
  hill : HillTable
  distance : List DistanceEntry
  enables : Enables
deriving DecidableEq, Repr

/-- A store in flight: the copy and the hill time of its acceptance (R197). -/
structure StoreJob where
  items : StoredItems
  accepted : Time
deriving DecidableEq, Repr

/-- An item of the settings store: never written, failing its check value, or stored (R198). -/
inductive StoreItem (α : Type) where
  | unwritten
  | failing
  | stored (a : α)
deriving DecidableEq, Repr

/-- The settings store (12.5). -/
structure SettingsStore where
  stations : StoreItem (List StationEntry)
  schedT : StoreItem (List SchedEntry)
  schedS : StoreItem (List SchedEntry)
  hill : StoreItem HillTable
  distance : StoreItem (List DistanceEntry)
  enables : StoreItem Enables
deriving DecidableEq, Repr

/-- A settings store that has never been written. -/
def SettingsStore.blank : SettingsStore := ⟨.unwritten, .unwritten, .unwritten, .unwritten, .unwritten, .unwritten⟩

/-- A RESET taken and waiting for its effect: CLEAR or KEEP, and whether its reply has been sent (R199). -/
structure TakenReset where
  clear : Bool
  replySent : Bool
deriving DecidableEq, Repr

end Sys2Proof.Machine
end

