-- ==== Sys2Proof/Machine/Operands.lean ====
section
/-! DEFINITION. The fields of frames as bytes: the codes of Tables 2-10, 2-15 and 2-18, the encodings of R28 and R29, the
CRC and the escapes of R1 to R3, and the payloads a station sends (R17). -/

namespace Sys2Proof.Machine

/-! ### Numbers as bytes (R28, R188) -/

/-- One byte. -/
def u8 (n : Nat) : List Byte := [BitVec.ofNat 8 n]

/-- Two bytes, high byte first (R28). -/
def u16 (n : Nat) : List Byte := [BitVec.ofNat 8 (n / 256), BitVec.ofNat 8 n]

/-- Two bytes, two's complement (R28). -/
def i16 (z : Int) : List Byte := u16 (z % 65536).toNat

/-- A hill time: four bytes (R29). -/
def u32 (t : Time) : List Byte := u16 (t.toNat / 65536) ++ u16 (t.toNat % 65536)

/-- A yes/no, on/off or set/clear field: one byte (R29). -/
def flagByte (b : Bool) : List Byte := if b then [1] else [0]

/-- A field that may be absent: an indication byte, then the value when present (R29). -/
def optional {α : Type} (f : α → List Byte) : Option α → List Byte
  | none => [0]
  | some a => 1 :: f a

/-- The value of two bytes, high byte first. -/
def natOf (high low : Byte) : Nat := high.toNat * 256 + low.toNat

/-- The value of two bytes in two's complement. -/
def intOf (high low : Byte) : Int :=
  if natOf high low < 32768 then (natOf high low : Int) else (natOf high low : Int) - 65536

/-- A number from bits, the first bit the least. -/
def bitsByte (bits : List Bool) : Nat := bits.foldr (fun b n => 2 * n + b.toNat) 0

/-- Bit `k` of a byte. -/
def bitOf (b : Byte) (k : Nat) : Bool := b.toNat.testBit k

/-! ### Codes -/

/-- Table 2-15. -/
def Lamp.code : Lamp → Nat
  | .off => 0
  | .red => 1
  | .yellow => 2
  | .green => 3
  | .greenFlash => 4

/-- Table 2-15, read. -/
def Lamp.ofCode : Nat → Option Lamp
  | 0 => some .off
  | 1 => some .red
  | 2 => some .yellow
  | 3 => some .green
  | 4 => some .greenFlash
  | _ => none

/-- Table 2-15. -/
def segCode : Seg → Nat
  | .T => 1
  | .S => 2

/-- Table 2-15. -/
def portCode : Port → Nat
  | .T => 1
  | .S => 2
  | .O => 3

/-- Table 2-15, read. -/
def portOfCode : Nat → Option Port
  | 1 => some .T
  | 2 => some .S
  | 3 => some .O
  | _ => none

/-- The segment of a station port; port O has none. -/
def segOfPort : Port → Option Seg
  | .T => some .T
  | .S => some .S
  | .O => none

/-- The port of a segment. -/
def portOfSeg : Seg → Port
  | .T => .T
  | .S => .S

/-- Table 2-15. -/
def Presence.code : Presence → Nat
  | .absent => 0
  | .present => 1
  | .missing => 2

/-- Table 2-15. -/
def Status.code : Status → Nat
  | .ok => 0
  | .busy => 1
  | .notReady => 2
  | .badRequest => 3
  | .badValue => 4
  | .wrongState => 5
  | .locked => 6
  | .notFound => 7
  | .full => 8

/-- Table 2-18. -/
def CompState.code : CompState → Nat
  | .prepare => 0
  | .r1Open => 1
  | .r1Closed => 2
  | .r2Open => 3
  | .final => 4

/-- Table 2-18. -/
def RecState.code : RecState → Nat
  | .cleared => 1
  | .green => 2
  | .late => 3
  | .inRun => 4
  | .flight => 5
  | .landing => 6
  | .measuring => 7
  | .marking => 8
  | .held => 9

/-- Table 2-18. -/
def JumpReason.code : JumpReason → Nat
  | .advance => 1
  | .needs => 2
  | .hold => 3
  | .lightLost => 4
  | .windTimeout => 5
  | .liveWindUnavailable => 6
  | .annulled => 7
  | .disqualified => 8
  | .scored => 9
  | .dns => 10

/-- Table 2-18; that the bits it does not name are 0 is the model's choice (log 12). -/
def Needs.code (n : Needs) : Nat := bitsByte [n.distance, n.marks]

/-- Table 2-18; that the bits it does not name are 0 is the model's choice (log 12). -/
def RecFlags.code (f : RecFlags) : Nat :=
  bitsByte [f.early, f.late, f.reinstated, f.timeEstimated, f.noWind, f.landingEstimated, f.gateMoved]

/-- Table 2-18. -/
def WindState.code : WindState → Nat
  | .lost => 0
  | .active => 1
  | .degraded => 2

/-- Table 2-18. -/
def Quality.code : Quality → Nat
  | .good => 1
  | .single => 2
  | .mean => 3
  | .repeated => 4
  | .missing => 5

/-- Table 2-18. -/
def LandingSource.code : LandingSource → Nat
  | .none => 0
  | .array => 1

/-- Table 2-18. -/
def DistSource.code : DistSource → Nat
  | .array => 1
  | .console => 2
  | .office => 3

/-- Table 2-18. -/
def ResultStatus.code : ResultStatus → Nat
  | .ok => 1
  | .dsq => 2

/-- R194. -/
def StationKind.code : StationKind → Nat
  | .wind => 1
  | .gate => 2
  | .light => 3
  | .coach => 4
  | .cellA => 5
  | .cellB => 6
  | .takeoff => 7
  | .landing => 8
  | .judge => 9
  | .dist => 10
  | .board => 11
  | .aux => 12

/-- Table 12-2. -/
def TableCode.code : TableCode → Nat
  | .stations => 1
  | .schedT => 2
  | .schedS => 3
  | .hill => 4
  | .distance => 5
  | .competitors => 6

/-- Table 12-2, read. -/
def TableCode.ofCode : Nat → Option TableCode
  | 1 => some .stations
  | 2 => some .schedT
  | 3 => some .schedS
  | 4 => some .hill
  | 5 => some .distance
  | 6 => some .competitors
  | _ => none

/-- Table 2-11. -/
def PageKind.code : PageKind → Nat
  | .current => 1
  | .leaders => 2
  | .countdown => 3

/-- The kind of a station's role. -/
def StationRole.kind : StationRole → StationKind
  | .wind _ => .wind
  | .gate => .gate
  | .light => .light
  | .coach => .coach
  | .cellA => .cellA
  | .cellB => .cellB
  | .takeoff => .takeoff
  | .landing _ _ => .landing
  | .judge _ => .judge
  | .dist => .dist
  | .board _ => .board
  | .aux => .aux

/-- Kind codes of frames (Table 2-10). -/
inductive FrameKind where
  | time | poll | lamp | page | pass | none | wind | edge | gate | coach | style | dist | lampstat | request | reply
  | report | mirror
deriving DecidableEq, Repr

/-- Table 2-10. -/
def FrameKind.code : FrameKind → Nat
  | .time => 0x01
  | .poll => 0x02
  | .lamp => 0x03
  | .page => 0x04
  | .pass => 0x05
  | .none => 0x10
  | .wind => 0x11
  | .edge => 0x12
  | .gate => 0x13
  | .coach => 0x14
  | .style => 0x15
  | .dist => 0x16
  | .lampstat => 0x17
  | .request => 0x20
  | .reply => 0x21
  | .report => 0x22
  | .mirror => 0x23

/-- The kind code as the byte of a frame. -/
def FrameKind.byte (k : FrameKind) : Byte := BitVec.ofNat 8 k.code

/-! ### Results as bytes (R29) -/

/-- R165: the competition total is the sum of the round totals present. -/
def ResultEntry.total (e : ResultEntry) : Nat := e.round1.getD 0 + e.round2.getD 0

/-- R165: the number of round totals present. -/
def ResultEntry.rounds (e : ResultEntry) : Nat := e.round1.isSome.toNat + e.round2.isSome.toNat

/-- The last jump detail; log 12 says how absent points parts are sent. -/
def JumpDetail.bytes (d : JumpDetail) : List Byte :=
  u8 d.round ++ u16 d.distance ++ optional u16 d.speed ++ u8 (d.gate.getD 0) ++
    optional u16 (d.points.map (·.distancePoints)) ++ optional u16 (d.points.map (·.style)) ++
    optional i16 (d.points.map (·.gateComp)) ++ optional i16 (d.points.map (·.windComp)) ++
    optional u16 (d.points.map (·.roundTotal))

/-- A result entry with its rank (R170). -/
def ResultEntry.bytes (e : ResultEntry) (rank : Option Nat) : List Byte :=
  u16 e.bib ++ optional u16 e.round1 ++ optional u16 e.round2 ++ u16 e.total ++ u16 e.rounds ++
    u8 e.status.code ++ optional u16 rank

/-- An entry of a RESULTS_READ reply (R170). -/
def RankedEntry.bytes (withDetail : Bool) (e : RankedEntry) : List Byte :=
  e.entry.bytes e.rank ++ if withDetail then optional JumpDetail.bytes e.entry.detail else []

/-- The fields common to both parts of READ_JUMP after the slot (Table 5-7). -/
def JumpRecord.commonBytes (r : JumpRecord) : List Byte := u16 r.bib ++ u8 r.state.code ++ u32 r.clearTime

/-- Table 5-7, part 0, after the common fields. -/
def JumpRecord.part0Bytes (r : JumpRecord) : List Byte :=
  u8 r.round ++ u8 r.needs.code ++ u8 r.flags.code ++ optional u32 r.greenTime ++ optional u32 r.greenExpiryTime ++
    optional u8 r.gate ++ flagByte r.coachRequest ++ optional u8 r.juryGate ++ optional u32 r.gateLeftTime ++
    optional u32 r.cellATime ++ optional u32 r.cellBTime ++ optional u16 r.speed ++ optional u32 r.takeoffTime

/-- An item of a wind means list. -/
def WindMean.bytes (m : WindMean) : List Byte := u16 m.index ++ i16 m.mean ++ u16 m.count

/-- The marks of seats 1..5. -/
def Marks.toList (m : Marks) : List (Option Nat) := [m.seat1, m.seat2, m.seat3, m.seat4, m.seat5]

/-- Table 5-7, part 1, after the common fields. -/
def JumpRecord.part1Bytes (r : JumpRecord) : List Byte :=
  optional u32 r.landingTime ++ u8 r.landingSource.code ++ optional u16 r.preliminary ++ optional u16 r.finalDistance ++
    optional (fun d => u8 (DistSource.code d)) r.distanceSource ++ flagByte r.windCloseDone ++
    u16 r.windMeans.length ++ r.windMeans.flatMap WindMean.bytes ++ optional i16 r.windValue ++
    r.marks.toList.flatMap (optional u8) ++ flagByte r.marksLocked ++ flagByte r.marksOverdue

/-- A grid entry as READ_STATION gives it (R27). -/
def GridEntry.bytes (e : GridEntry) : List Byte := u32 e.time ++ u8 e.quality.code ++ optional i16 e.value

/-- The wind fields of READ_STATION (R99). -/
def WindReading.bytes (w : WindReading) : List Byte :=
  u8 w.state.code ++ u16 w.fill ++ u16 w.drops ++ u16 w.repeats ++ optional GridEntry.bytes w.last

/-- The reference gate with its marker (R186, Table 2-18). That the marker comes first and that UNSET carries no gate byte is the
model's choice (log 12). -/
def RefGateReading.bytes : RefGateReading → List Byte
  | .unset => u8 0
  | .pending g => u8 1 ++ u8 g
  | .fixed g => u8 2 ++ u8 g

/-- Table 11-8, part 0, after the hill time. -/
def SnapshotHead.bytes (h : SnapshotHead) : List Byte :=
  u8 h.lamp.code ++ u16 h.remaining ++ optional u8 h.gate ++ h.reference.bytes ++ optional i16 h.liveWind ++
    u8 h.competition.code

/-- A condition as READ_CONDITIONS gives it (R179). That V and I take one byte each, and that the argument takes two bytes whatever
the condition, are the model's choice (log 12). -/
def Condition.bytes (c : Condition) : List Byte := flagByte c.v ++ flagByte c.i ++ u16 c.argument

/-- The five counters (R6). -/
def Counters.bytes (c : Counters) : List Byte :=
  u16 c.framing ++ u16 c.crc ++ u16 c.address ++ u16 c.source ++ u16 c.slotTimeout

/-- The results of a reply as bytes, in the order of the request's description (Table 2-16, R29). The station kind of READ_STATION
as one byte with the image codes of R194, the ready state of IDENTIFY as one byte, the gate of SET_REFERENCE_GATE behind an
indication byte, the entry field of DISQUALIFY as 1 for created and for changed alike, and 0 in the bits of the report kinds byte
that no rule names, are the model's choice (log 12). -/
def Results.bytes : Results → List Byte
  | .nothing => []
  | .identity code revision ready => u16 code ++ u16 revision ++ flagByte ready
  | .loadOpened table length => u8 table ++ u16 length
  | .loadFill fill => u16 fill
  | .tableLoaded table length => u8 table ++ u16 length
  | .tablePiece table length offset bytes => u8 table ++ u16 length ++ u16 offset ++ bytes
  | .counters c => c.bytes
  | .station kind port presence missRun goodRun wind =>
    u8 kind.code ++ u8 (segCode port) ++ u8 presence.code ++ u16 missRun ++ u16 goodRun ++
      (match wind with
        | none => []
        | some w => w.bytes)
  | .conditions cs => cs.flatMap Condition.bytes
  | .enables bits kind1 kind2 kind3 kind4 => u16 bits.toNat ++ u8 (bitsByte [kind1, kind2, kind3, kind4])
  | .snapshotHead time head => u32 time ++ head.bytes
  | .snapshotJump time jump =>
    u32 time ++ optional (fun j => u8 j.1.val ++ j.2.commonBytes ++ j.2.part0Bytes) jump
  | .snapshotMeans time means =>
    u32 time ++ u16 means.length ++ means.flatMap fun m => u16 m.1 ++ optional i16 m.2
  | .snapshotPresences time presences =>
    u32 time ++ u16 presences.length ++ presences.flatMap fun p => u8 (Presence.code p)
  | .roundOpened state length => u8 state.code ++ u16 length
  | .round2Opened state length cut beyond => u8 state.code ++ u16 length ++ u16 cut ++ u16 beyond
  | .roundClosed state dropped => u8 state.code ++ u16 dropped
  | .listLength length => u16 length
  | .listView length state bibs => u16 length ++ u8 state.code ++ bibs.flatMap u16
  | .resultsView length state entries withDetail =>
    u16 length ++ u8 state.code ++ entries.flatMap (RankedEntry.bytes withDetail)
  | .jumpAt bib slot state => u16 bib ++ u8 slot.val ++ u8 state.code
  | .windGate on => flagByte on
  | .referenceGate gate => optional u8 gate
  | .distanceSet slot state => u8 slot.val ++ optional (fun x => u8 (RecState.code x)) state
  | .markSet slot seats locked state =>
    u8 slot.val ++ u16 seats ++ flagByte locked ++ optional (fun x => u8 (RecState.code x)) state
  | .annulled slot state => u8 slot.val ++ u8 state.code
  | .disqualified freed entry =>
    optional (fun k => u8 (Fin.val k)) freed ++ flagByte (decide (entry ≠ .unchanged))
  | .reinstated slot state flags => u8 slot.val ++ u8 state.code ++ u8 flags.code
  | .slotFree slot => u8 slot.val ++ [0]
  | .jumpPart0 slot jump => u8 slot.val ++ 1 :: (jump.commonBytes ++ jump.part0Bytes)
  | .jumpPart1 slot jump => u8 slot.val ++ 1 :: (jump.commonBytes ++ jump.part1Bytes)

/-- The report kind codes (Table 2-15). -/
def Report.kindCode : Report → Nat
  | .condition .. => 1
  | .station .. => 2
  | .jump .. => 3
  | .result .. => 4

/-- The fields of a report (Table 11-5). That the V of a CONDITION report takes one byte and its argument two bytes whatever the
condition, and that the flags of a RESULT report are sent with an indication byte, 0 where R169 says that it carries no flags, are
the model's choice (log 12). -/
def Report.fields : Report → List Byte
  | .condition number v argument => u16 number ++ flagByte v ++ u16 argument
  | .station addr old new => u8 addr ++ u8 old.code ++ u8 new.code
  | .jump bib slot state reason needs flags =>
    u16 bib ++ optional (fun k => u8 (Fin.val k)) slot ++ optional (fun x => u8 (RecState.code x)) state ++
      u8 reason.code ++ u8 needs.code ++ u8 flags.code
  | .result entry rank flags =>
    entry.bytes rank ++ optional JumpDetail.bytes entry.detail ++ optional (fun f => u8 (RecFlags.code f)) flags

/-- The frame of an office queue entry as it goes on port O, with the port's transmit sequence count for a report (R1, R28,
R184, Table 2-16). -/
def OfficeFrame.frame (txSeq : Byte) : OfficeFrame → Frame
  | .reply r => ⟨0xFF, 0x01, FrameKind.reply.byte, r.seq, r.code :: u8 r.status.code ++ r.results.bytes⟩
  | .report r => ⟨0xFF, 0x01, FrameKind.report.byte, txSeq, u8 r.kindCode ++ r.fields⟩
  | .mirror m =>
    ⟨0xFF, BitVec.ofNat 8 m.source, FrameKind.mirror.byte, m.seq, u8 (segCode m.port) ++ m.kind :: m.payload⟩

/-! ### The envelope (R1, R2, R3) -/

/-- One bit of the CRC register's division by 0x1021. -/
def crcBit (r : Half) : Half := if r.msb then (r <<< 1) ^^^ 0x1021#16 else r <<< 1

/-- One byte into the CRC register, most significant bit first (R2). -/
def crcByte (r : Half) (b : Byte) : Half :=
  crcBit (crcBit (crcBit (crcBit (crcBit (crcBit (crcBit (crcBit (r ^^^ (b.setWidth 16 <<< 8)))))))))

/-- The CRC of R2: polynomial 0x1021, register from 0xFFFF, no final XOR. -/
def crc16 (bytes : List Byte) : Half := bytes.foldl crcByte 0xFFFF#16

/-- Destination through the last payload byte (Table 2-1). -/
def Frame.body (f : Frame) : List Byte :=
  f.destination :: f.source :: f.kind :: f.sequence :: BitVec.ofNat 8 f.payload.length :: f.payload

/-- The content bytes of a frame, CRC included (Table 2-1, R2). -/
def Frame.content (f : Frame) : List Byte := f.body ++ u16 (crc16 f.body).toNat

/-- R1: the escapes of content bytes. -/
def escapeByte (b : Byte) : List Byte := if b = 0x7A#8 ∨ b = 0x7B#8 then [0x7B#8, b ^^^ 0x40#8] else [b]

/-- R1: a frame on the line behind a delimiter that already stands there: its content, escaped, and its closing delimiter. -/
def Frame.behindDelimiter (f : Frame) : List Byte := f.content.flatMap escapeByte ++ [0x7A#8]

/-- R1: a frame on the line, delimiter to delimiter. -/
def Frame.line (f : Frame) : List Byte := 0x7A#8 :: f.behindDelimiter

/-- R1: frames sent with no pause between them: one delimiter stands between two. -/
def linesOf : List Frame → List Byte
  | [] => []
  | fs => 0x7A#8 :: fs.flatMap Frame.behindDelimiter

/-- R26: the two bytes of an abort. -/
def abortBytes : List Byte := [0x7B#8, 0x7A#8]

/-- R1: the bytes of the frame a line unit sends: with no opening delimiter of its own when the closing delimiter of the frame
before stands right ahead of it. -/
def LineUnit.bytes (u : LineUnit) : List Byte :=
  match u.shifter, u.ahead with
  | none, _ => []
  | some f, .delimiter _ => f.behindDelimiter
  | some f, _ => f.line

/-! ### The transmit shifter (R1, R10, R26) -/

/-- R1: a frame starts. It follows the frame before with no pause, and shares its delimiter, when that delimiter has been sent at
this hill time (log 9). -/
def LineUnit.start (now : Time) (f : Frame) (u : LineUnit) : LineUnit :=
  { u with shifter := some f, ahead := if u.ahead = .delimiter now then .delimiter now else .idle }

/-- The closing delimiter of the frame being sent has been sent. -/
def LineUnit.close (now : Time) (u : LineUnit) : LineUnit := { u with shifter := none, ahead := .delimiter now }

/-- The frame still in the shifter was sent some time ago, and nothing that it left on the line reaches up to now (log 9). -/
def LineUnit.settle (u : LineUnit) : LineUnit :=
  match u.shifter with
  | none => u
  | some _ => { u with shifter := none, ahead := .idle }

/-- R26: an abort ends the frame being sent; a unit that sends nothing puts nothing on the line. -/
def LineUnit.abortSending (now : Time) (u : LineUnit) : LineUnit :=
  match u.shifter with
  | none => u
  | some _ => { u with shifter := none, ahead := .abort now }

/-- R3: the content of the bytes between two delimiters, escapes removed; none for an abort, an escape byte followed by the
delimiter. -/
def unescape : List Byte → Option (List Byte)
  | [] => some []
  | b :: rest =>
    if b = 0x7B#8 then
      match rest with
      | [] => none
      | c :: rest' => (unescape rest').map ((c ^^^ 0x40#8) :: ·)
    else (unescape rest).map (b :: ·)

/-- The port counters (Table 2-4). -/
inductive CounterName where
  | framing | crc | address | source | slotTimeout
deriving DecidableEq, Repr

/-- Table 2-2: an address a frame may be sent to. -/
def validDestination (a : Nat) : Bool := decide (a = 0x01 ∨ (0x10 ≤ a ∧ a ≤ 0xEF) ∨ a = 0xFF)

/-- The receive checks of R4 on the content a line unit assembled, in the order of Table 2-3: the counter of the first check
that fails. `slotStation` is the station whose slot is open. -/
def receiveCheck (port : Port) (slotStation : Option Nat) (content : List Byte) : Option CounterName :=
  match content with
  | destination :: source :: _kind :: _sequence :: length :: _rest =>
    if content.length < 7 then some .framing
    else if 127 < content.length then some .framing
    else if length.toNat + 7 ≠ content.length then some .framing
    else if u16 (crc16 (content.take (content.length - 2))).toNat ≠ content.drop (content.length - 2) then some .crc
    else if validDestination destination.toNat = false then some .address
    else match port with
      | .O => none
      | _ =>
        if destination.toNat ≠ 0x01 then some .address
        else if slotStation = some source.toNat then none
        else some .source
  | _ => some .framing

/-! ### Station payloads (R17, Tables 2-12 to 2-14) -/

/-- A byte list as samples of a WIND frame (Table 2-12). -/
def samplesOf : Nat → List Byte → List Sample
  | n + 1, a :: b :: c :: d :: e :: f :: g :: h :: i :: rest =>
    ⟨natOf a b, natOf c d, bitOf i 0, natOf e f, natOf g h, bitOf i 1⟩ :: samplesOf n rest
  | _, _ => []

/-- An edge item (Table 2-13). -/
structure EdgeItem where
  kind : Nat
  sensor : Nat
  mark : Byte
  offset : Nat
deriving DecidableEq, Repr

/-- A byte list as edge items. -/
def edgeItemsOf : Nat → List Byte → List EdgeItem
  | n + 1, k :: sensor :: mark :: h :: l :: rest => ⟨k.toNat, sensor.toNat, mark, natOf h l⟩ :: edgeItemsOf n rest
  | _, _ => []

/-- An edge item as bytes. -/
def EdgeItem.bytes (e : EdgeItem) : List Byte := u8 e.kind ++ u8 e.sensor ++ e.mark :: u16 e.offset

/-- Edge kind codes (Table 2-13). -/
def beamCode : Nat := 1

/-- Table 2-13. -/
def gateLeftCode : Nat := 2

/-- Table 2-13. -/
def contactCode : Nat := 3

/-- R17: the edge kind a station kind sends, and an offset in 0..9999. -/
def EdgeItem.fits (station : StationKind) (e : EdgeItem) : Bool :=
  let expected := match station with
    | .gate => gateLeftCode
    | .landing => contactCode
    | _ => beamCode
  decide (e.kind = expected ∧ e.offset ≤ 9999)

/-- A station frame that passed SDIR's whole-frame checks, with the items that passed theirs (R17). -/
inductive StationFrame where
  | wind (samples : List Sample)
  | gate (report : Nat) (items : List EdgeItem)
  | edge (items : List EdgeItem)
  | coach (bib : Nat)
  | style (bib mark : Nat)
  | dist (bib distance : Nat)
  | lampstat (lamp : Lamp)
  | pass
  | none
deriving DecidableEq, Repr

/-- A bib in range (Table 1-3). -/
def bibInRange (bib : Nat) : Bool := decide (1 ≤ bib ∧ bib ≤ 999)

/-- Table 2-7: the kind codes a station of a kind may send. -/
def maySend (station : StationKind) (code : Nat) : Bool :=
  decide (code = FrameKind.none.code ∨ code = FrameKind.pass.code) ||
    match station with
    | .wind => decide (code = FrameKind.wind.code)
    | .gate => decide (code = FrameKind.gate.code)
    | .light => decide (code = FrameKind.lampstat.code)
    | .coach => decide (code = FrameKind.coach.code)
    | .cellA | .cellB | .takeoff | .landing => decide (code = FrameKind.edge.code)
    | .judge => decide (code = FrameKind.style.code)
    | .dist => decide (code = FrameKind.dist.code)
    | .board | .aux => false

/-- R17: an accepted frame, the payload as it stands after the removals, and whether an item was removed. -/
structure AcceptedFrame where
  frame : StationFrame
  payload : List Byte
  thinned : Bool
deriving DecidableEq, Repr

/-- R17: the form checks of an admitted frame; none when the frame fails whole. -/
def formCheck (station : StationKind) (code : Nat) (payload : List Byte) : Option AcceptedFrame :=
  if code = FrameKind.none.code then
    if payload = [] then some ⟨.none, payload, false⟩ else none
  else if code = FrameKind.pass.code then
    if payload.length ≤ Config.passLimit then some ⟨.pass, payload, false⟩ else none
  else if code = FrameKind.wind.code then
    match payload with
    | n :: rest =>
      if n.toNat ≤ 2 ∧ rest.length = 9 * n.toNat then some ⟨.wind (samplesOf n.toNat rest), payload, false⟩ else none
    | [] => none
  else if code = FrameKind.gate.code then
    match payload with
    | report :: n :: rest =>
      if report.toNat ≤ 40 ∧ n.toNat ≤ 2 ∧ rest.length = 5 * n.toNat then
        let items := edgeItemsOf n.toNat rest
        let kept := items.filter (EdgeItem.fits station)
        some ⟨.gate report.toNat kept, report :: u8 kept.length ++ kept.flatMap EdgeItem.bytes,
          decide (kept.length < items.length)⟩
      else none
    | _ => none
  else if code = FrameKind.edge.code then
    match payload with
    | n :: rest =>
      if 1 ≤ n.toNat ∧ n.toNat ≤ 8 ∧ rest.length = 5 * n.toNat then
        let items := edgeItemsOf n.toNat rest
        let kept := items.filter (EdgeItem.fits station)
        some ⟨.edge kept, u8 kept.length ++ kept.flatMap EdgeItem.bytes, decide (kept.length < items.length)⟩
      else none
    | [] => none
  else if code = FrameKind.coach.code then
    match payload with
    | [h, l] => if bibInRange (natOf h l) then some ⟨.coach (natOf h l), payload, false⟩ else none
    | _ => none
  else if code = FrameKind.style.code then
    match payload with
    | [h, l, mark] =>
      if bibInRange (natOf h l) ∧ mark.toNat ≤ 40 then some ⟨.style (natOf h l) mark.toNat, payload, false⟩ else none
    | _ => none
  else if code = FrameKind.dist.code then
    match payload with
    | [h, l, dh, dl] =>
      if bibInRange (natOf h l) ∧ natOf dh dl ≤ 600 then some ⟨.dist (natOf h l) (natOf dh dl), payload, false⟩ else none
    | _ => none
  else if code = FrameKind.lampstat.code then
    match payload with
    | [c] => (Lamp.ofCode c.toNat).map fun lamp => ⟨.lampstat lamp, payload, false⟩
    | _ => none
  else none

end Sys2Proof.Machine
end

