-- ==== Sys2Proof/Machine/State.lean ====
section
/-! DEFINITION. The state of the LH-210, unit by unit as Table 1-1 lists them, the reasons a step could stop, and the state
right after a power-on reset. -/

namespace Sys2Proof.Machine

/-- A step of this block never faults: every refusal of the manual is a reply status and every line failure is a counter and
a condition. There is no constructor, so no fault can be raised (safe). -/
inductive Fault where
deriving DecidableEq, Repr

/-- Why a command has no meaning. -/
inductive Refusal where
  /-- Raised by `exec` for a row that has no meaning yet; no arm raises it (safe). -/
  | notModelled (mnemonic : String)
deriving DecidableEq, Repr

/-- The state of the part. -/
structure State where
  /-- The commands waiting, first in first out. -/
  pending : List Instr
  /-- R200: the reset pin is driven low, or the supply is out of range. -/
  heldInReset : Bool
  /-- R190: the ready state. -/
  ready : Bool
  /-- R178: the kind of the last reset. -/
  lastReset : ResetKind
  /-- R199: a RESET waiting for its effect. -/
  takenReset : Option TakenReset
  lineT : LineUnit
  lineS : LineUnit
  lineO : LineUnit
  lsc : Scheduler
  tables : Tables
  hck : HillClock
  wnd : WindUnit
  stu : StartUnit
  flu : FlightUnit
  jtb : JumpTable
  /-- CLS: the start list, head first (R44). -/
  startList : List Nat
  /-- CLS: the results list, in ranking order (R167). -/
  results : List ResultEntry
  /-- CLS: the competition state (R50). -/
  competition : CompState
  dsp : Display
  conditions : Conditions
  enables : Enables
  office : OfficeQueue
  snapshot : Option Snapshot
  loadBuffer : Option LoadBuffer
  /-- OFU: the store engine, idle or writing (R197). -/
  engine : Option StoreJob
  store : SettingsStore
deriving DecidableEq, Repr

/-- What a step answers. -/
abbrev Out := Host.Outcome State Fault Refusal

/-- A condition with I = 0 and no argument. -/
def Condition.clear (v : Bool) : Condition := ⟨v, false, 0⟩

/-- R178: the conditions after a reset whose store read gave STORE_BAD the state `storeBad`. -/
def Conditions.afterReset (storeBad : Bool) : Conditions where
  restarted := .clear false
  storeBad := .clear storeBad
  storeResult := .clear false
  stationChange := .clear false
  windChange := .clear false
  liveWindUnavailable := .clear true
  lampMismatch := .clear false
  gateFrozen := .clear true
  gateChanged := .clear false
  gateMoved := .clear false
  lateData := .clear false
  stationDataBad := .clear false
  lineErrors := .clear false
  officeOverrun := .clear false
  reportLost := .clear false
  jumpHeld := .clear false

/-- Table 7-3, the power-on column, with the wind-gate switch the HILL table gives. -/
def StartUnit.afterPowerOn (windGate : Bool) : StartUnit where
  gate := none
  candidate := none
  candidateCount := 0
  coachRequest := none
  pendingReference := none
  roundReference := none
  referenceFixed := false
  windGate := windGate
  lastLiveWind := none
  windWait := none
  greenFlash := none
  greenExpiry := none
  flashing := false
  lamp := .off
  echoRun := 0

/-- The part at the release of a power-on reset whose settings store was never written (R198, R200; log 3): not READY, hill
time 0, no stations, empty schedules, the HILL defaults, every enable set, STORE_BAD at V = 1. -/
def State.reset : State where
  pending := []
  heldInReset := false
  ready := false
  lastReset := .powerOn
  takenReset := none
  lineT := .fresh
  lineS := .fresh
  lineO := .fresh
  lsc := ⟨0, .fresh, .fresh, [], .off⟩
  tables := ⟨[], [], [], .defaults, [], []⟩
  hck := ⟨0, []⟩
  wnd := ⟨[], none, []⟩
  stu := .afterPowerOn HillTable.defaults.windGateAtPowerOn
  flu := .idle
  jtb := .empty
  startList := []
  results := []
  competition := .prepare
  dsp := .fresh
  conditions := .afterReset true
  enables := .all
  office := .empty
  snapshot := none
  loadBuffer := none
  engine := none
  store := .blank

end Sys2Proof.Machine
end

