-- ==== Sys2Proof/Machine/Ops.lean ====
section
/-! DEFINITION. The operations every unit uses: the order of hill times, the rounding of the scoring path, the access to
lines, segments, stations and jump slots, and the office queue. -/

namespace Sys2Proof.Machine

/-! ### Hill time (R30, R31) -/

/-- R31: `a` is later than `b`, where `b` is the value stored first, so that a difference of exactly 2^31 makes `a` the
later. -/
def laterThan (a b : Time) : Bool := decide (1 ≤ (a - b).toNat ∧ (a - b).toNat ≤ 2147483648)

/-- R31: `a` is at or after `b`, where `b` is the value stored first. -/
def atOrAfter (a b : Time) : Bool := decide (a = b) || laterThan a b

/-- R31: `a` is earlier than `b`, where `b` is the value stored first. -/
def earlierThan (a b : Time) : Bool := !atOrAfter a b

/-- R31: `a` is at or before `b`, where `b` is the value stored first. -/
def atOrBefore (a b : Time) : Bool := !laterThan a b

/-- R30: a hill time plus a duration, reduced mod 2^32. -/
def after (t : Time) (duration : Nat) : Time := t + BitVec.ofNat 32 duration

/-- R31: the window [a, b] holds `t`; the ends are the values stored first. -/
def inWindow (t a b : Time) : Bool := atOrAfter t a && atOrBefore t b

/-! ### Rounding (R142) -/

/-- R142: a division rounded half away from zero; the divisor is positive. -/
def roundDiv (n : Int) (d : Nat) : Int :=
  if 0 ≤ n then (2 * n + d) / (2 * d) else -((2 * (-n) + d) / (2 * d))

/-- A value clamped to −bound..+bound (R151, R162). -/
def clampTo (bound : Int) (z : Int) : Int := if z < -bound then -bound else if bound < z then bound else z

/-! ### Access -/

/-- The event's hill time: its "now" (R38). -/
def State.now (s : State) : Time := s.hck.time

/-- The state with the hill time of an event (R38). -/
def State.setNow (t : Time) (s : State) : State := { s with hck := { s.hck with time := t } }

/-- The line unit of a port. -/
def State.line (s : State) : Port → LineUnit
  | .T => s.lineT
  | .S => s.lineS
  | .O => s.lineO

/-- The state with a port's line unit replaced. -/
def State.setLine (p : Port) (u : LineUnit) (s : State) : State :=
  match p with
  | .T => { s with lineT := u }
  | .S => { s with lineS := u }
  | .O => { s with lineO := u }

/-- What LSC keeps for a segment. -/
def State.seg (s : State) : Seg → Segment
  | .T => s.lsc.segT
  | .S => s.lsc.segS

/-- The state with a segment's part of LSC replaced. -/
def State.setSeg (p : Seg) (g : Segment) (s : State) : State :=
  match p with
  | .T => { s with lsc := { s.lsc with segT := g } }
  | .S => { s with lsc := { s.lsc with segS := g } }

/-- The entry of an address in a STATIONS table. -/
def stationAt (stations : List StationEntry) (addr : Nat) : Option StationEntry :=
  stations.find? fun e => decide (e.addr = addr)

/-- The entry of the first station of a kind in a STATIONS table. -/
def stationOfKind (stations : List StationEntry) (kind : StationKind) : Option StationEntry :=
  stations.find? fun e => decide (e.role.kind = kind)

/-- The presence state of an address (R11). -/
def linkAt (links : List Link) (addr : Nat) : Option Link := links.find? fun l => decide (l.addr = addr)

/-- The presence of the station of a kind; none when the active STATIONS table holds no such station (R12). -/
def State.presenceOf (s : State) (kind : StationKind) : Option Presence :=
  match stationOfKind s.tables.stations kind with
  | none => none
  | some e => (linkAt s.lsc.links e.addr).map (·.presence)

/-- Whether the station of a kind is PRESENT. -/
def State.isPresent (s : State) (kind : StationKind) : Bool := decide (s.presenceOf kind = some .present)

/-- A round is open (R50). -/
def CompState.isOpen : CompState → Bool
  | .r1Open => true
  | .r2Open => true
  | _ => false

/-! ### Jump slots (R60) -/

/-- The record in a slot. -/
def JumpTable.get (t : JumpTable) (k : Fin 4) : Option JumpRecord :=
  match k with
  | 0 => t.slot0
  | 1 => t.slot1
  | 2 => t.slot2
  | 3 => t.slot3

/-- The table with a slot replaced. -/
def JumpTable.set (t : JumpTable) (k : Fin 4) (r : Option JumpRecord) : JumpTable :=
  match k with
  | 0 => { t with slot0 := r }
  | 1 => { t with slot1 := r }
  | 2 => { t with slot2 := r }
  | 3 => { t with slot3 := r }

/-- The records with their slots, in ascending slot. -/
def JumpTable.records (t : JumpTable) : List (Fin 4 × JumpRecord) :=
  (t.slot0.map ((0 : Fin 4), ·)).toList ++ (t.slot1.map ((1 : Fin 4), ·)).toList ++
    (t.slot2.map ((2 : Fin 4), ·)).toList ++ (t.slot3.map ((3 : Fin 4), ·)).toList

/-- A serial above that of every record: the one a record created now gets. -/
def JumpTable.nextSerial (t : JumpTable) : Nat := t.records.foldl (fun n x => max n (x.2.serial + 1)) 0

/-- The first record that meets a test, with its slot. -/
def JumpTable.find (t : JumpTable) (p : JumpRecord → Bool) : Option (Fin 4 × JumpRecord) :=
  t.records.find? fun x => p x.2

/-- The record that holds a bib (R60). -/
def JumpTable.holding (t : JumpTable) (bib : Nat) : Option (Fin 4 × JumpRecord) :=
  t.find fun r => decide (r.bib = bib)

/-- R60: the lowest-numbered free slot. -/
def JumpTable.freeSlot (t : JumpTable) : Option (Fin 4) :=
  if t.slot0.isNone then some 0
  else if t.slot1.isNone then some 1
  else if t.slot2.isNone then some 2
  else if t.slot3.isNone then some 3
  else none

/-- R64: CLEARED, GREEN or LATE. -/
def RecState.onBar : RecState → Bool
  | .cleared => true
  | .green => true
  | .late => true
  | _ => false

/-- R64: IN_RUN, FLIGHT or LANDING. -/
def RecState.onCourse : RecState → Bool
  | .inRun => true
  | .flight => true
  | .landing => true
  | _ => false

/-- One of the six states that at most one record is in (R64). -/
def RecState.active (x : RecState) : Bool := x.onBar || x.onCourse

/-- The record in one of given states. -/
def JumpTable.inState (t : JumpTable) (p : RecState → Bool) : Option (Fin 4 × JumpRecord) := t.find fun r => p r.state

/-- The state with the record of a slot changed; a free slot stays free. -/
def State.updateRecord (k : Fin 4) (f : JumpRecord → JumpRecord) (s : State) : State :=
  { s with jtb := s.jtb.set k ((s.jtb.get k).map f) }

/-! ### The office queue (R182, R184) -/

/-- R182: the frames the queue holds, the one in transmission and a place taken included. -/
def OfficeQueue.count (q : OfficeQueue) : Nat :=
  q.replies.length + q.reports.length + q.mirrors.length + q.sending.isSome.toNat + q.place.toNat

/-- The MIRROR frames the queue holds, the one in transmission included. -/
def OfficeQueue.mirrorCount (q : OfficeQueue) : Nat :=
  q.mirrors.length +
    match q.sending with
    | some (.mirror _) => 1
    | _ => 0

/-- R182: a MIRROR is admitted below its limit and otherwise dropped with no condition. -/
def State.offerMirror (m : Mirror) (s : State) : State :=
  if s.office.count < Config.mirrorLimit then { s with office := { s.office with mirrors := s.office.mirrors ++ [m] } }
  else s

/-- R184: a frame starts on port O; a REPORT takes the transmit sequence count, which then advances (R1). -/
def State.startSending (f : OfficeFrame) (s : State) : State :=
  { s with
    office := { s.office with sending := some f }
    lineO := { s.lineO.start s.now (f.frame s.lineO.txSeq) with
      txSeq := match f with
        | .report _ => s.lineO.txSeq + 1
        | _ => s.lineO.txSeq } }

/-- R184: when OLU is free, it starts the oldest REPLY, else the oldest REPORT, else the oldest MIRROR. -/
def State.pumpOffice (s : State) : State :=
  match s.office.sending with
  | some _ => s
  | none =>
    match s.office.replies with
    | r :: rest => State.startSending (.reply r) { s with office := { s.office with replies := rest } }
    | [] =>
      match s.office.reports with
      | r :: rest => State.startSending (.report r) { s with office := { s.office with reports := rest } }
      | [] =>
        match s.office.mirrors with
        | m :: rest => State.startSending (.mirror m) { s with office := { s.office with mirrors := rest } }
        | [] => s

/-! ### Events -/

/-- An event at a hill time: held in reset the part takes no event (log 6); otherwise it takes the event whole, and then OLU
starts a frame if it is free (R184). -/
def event (t : Time) (body : State → State) (s : State) : Out :=
  if s.heldInReset then .next s else .next (body (s.setNow t)).pumpOffice

end Sys2Proof.Machine
end

