-- ==== Sys2Proof/Machine/Clock.lean ====
section
/-! DEFINITION. One time unit of the hill clock with no command waiting: which commands fall due (R30, R32, R39, R41; log 1). -/

namespace Sys2Proof.Machine

/-- A command due when an expiry is armed for a hill time (R39). -/
def dueAt (t : Time) (expiry : Option Time) (c : Instr) : List Instr := if expiry = some t then [c] else []

/-- The four slots of the jump table. -/
def slotNumbers : List (Fin 4) := [0, 1, 2, 3]

/-- R32, R41: the cycle start at a hill time, and the deadlines tested at it. -/
def dueAtCycle (s : State) (t : Time) : List Instr :=
  if s.ready && decide (t.toNat % Config.cycleLength = 0 ∧ t ≠ 0) then
    [.cycleStart t, .landingSettle t, .flightExpiry t] ++ slotNumbers.map (Instr.windClose t)
  else []

/-- R10, R26: the expiries of LSC on a segment. -/
def dueOnSegment (s : State) (t : Time) (p : Seg) : List Instr :=
  let g := s.seg p
  dueAt t (g.slot.bind (·.windowClose)) (.replyWindowClose t p) ++
    dueAt t (g.slot.map (·.budgetEnd)) (.slotBudgetEnd t p) ++ dueAt t g.silentUntil (.restartSilenceEnd t p)

/-- R123, R157: the expiries of the record in a slot. -/
def dueInSlot (s : State) (t : Time) (k : Fin 4) : List Instr :=
  dueAt t ((s.jtb.get k).bind (·.confirmExpiry)) (.confirmExpiry t k) ++
    dueAt t ((s.jtb.get k).bind (·.marksExpiry)) (.marksWindowExpiry t k)

/-- Table 3-2: the commands that fall due at a hill time. -/
def dueCommands (s : State) (t : Time) : List Instr :=
  dueAtCycle s t ++ dueOnSegment s t .T ++ dueOnSegment s t .S ++
    dueAt t s.stu.windWait (.windWaitExpiry t) ++ dueAt t s.stu.greenFlash (.greenFlashExpiry t) ++
    dueAt t s.stu.greenExpiry (.greenExpiry t) ++ dueAt t s.dsp.countdownExpiry (.countdownSecondExpiry t) ++
    dueAt t s.flu.inRunExpiry (.inRunExpiry t) ++ slotNumbers.flatMap (dueInSlot s t)

/-- R30: one time unit passes: hill time counts, and what falls due is queued. Held in reset, the part does nothing (R200). -/
def State.tick (s : State) : State :=
  if s.heldInReset then s
  else
    let t := after s.now 1
    { s.setNow t with pending := dueCommands s t }

end Sys2Proof.Machine
end

