-- ==== Sys2Proof/Machine/Flags.lean ====
section
/-! DEFINITION. The conditions of OFU, the part's status flags: how an indication rises, how a state follows its owner, and
the reports that follow (R177, R181, R182). -/

namespace Sys2Proof.Machine

/-- The number of a condition (Table 11-4). -/
def CondName.number : CondName → Nat
  | .restarted => 1
  | .storeBad => 2
  | .storeResult => 3
  | .stationChange => 4
  | .windChange => 5
  | .liveWindUnavailable => 6
  | .lampMismatch => 7
  | .gateFrozen => 8
  | .gateChanged => 9
  | .gateMoved => 10
  | .lateData => 11
  | .stationDataBad => 12
  | .lineErrors => 13
  | .officeOverrun => 14
  | .reportLost => 15
  | .jumpHeld => 16

/-- The conditions in number order. -/
def CondName.all : List CondName :=
  [.restarted, .storeBad, .storeResult, .stationChange, .windChange, .liveWindUnavailable, .lampMismatch, .gateFrozen,
    .gateChanged, .gateMoved, .lateData, .stationDataBad, .lineErrors, .officeOverrun, .reportLost, .jumpHeld]

/-- The state conditions of Table 11-4; the others are event conditions. -/
def CondName.isState : CondName → Bool
  | .storeBad => true
  | .liveWindUnavailable => true
  | .lampMismatch => true
  | .gateFrozen => true
  | .jumpHeld => true
  | _ => false

/-- A condition by its name. -/
def Conditions.get (cs : Conditions) : CondName → Condition
  | .restarted => cs.restarted
  | .storeBad => cs.storeBad
  | .storeResult => cs.storeResult
  | .stationChange => cs.stationChange
  | .windChange => cs.windChange
  | .liveWindUnavailable => cs.liveWindUnavailable
  | .lampMismatch => cs.lampMismatch
  | .gateFrozen => cs.gateFrozen
  | .gateChanged => cs.gateChanged
  | .gateMoved => cs.gateMoved
  | .lateData => cs.lateData
  | .stationDataBad => cs.stationDataBad
  | .lineErrors => cs.lineErrors
  | .officeOverrun => cs.officeOverrun
  | .reportLost => cs.reportLost
  | .jumpHeld => cs.jumpHeld

/-- The conditions with one replaced. -/
def Conditions.set (cs : Conditions) (c : CondName) (x : Condition) : Conditions :=
  match c with
  | .restarted => { cs with restarted := x }
  | .storeBad => { cs with storeBad := x }
  | .storeResult => { cs with storeResult := x }
  | .stationChange => { cs with stationChange := x }
  | .windChange => { cs with windChange := x }
  | .liveWindUnavailable => { cs with liveWindUnavailable := x }
  | .lampMismatch => { cs with lampMismatch := x }
  | .gateFrozen => { cs with gateFrozen := x }
  | .gateChanged => { cs with gateChanged := x }
  | .gateMoved => { cs with gateMoved := x }
  | .lateData => { cs with lateData := x }
  | .stationDataBad => { cs with stationDataBad := x }
  | .lineErrors => { cs with lineErrors := x }
  | .officeOverrun => { cs with officeOverrun := x }
  | .reportLost => { cs with reportLost := x }
  | .jumpHeld => { cs with jumpHeld := x }

/-- The state with a condition replaced. -/
def State.setCondition (c : CondName) (x : Condition) (s : State) : State :=
  { s with conditions := s.conditions.set c x }

/-- R181, R182: a refused report sets REPORT_LOST with its kind code. The CONDITION report of REPORT_LOST itself would meet the
queue that has just refused, and the occurrence it sets finds I already 1, so the refusals end here (R177). -/
def State.loseReport (kind : Nat) (s : State) : State :=
  if s.conditions.reportLost.i then s
  else s.setCondition .reportLost { s.conditions.reportLost with i := true, argument := kind }

/-- R182: a REPORT is admitted below its limit, and otherwise refused. -/
def State.offerReport (r : Report) (s : State) : State :=
  if s.office.count < Config.reportLimit then { s with office := { s.office with reports := s.office.reports ++ [r] } }
  else s.loseReport r.kindCode

/-- The E of a condition (R180). -/
def Enables.of (e : Enables) (c : CondName) : Bool := e.conditions.toNat.testBit (c.number - 1)

/-- R177: the CONDITION report of a condition, offered after READY when its E and the report kind are enabled. -/
def State.offerCondition (c : CondName) (s : State) : State :=
  if s.ready && s.enables.of c && s.enables.condition then
    s.offerReport (.condition c.number (s.conditions.get c).v (s.conditions.get c).argument)
  else s

/-- R177: an occurrence of a condition. With I already 1 it changes nothing; otherwise I becomes 1, the argument is stored and
the report is offered. -/
def State.raise (c : CondName) (argument : Nat) (s : State) : State :=
  if (s.conditions.get c).i then s
  else (s.setCondition c { s.conditions.get c with i := true, argument := argument }).offerCondition c

/-- R177: the V of a state condition, whose rise is an occurrence with argument 0. -/
def State.setV (c : CondName) (v : Bool) (s : State) : State :=
  let old := s.conditions.get c
  let s' := s.setCondition c { old with v := v }
  if v && !old.v then s'.raise c 0 else s'

/-- R181: a STATION report, while its kind is enabled. -/
def State.reportStation (addr : Nat) (old new : Presence) (s : State) : State :=
  if s.enables.station then s.offerReport (.station addr old new) else s

/-- R181: a JUMP report, while its kind is enabled. -/
def State.reportJump (r : Report) (s : State) : State := if s.enables.jump then s.offerReport r else s

/-- R181: a RESULT report, while its kind is enabled. -/
def State.reportResult (r : Report) (s : State) : State := if s.enables.result then s.offerReport r else s

/-- A counter one higher, saturating (R5, R93). -/
def countUp (n : Nat) : Nat := if n < Config.counterTop then n + 1 else n

/-- R5: one more in a counter. -/
def Counters.bump (c : Counters) : CounterName → Counters
  | .framing => { c with framing := countUp c.framing }
  | .crc => { c with crc := countUp c.crc }
  | .address => { c with address := countUp c.address }
  | .source => { c with source := countUp c.source }
  | .slotTimeout => { c with slotTimeout := countUp c.slotTimeout }

/-- R5: a counted failure of a port, which sets LINE_ERRORS with the port code even when the counter stands at its top. -/
def State.countFailure (p : Port) (c : CounterName) (s : State) : State :=
  (s.setLine p { s.line p with counters := (s.line p).counters.bump c }).raise .lineErrors (portCode p)

/-! ### Requests (R183, R188, R189) -/

/-- What a request's own rule answers: the status and results of its reply, and the state it leaves. -/
structure Answer where
  status : Status
  results : Results
  state : State

/-- A refusal, which changes no state (R189). -/
def refuse (status : Status) (s : State) : Answer := ⟨status, .nothing, s⟩

/-- An OK reply with its results. -/
def accept (results : Results) (s : State) : Answer := ⟨.ok, results, s⟩

/-- R183: the reply fills the place taken for it. -/
def State.fillPlace (seq code : Byte) (a : Answer) : State :=
  { a.state with
    office := { a.state.office with
      replies := a.state.office.replies ++ [⟨seq, code, a.status, a.results⟩]
      place := false } }

/-- A request as OFU takes it: not at all between the taking of a RESET and its effect (R199); with OFFICE_OVERRUN and no
reply when the queue is full (R183); otherwise it takes its place and is judged by READY (R189, R190) and its own rule. -/
def State.takeRequest (seq code : Byte) (beforeReady : Bool) (body : State → Answer) (s : State) : State :=
  if s.takenReset.isSome then s
  else if Config.replyLimit ≤ s.office.count then s.raise .officeOverrun FrameKind.request.code
  else
    let s' := { s with office := { s.office with place := true } }
    if s.ready || beforeReady then State.fillPlace seq code (body s')
    else State.fillPlace seq code (refuse .notReady s')

/-- A request event. -/
def request (t : Time) (seq code : Byte) (body : State → Answer) (s : State) : Out :=
  event t (State.takeRequest seq code false body) s

end Sys2Proof.Machine
end

