-- ==== Sys2Proof/Machine/Results.lean ====
section
/-! DEFINITION. The results list of CLS: the ranking order, the ranks, and the round-2 order (R52, R167, R168). -/

namespace Sys2Proof.Machine

/-- R167: `a` stands before `b` in the ranking order: OK entries first, by rounds completed descending, competition total
descending and bib ascending; then DSQ entries by bib ascending. -/
def ranksBefore (a b : ResultEntry) : Bool :=
  match a.status, b.status with
  | .ok, .dsq => true
  | .dsq, .ok => false
  | .dsq, .dsq => decide (a.bib < b.bib)
  | .ok, .ok =>
    decide (b.rounds < a.rounds) || (decide (a.rounds = b.rounds) &&
      (decide (b.total < a.total) || (decide (a.total = b.total) && decide (a.bib < b.bib))))

/-- An entry inserted at its position in the ranking order. -/
def insertRanked (e : ResultEntry) : List ResultEntry → List ResultEntry
  | [] => [e]
  | x :: rest => if ranksBefore e x then e :: x :: rest else x :: insertRanked e rest

/-- R167: an entry placed in the list, in place of the bib's earlier entry; the others keep their relative order. -/
def placeEntry (e : ResultEntry) (l : List ResultEntry) : List ResultEntry :=
  insertRanked e (l.filter fun x => decide (x.bib ≠ e.bib))

/-- The entry of a bib. -/
def entryOf (l : List ResultEntry) (bib : Nat) : Option ResultEntry := l.find? fun e => decide (e.bib = bib)

/-- The entry of a bib, or the one created for it (R73, R165, R166). -/
def entryOrNew (l : List ResultEntry) (bib : Nat) : ResultEntry :=
  (entryOf l bib).getD ⟨bib, none, none, .ok, none⟩

/-- R168: an OK entry stands ahead of another by rounds completed or, with the same rounds, by competition total. -/
def outranks (a b : ResultEntry) : Bool :=
  decide (a.status = .ok) && (decide (b.rounds < a.rounds) || (decide (a.rounds = b.rounds) && decide (b.total < a.total)))

/-- R168: the rank of an entry; a DSQ entry has none. -/
def rankIn (l : List ResultEntry) (e : ResultEntry) : Option Nat :=
  match e.status with
  | .ok => some (1 + (l.filter fun x => outranks x e).length)
  | .dsq => none

/-- The OK entries in results order (R52). -/
def okEntries (l : List ResultEntry) : List ResultEntry := l.filter fun e => decide (e.status = .ok)

/-- R52: the first Q OK entries and the run of ties with the Q-th that follows them. -/
def selection (q : Nat) (l : List ResultEntry) : List ResultEntry :=
  let ok := okEntries l
  match (ok.take q).getLast? with
  | none => []
  | some last => ok.take q ++ (ok.drop q).takeWhile fun e => decide (e.total = last.total)

/-- R52: the round-2 start order, the selection reversed. -/
def round2Order (q : Nat) (l : List ResultEntry) : List Nat := ((selection q l).map (·.bib)).reverse

/-- R53: the competition total of the last selected entry, 0 when none is selected. -/
def cutTotal (q : Nat) (l : List ResultEntry) : Nat :=
  match (selection q l).getLast? with
  | none => 0
  | some e => e.total

end Sys2Proof.Machine
end

