-- ==== Sys2Proof/Machine/Display.lean ====
section
/-! DEFINITION. The display unit DSP: its page images, the pages built from them, and their way into the slope downstream queue
(R23, R172 to R176). -/

namespace Sys2Proof.Machine

/-! ### Page fields as bytes (R172, Table 2-11) -/

/-- An unsigned page field, 0xFFFF when absent. -/
def pageNat (n : Option Nat) : List Byte := u16 (n.getD 0xFFFF)

/-- A signed page field, 0x8000 when absent. -/
def pageInt : Option Int → List Byte
  | some z => i16 z
  | none => u16 0x8000

/-- A name: a length byte, then the characters. -/
def pageName (name : List Byte) : List Byte := u8 name.length ++ name

/-- Table 11-1. -/
def DistMarker.code : DistMarker → Nat
  | .none => 0
  | .preliminary => 1
  | .final => 2

/-- The status field of a CURRENT page: NONE 0, OK 1, DSQ 2 (Table 11-1). -/
def pageStatus : Option ResultStatus → Nat
  | none => 0
  | some x => x.code

/-- The fields of a CURRENT page (Table 11-1); an empty image has every field absent (11.2). -/
def currentFields : Option CurrentImage → List Byte
  | none =>
    pageNat none ++ pageNat none ++ pageName [] ++ pageNat none ++ pageNat none ++ pageNat none ++ u8 0 ++ u8 0 ++
      pageInt none ++ pageInt none ++ pageNat none ++ pageNat none ++ pageNat none
  | some c =>
    pageNat c.round ++ pageNat (some c.bib) ++ pageName c.name ++ c.team ++ pageNat c.gate ++ pageNat c.speed ++
      pageNat c.distance ++ u8 c.marker.code ++ u8 (pageStatus c.status) ++ pageInt c.windComp ++ pageInt c.gateComp ++
      pageNat c.roundTotal ++ pageNat c.competitionTotal ++ pageNat c.rank

/-- The fields of a LEADERS page (Table 11-2). -/
def leadersFields (rows : List LeaderRow) : List Byte :=
  u16 rows.length ++ rows.flatMap fun r => u16 r.rank ++ u16 r.bib ++ pageName r.name ++ u16 r.total

/-- The fields of a COUNTDOWN page (Table 11-3). -/
def countdownFields (lamp : Lamp) (seconds : Nat) : List Byte := u8 lamp.code ++ u16 seconds

/-- The payload of a PAGE frame (Table 2-11). -/
def pagePayload (d : Display) : PageKind → List Byte
  | .current => u8 PageKind.current.code ++ currentFields d.current
  | .leaders => u8 PageKind.leaders.code ++ leadersFields d.leaders
  | .countdown => u8 PageKind.countdown.code ++ countdownFields d.countdownLamp d.countdownSeconds

/-! ### The slope queue (R23) -/

/-- A queued PAGE of a board and kind. -/
def QueuedFrame.isPage (board : Nat) (kind : PageKind) : QueuedFrame → Bool
  | .page b k _ => decide (b = board ∧ k = kind)
  | .pass .. => false

/-- R23: a PAGE coalesces into the waiting page of its board and kind, or joins the end, or is dropped. -/
def queuePage (board : Nat) (kind : PageKind) (payload : List Byte) (q : List QueuedFrame) : List QueuedFrame :=
  if q.any (QueuedFrame.isPage board kind) then
    q.map fun f => if f.isPage board kind then .page board kind payload else f
  else if q.length < Config.downstreamLimit then q ++ [.page board kind payload]
  else q

/-- A page mask holds a kind (R14). -/
def PageMask.has (m : PageMask) : PageKind → Bool
  | .current => m.current
  | .leaders => m.leaders
  | .countdown => m.countdown

/-- The boards that show a page kind, in ascending address (R172). -/
def boardsShowing (stations : List StationEntry) (kind : PageKind) : List Nat :=
  stations.filterMap fun e =>
    match e.role with
    | .board mask => if mask.has kind then some e.addr else none
    | _ => none

/-- R172: one PAGE frame from the image for each board whose mask holds the kind, offered in ascending board address. -/
def State.sendPage (kind : PageKind) (s : State) : State :=
  let g := s.seg .S
  s.setSeg .S { g with
    queue := (boardsShowing s.tables.stations kind).foldl (fun q b => queuePage b kind (pagePayload s.dsp kind) q) g.queue }

/-! ### Images (R173 to R176) -/

/-- The COMPETITORS entry of a bib (R42). -/
def competitorOf (t : List Competitor) (bib : Nat) : Option Competitor := t.find? fun c => decide (c.bib = bib)

/-- A bib's name, as COMPETITORS has it. -/
def nameOf (t : List Competitor) (bib : Nat) : List Byte := ((competitorOf t bib).map (·.name)).getD []

/-- A bib's team, as COMPETITORS has it. -/
def teamOf (t : List Competitor) (bib : Nat) : List Byte := ((competitorOf t bib).map (·.team)).getD []

/-- R173: the CURRENT image of a record, every field from the record as it stands; the gate is the latched gate, or before
that the debounced gate. -/
def State.recordImage (s : State) (r : JumpRecord) : CurrentImage where
  round := some r.round
  bib := r.bib
  name := nameOf s.tables.competitors r.bib
  team := teamOf s.tables.competitors r.bib
  gate := r.gate.or s.stu.gate
  speed := r.speed
  distance := r.finalDistance.or r.preliminary
  marker := if r.finalDistance.isSome then .final else if r.preliminary.isSome then .preliminary else .none
  status := none
  windComp := none
  gateComp := none
  roundTotal := none
  competitionTotal := none
  rank := none

/-- R173: the CURRENT image of a record, sent. -/
def State.sendCurrent (k : Fin 4) (s : State) : State :=
  match s.jtb.get k with
  | none => s
  | some r => State.sendPage .current { s with dsp := { s.dsp with current := some (s.recordImage r) } }

/-- R174: the CURRENT image of a result entry. A DSQ entry has no points; an entry with no last jump detail has no fields of
the jump. -/
def State.resultImage (s : State) (e : ResultEntry) : CurrentImage :=
  let points := match e.status with
    | .ok => e.detail.bind (·.points)
    | .dsq => none
  { round := e.detail.map (·.round)
    bib := e.bib
    name := nameOf s.tables.competitors e.bib
    team := teamOf s.tables.competitors e.bib
    gate := e.detail.bind (·.gate)
    speed := e.detail.bind (·.speed)
    distance := e.detail.map (·.distance)
    marker := if e.detail.isSome then .final else .none
    status := some e.status
    windComp := points.map (·.windComp)
    gateComp := points.map (·.gateComp)
    roundTotal := points.map (·.roundTotal)
    competitionTotal := match e.status with
      | .ok => some e.total
      | .dsq => none
    rank := rankIn s.results e }

/-- R174: the CURRENT page of a result entry. -/
def State.sendResult (e : ResultEntry) (s : State) : State :=
  State.sendPage .current { s with dsp := { s.dsp with current := some (s.resultImage e) } }

/-- R174: a record freed without a result empties the CURRENT image that holds its bib, and sends the empty page. -/
def State.emptyCurrent (bib : Nat) (s : State) : State :=
  if s.dsp.current.any fun c => decide (c.bib = bib) then
    State.sendPage .current { s with dsp := { s.dsp with current := none } }
  else s

/-- R175: the rows of the LEADERS image. -/
def State.leaderRows (s : State) : List LeaderRow :=
  ((okEntries s.results).take 8).map fun e =>
    ⟨(rankIn s.results e).getD 0, e.bib, (nameOf s.tables.competitors e.bib).take 7, e.total⟩

/-- R175: the LEADERS image rebuilt and sent. -/
def State.sendLeaders (s : State) : State :=
  State.sendPage .leaders { s with dsp := { s.dsp with leaders := s.leaderRows } }

/-- R176: a COUNTDOWN page with the commanded lamp at that instant. -/
def State.sendCountdown (seconds : Nat) (s : State) : State :=
  State.sendPage .countdown { s with dsp := { s.dsp with countdownLamp := s.stu.lamp, countdownSeconds := seconds } }

end Sys2Proof.Machine
end

