-- ==== Sys2Proof/Machine/Records.lean ====
section
/-! DEFINITION. The jump table JTB and the lamp: how a record changes state, how it is held and freed, and what the change
sends (R49, R65 to R71, R119). -/

namespace Sys2Proof.Machine

/-! ### The lamp (R119) -/

/-- R119: the commanded lamp from the competition state, the on-bar record and the flash phase. -/
def derivedLamp (competition : CompState) (t : JumpTable) (flashing : Bool) : Lamp :=
  if competition.isOpen then
    if (t.inState fun x => decide (x = .cleared)).isSome then .yellow
    else if (t.inState fun x => decide (x = .green)).isSome then (if flashing then .greenFlash else .green)
    else .red
  else .off

/-- R119: STU derives the lamp and writes it into LSC's lamp command slot. -/
def State.deriveLamp (s : State) : State :=
  let lamp := derivedLamp s.competition s.jtb s.stu.flashing
  { s with stu := { s.stu with lamp := lamp }, lsc := { s.lsc with lampSlot := lamp } }

/-! ### Reports and JUMP_HELD -/

/-- R65: the JUMP report of a record as it stands. -/
def State.reportRecord (k : Fin 4) (reason : JumpReason) (s : State) : State :=
  match s.jtb.get k with
  | none => s
  | some r => s.reportJump (.jump r.bib (some k) (some r.state) reason r.needs r.flags)

/-- R71: JUMP_HELD has V = 1 while a record is HELD. -/
def State.updateHeld (s : State) : State :=
  s.setV .jumpHeld (s.jtb.inState fun x => decide (x = .held)).isSome

/-! ### Needs and states (R68, R64) -/

/-- R68: the needs set of a HELD record. -/
def JumpRecord.needed (r : JumpRecord) : Needs := ⟨r.finalDistance.isNone, r.marksOverdue && !r.marksLocked⟩

/-- A record in a new state, with the needs set of that state (R68); a record that is not in MEASURING has no confirm expiry
(R39). -/
def JumpRecord.inState (r : JumpRecord) (x : RecState) : JumpRecord :=
  { r with
    state := x
    needs := if x = .held then r.needed else .none
    confirmExpiry := if x = .measuring then r.confirmExpiry else none }

/-- R64, R65: a state entry: the record's new state, its JUMP report, the lamp and JUMP_HELD. -/
def State.enterState (k : Fin 4) (x : RecState) (s : State) : State :=
  ((s.updateRecord k (·.inState x)).deriveLamp.reportRecord k .advance).updateHeld

/-! ### Freeing (R49, R66, R67) -/

/-- R66: the expiries of STU for the on-bar record, disarmed, and the flash phase ended. -/
def StartUnit.disarm (u : StartUnit) : StartUnit :=
  { u with windWait := none, greenFlash := none, greenExpiry := none, flashing := false }

/-- R66: the expiries outside the record that a record of a state has armed, disarmed, and FLU's working state discarded. -/
def State.disarmFor (x : RecState) (s : State) : State :=
  { s with
    stu := if x.onBar then s.stu.disarm else s.stu
    dsp := if x.onBar then { s.dsp with countdownExpiry := none } else s.dsp
    flu := if x.onCourse then .idle else s.flu }

/-- R66: a record freed, its bib sent to the head of the start list or not (R67), with the JUMP report of the freeing. -/
def State.freeRecord (k : Fin 4) (reason : JumpReason) (returns : Bool) (s : State) : State :=
  match s.jtb.get k with
  | none => s
  | some r =>
    let s' := s.disarmFor r.state
    let s'' := { s' with
      jtb := s'.jtb.set k none
      startList := if returns then r.bib :: s'.startList else s'.startList }
    (s''.deriveLamp.reportJump (.jump r.bib (some k) none reason .none r.flags)).updateHeld

/-- R66, R174, R176: a record freed without a result: its bib returns to the head of the start list, the CURRENT image that
holds the bib is emptied, and the freeing of the on-bar record sends the COUNTDOWN page. -/
def State.withdraw (k : Fin 4) (reason : JumpReason) (s : State) : State :=
  match s.jtb.get k with
  | none => s
  | some r =>
    let s' := (s.freeRecord k reason true).emptyCurrent r.bib
    if r.state.onBar then s'.sendCountdown 0 else s'

end Sys2Proof.Machine
end

