-- ==== Sys2Proof/Machine/Wind.lean ====
section
/-! DEFINITION. The wind unit WND: samples, along-axis components, grid entries, wind states and the live wind (R78 to R99). -/

namespace Sys2Proof.Machine

/-! ### The along-axis component (R81 to R83) -/

/-- R82: the cosine factors of 0..90 degrees, 10000 × cos rounded with .5 going up. -/
def cosineTable : List Nat :=
  [
    10000, 9998, 9994, 9986, 9976, 9962, 9945, 9925, 9903, 9877, 9848, 9816, 9781,
    9744, 9703, 9659, 9613, 9563, 9511, 9455, 9397, 9336, 9272, 9205, 9135, 9063,
    8988, 8910, 8829, 8746, 8660, 8572, 8480, 8387, 8290, 8192, 8090, 7986, 7880,
    7771, 7660, 7547, 7431, 7314, 7193, 7071, 6947, 6820, 6691, 6561, 6428, 6293,
    6157, 6018, 5878, 5736, 5592, 5446, 5299, 5150, 5000, 4848, 4695, 4540, 4384,
    4226, 4067, 3907, 3746, 3584, 3420, 3256, 3090, 2924, 2756, 2588, 2419, 2250,
    2079, 1908, 1736, 1564, 1392, 1219, 1045, 872, 698, 523, 349, 175, 0]

/-- R82: the cosine factor of an angle in 0..90. -/
def cosine (angle : Nat) : Nat := cosineTable.getD angle 0

/-- R83: the signed factor of an angle in 0..359 (Table 6-2). -/
def signedFactor (delta : Nat) : Int :=
  if delta ≤ 90 then cosine delta
  else if delta ≤ 180 then -(cosine (180 - delta) : Int)
  else if delta ≤ 270 then -(cosine (delta - 180) : Int)
  else cosine (360 - delta)

/-- R81: a head is valid: its fault flag clear, its speed in 0..4000 and its direction in 0..359. -/
def headValid (speed direction : Nat) (fault : Bool) : Bool := !fault && decide (speed ≤ 4000 ∧ direction ≤ 359)

/-- R83: the along-axis component of a valid head. -/
def component (bearing speed direction : Nat) : Int :=
  roundDiv (speed * signedFactor ((direction + 360 - bearing) % 360)) 10000

/-- The component of the primary head, when it is valid (R81). -/
def Sample.primary (bearing : Nat) (x : Sample) : Option Int :=
  if headValid x.speed1 x.direction1 x.fault1 then some (component bearing x.speed1 x.direction1) else none

/-- The component of the secondary head, when it is valid (R81). -/
def Sample.secondary (bearing : Nat) (x : Sample) : Option Int :=
  if headValid x.speed2 x.direction2 x.fault2 then some (component bearing x.speed2 x.direction2) else none

/-! ### Contexts (R78, R80) -/

/-- R78: a context begun anew. -/
def WindContext.begin (index bearing : Nat) : WindContext := ⟨index, bearing, [], 0, [], .lost, 0, 0, 0, 0⟩

/-- R80: one sample appended to the alignment buffer; a full buffer loses its oldest sample first, with a drop slip. -/
def WindContext.append (c : WindContext) (x : Sample) : WindContext :=
  if c.buffer.length < Config.bufferLimit then { c with buffer := c.buffer ++ [x] }
  else { c with buffer := c.buffer.drop 1 ++ [x], drops := countUp c.drops }

/-! ### Grid entries (R84 to R87) -/

/-- A count saturating at 255 (R78, R84, R89). -/
def countTo255 (n : Nat) : Nat := if n < 255 then n + 1 else n

/-- R84: the head mismatch count after a sample. -/
def mismatchAfter (h : HillTable) (count : Nat) (primary secondary : Option Int) : Nat :=
  match primary, secondary with
  | some cp, some cs => if (h.mismatchThreshold : Int) < (cp - cs).natAbs then countTo255 count else 0
  | _, _ => 0

/-- R85: the grid entry of a sample (Table 6-4). -/
def entryOfSample (h : HillTable) (t : Time) (mismatch : Nat) (primary secondary : Option Int) : GridEntry :=
  match primary, secondary with
  | some cp, some cs =>
    if h.mismatchCount ≤ mismatch then ⟨t, .mean, some (roundDiv (cp + cs) 2)⟩ else ⟨t, .good, some cp⟩
  | some cp, none => ⟨t, .single, some cp⟩
  | none, some cs => ⟨t, .single, some cs⟩
  | none, none => ⟨t, .missing, none⟩

/-- R87: an entry written into a ring of at most 128, newest first. -/
def pushEntry (e : GridEntry) (ring : List GridEntry) : List GridEntry := (e :: ring).take Config.ringLimit

/-- A GOOD, SINGLE or MEAN entry: one that a sample gave (R89). -/
def Quality.sampled : Quality → Bool
  | .good => true
  | .single => true
  | .mean => true
  | _ => false

/-- R89: an entry in the ring and in the two runs. -/
def WindContext.write (c : WindContext) (e : GridEntry) : WindContext :=
  { c with
    ring := pushEntry e c.ring
    goodRun := if e.quality.sampled then countTo255 c.goodRun else 0
    badRun := if e.quality.sampled then 0 else countTo255 c.badRun }

/-- R90: the wind state after an entry and its runs (Table 6-5). -/
def stateAfter (h : HillTable) (c : WindContext) (q : Quality) : WindState :=
  match c.state with
  | .lost =>
    if q.sampled && decide (h.recoverCount ≤ c.goodRun ∧ h.lostThreshold ≤ c.ring.length) then
      (if q = .good then .active else .degraded)
    else .lost
  | _ =>
    if q = .good then .active
    else if q.sampled then .degraded
    else if h.lostThreshold ≤ c.badRun then .lost
    else c.state

/-- R85, R86: what a context takes at a cycle start: the context less a taken sample, with its mismatch count and repeat slips,
and the entry to write. -/
def WindContext.take (h : HillTable) (t : Time) (c : WindContext) : WindContext × GridEntry :=
  match c.buffer with
  | x :: rest =>
    let mismatch := mismatchAfter h c.mismatch (x.primary c.bearing) (x.secondary c.bearing)
    ({ c with buffer := rest, mismatch := mismatch },
      entryOfSample h t mismatch (x.primary c.bearing) (x.secondary c.bearing))
  | [] =>
    match c.ring with
    | e :: _ =>
      if c.state ≠ .lost ∧ e.quality ≠ .missing then
        ({ c with repeats := countUp c.repeats }, ⟨t, .repeated, e.value⟩)
      else (c, ⟨t, .missing, none⟩)
    | [] => (c, ⟨t, .missing, none⟩)

/-- R85 to R90: a context at a cycle start: one grid entry, its runs and its wind state. -/
def WindContext.tick (h : HillTable) (t : Time) (c : WindContext) : WindContext :=
  let taken := c.take h t
  let written := taken.1.write taken.2
  { written with state := stateAfter h written taken.2.quality }

/-! ### Live wind (R94 to R96) -/

/-- The values of the entries that are not MISSING. -/
def entryValues (l : List GridEntry) : List Int := l.filterMap (·.value)

/-- The mean of values, rounded half away from zero; the list is not empty. -/
def meanOf (l : List Int) : Int := roundDiv l.sum l.length

/-- R94: the station mean over the last L entries, or none when fewer than ceil(L/2) of them are not MISSING. -/
def stationMean (span : Nat) (ring : List GridEntry) : Option Int :=
  let values := entryValues (ring.take span)
  if (span + 1) / 2 ≤ values.length then some (meanOf values) else none

/-- The WIND entry of a wind index. -/
def windPlaceOf (stations : List StationEntry) (index : Nat) : Option WindPlace :=
  stations.findSome? fun e =>
    match e.role with
    | .wind w => if w.index = index then some w else none
    | _ => none

/-- Whether the entry of a wind index carries the start-window flag. -/
def inStartWindow (stations : List StationEntry) (index : Nat) : Bool :=
  (windPlaceOf stations index).any (·.startWindow)

/-- R95: the live wind from the station means: the mean of the qualifying ones, none when there is none. -/
def liveWindOf (means : List (Nat × Option Int)) : Option Int :=
  let values := means.filterMap (·.2)
  if values.isEmpty then none else some (meanOf values)

/-- The wind contexts, with one WIND_CHANGE for each that changed its state (R92). R92 orders several changes of one event by no
rule; that they come in ascending wind index, so that the lowest one's argument is stored, is the model's choice (log 30). -/
def State.noteChanges (old new : List WindContext) (s : State) : State :=
  (old.zip new).foldl (fun s x => if x.1.state = x.2.state then s else s.raise .windChange x.1.index) s

/-- R85 to R96: WND at a cycle start: a grid entry for each context, the wind states, and the live wind with
LIVE_WIND_UNAVAILABLE. -/
def State.windTick (s : State) : State :=
  let old := s.wnd.contexts
  let new := old.map (WindContext.tick s.tables.hill s.now)
  let means := (new.filter fun c => inStartWindow s.tables.stations c.index).map fun c =>
    (c.index, stationMean s.tables.hill.liveSpan c.ring)
  let live := liveWindOf means
  State.setV .liveWindUnavailable live.isNone
    ({ s with wnd := ⟨new, live, means⟩ }.noteChanges old new)

/-! ### Table loads and resets (R78, R79, R91) -/

/-- A context placed in ascending wind index. -/
def insertContext (c : WindContext) : List WindContext → List WindContext
  | [] => [c]
  | x :: rest => if c.index < x.index then c :: x :: rest else x :: insertContext c rest

/-- The WIND entries of a STATIONS table. -/
def windPlaces (stations : List StationEntry) : List WindPlace :=
  stations.filterMap fun e =>
    match e.role with
    | .wind w => some w
    | _ => none

/-- R78: one context begun anew for each WIND entry, in ascending wind index. -/
def freshContexts (stations : List StationEntry) : List WindContext :=
  (windPlaces stations).foldr (fun w l => insertContext (.begin w.index w.bearing) l) []

/-- R78: the live wind record after a reset: unavailable, every start-window station not qualifying. -/
def freshMeans (stations : List StationEntry) : List (Nat × Option Int) :=
  ((freshContexts stations).filter fun c => inStartWindow stations c.index).map fun c => (c.index, none)

/-- R79: the contexts after a STATIONS swap: kept where wind index and bearing stand in both tables, otherwise begun anew. -/
def swappedContexts (old : List WindContext) (stations : List StationEntry) : List WindContext :=
  (freshContexts stations).map fun c =>
    match old.find? fun x => decide (x.index = c.index ∧ x.bearing = c.bearing) with
    | some x => x
    | none => c

/-- R79: a context that a swap begins anew or removes. -/
def lostAtSwap (stations : List StationEntry) (c : WindContext) : Bool :=
  decide ((windPlaceOf stations c.index).map (·.bearing) ≠ some c.bearing)

/-- R79: WND at a STATIONS swap; each ACTIVE or DEGRADED context begun anew or removed sets WIND_CHANGE. -/
def State.windSwap (s : State) : State :=
  let old := s.wnd.contexts
  let s' := { s with wnd := { s.wnd with contexts := swappedContexts old s.tables.stations } }
  (old.filter fun c => lostAtSwap s.tables.stations c && decide (c.state ≠ .lost)).foldl
    (fun s c => s.raise .windChange c.index) s'

/-- R91: a context at a HILL swap: ACTIVE or DEGRADED becomes LOST when its bad run is at or above the new threshold or its
ring holds fewer entries. -/
def WindContext.retest (h : HillTable) (c : WindContext) : WindContext :=
  if h.lostThreshold ≤ c.badRun ∨ c.ring.length < h.lostThreshold then { c with state := .lost } else c

/-- R91, R92: WND at a HILL swap. -/
def State.thresholdSwap (s : State) : State :=
  let old := s.wnd.contexts
  let new := old.map (WindContext.retest s.tables.hill)
  { s with wnd := { s.wnd with contexts := new } }.noteChanges old new

/-! ### READ_STATION (R99) -/

/-- The context of a wind index. -/
def WindUnit.context (w : WindUnit) (index : Nat) : Option WindContext :=
  w.contexts.find? fun c => decide (c.index = index)

/-- The unit with the context of a wind index changed. -/
def WindUnit.update (w : WindUnit) (index : Nat) (f : WindContext → WindContext) : WindUnit :=
  { w with contexts := w.contexts.map fun c => if c.index = index then f c else c }

/-- R99: the wind fields of READ_STATION. -/
def WindContext.reading (c : WindContext) : WindReading := ⟨c.state, c.buffer.length, c.drops, c.repeats, c.ring.head?⟩

end Sys2Proof.Machine
end

