-- ==== Sys2Proof/Machine/Scoring.lean ====
section
/-! DEFINITION. The scoring unit SCU and the held records: points, scoring, wind close, the wind value, measurement completion,
marks, and the marks window (R68, R70, R137, R142 to R169). -/

namespace Sys2Proof.Machine

/-! ### Points (R150, R151, R161 to R164) -/

/-- R150, R151: the wind compensation from W. -/
def windCompensation (h : HillTable) : Option Int → Int
  | none => 0
  | some w => clampTo 2000 (roundDiv (-(w * if 0 ≤ w then h.headFactor else h.tailFactor)) 1000)

/-- R161: the distance points; M is even, so the division is exact. -/
def distancePoints (h : HillTable) (d : Nat) : Nat := ((h.b : Int) + ((d : Int) - h.k) * h.m / 2).toNat

/-- R162: the gate used: the jury gate below the coach threshold, otherwise the latched gate. -/
def gateUsed (h : HillTable) (r : JumpRecord) (d : Nat) : Nat :=
  if r.coachRequest ∧ d < h.coachThreshold then r.juryGate.getD 0 else r.gate.getD 0

/-- R162: the gate compensation. -/
def gateCompensation (h : HillTable) (reference used : Nat) : Int :=
  clampTo 2000 (roundDiv (((reference : Int) - used) * h.g) 10)

/-- The marks as numbers; scoring finds all five present. -/
def Marks.values (m : Marks) : List Nat := m.toList.map (·.getD 0)

/-- R163: the style: the marks less one highest and one lowest, times 5. -/
def style (m : Marks) : Nat :=
  let v := m.values
  (v.sum - v.foldl max 0 - v.foldl min 40) * 5

/-- R164: the round total. -/
def roundTotal (dp st : Nat) (gc wc : Int) : Nat := min 30000 ((dp : Int) + st + gc + wc).toNat

/-- The parts of an OK result (R159). -/
def pointsOf (h : HillTable) (reference : Nat) (r : JumpRecord) (d : Nat) : Points :=
  let dp := distancePoints h d
  let st := style r.marks
  let gc := gateCompensation h reference (gateUsed h r d)
  let wc := windCompensation h r.windValue
  ⟨dp, st, gc, wc, roundTotal dp st gc wc⟩

/-! ### Scoring (R159, R160, R165, R166, R169) -/

/-- R160: the result of a record is DSQ. -/
def JumpRecord.isDsq (r : JumpRecord) : Bool := (r.flags.early || r.flags.late) && !r.flags.reinstated

/-- R165, R166: the result entry of a record scored at a final distance. -/
def scoredEntry (h : HillTable) (reference : Nat) (old : ResultEntry) (r : JumpRecord) (d : Nat) : ResultEntry :=
  if r.isDsq then { old with status := .dsq, detail := some ⟨r.round, d, r.speed, r.gate, none⟩ }
  else
    let p := pointsOf h reference r d
    { old with
      round1 := if r.round = 1 then some p.roundTotal else old.round1
      round2 := if r.round = 1 then old.round2 else some p.roundTotal
      detail := some ⟨r.round, d, r.speed, r.gate, some p⟩ }

/-- R169, R174, R175: what a changed result entry sends: the RESULT report, the CURRENT page and the LEADERS page. -/
def State.announceResult (e : ResultEntry) (flags : Option RecFlags) (s : State) : State :=
  ((s.reportResult (.result e (rankIn s.results e) flags)).sendResult e).sendLeaders

/-- R159: a record scored and freed. A DSQ result takes the bib out of the start list (R58). -/
def State.score (k : Fin 4) (s : State) : State :=
  match s.jtb.get k with
  | none => s
  | some r =>
    let e := scoredEntry s.tables.hill (s.stu.roundReference.getD 0) (entryOrNew s.results r.bib) r (r.finalDistance.getD 0)
    let s' := { s with
      results := placeEntry e s.results
      startList := if r.isDsq then s.startList.erase r.bib else s.startList }
    (s'.freeRecord k .scored false).announceResult e (some r.flags)

/-! ### Needs (R68, R70) -/

/-- R148: the measurement of a record is complete. -/
def JumpRecord.complete (r : JumpRecord) : Bool := r.finalDistance.isSome && r.windCloseDone

/-- R68, R70: the needs set of a HELD record formed anew: kept HELD with a NEEDS report when it changed, or, when it is empty,
scored or sent on to MARKING. -/
def State.recomputeNeeds (k : Fin 4) (s : State) : State :=
  match s.jtb.get k with
  | none => s
  | some r =>
    if r.needed = .none then
      if r.complete && r.marksLocked then s.score k else s.enterState k .marking
    else if r.needed = r.needs then s
    else (s.updateRecord k fun r => { r with needs := r.needed }).reportRecord k .needs

/-! ### Wind close (R143 to R145) -/

/-- R143: the window end of a record with a takeoff time. -/
def windowEnd (h : HillTable) (takeoff : Time) (r : JumpRecord) : Time :=
  match r.landingTime with
  | some t => t
  | none => after takeoff (h.flightMax * 10)

/-- R143: the start of the wind window. -/
def windowStart (h : HillTable) (takeoff : Time) : Time := takeoff - BitVec.ofNat 32 (h.lead * 10)

/-- R145: the item of a context for a wind window; none when the station's flight weight is 0 or no entry counts. -/
def windItem (stations : List StationEntry) (first last : Time) (c : WindContext) : Option WindMean :=
  match windPlaceOf stations c.index with
  | none => none
  | some w =>
    let values := entryValues (c.ring.filter fun e => inWindow e.time first last)
    if w.weight = 0 ∨ values = [] then none else some ⟨c.index, meanOf values, values.length⟩

/-- R145: the wind means list of a record. -/
def State.windMeansOf (s : State) (takeoff : Time) (r : JumpRecord) : List WindMean :=
  s.wnd.contexts.filterMap
    (windItem s.tables.stations (windowStart s.tables.hill takeoff) (windowEnd s.tables.hill takeoff r))

/-- The hill time of the latest cycle start taken (R33). -/
def State.lastCycleStart (s : State) : Option Time := s.hck.marks.head?.map (·.2)

/-- R144: a cycle start at or after the window end + 1000 has been taken. -/
def State.windCloseDue (s : State) (takeoff : Time) (r : JumpRecord) : Bool :=
  s.lastCycleStart.any fun t => atOrAfter t (after (windowEnd s.tables.hill takeoff r) Config.cycleLength)

/-- R145: wind close of a record: the wind means list and the wind close done flag. -/
def State.takeWindClose (k : Fin 4) (takeoff : Time) (s : State) : State :=
  s.updateRecord k fun r => { r with windMeans := s.windMeansOf takeoff r, windCloseDone := true }

/-- R144: wind close at a MEASURING entry, when its deadline has already been met. -/
def State.windCloseAtEntry (k : Fin 4) (s : State) : State :=
  match s.jtb.get k with
  | none => s
  | some r =>
    match r.takeoffTime with
    | none => s
    | some t => if !r.windCloseDone && s.windCloseDue t r then s.takeWindClose k t else s

/-! ### Wind value and completion (R146 to R149) -/

/-- The items of a wind means list with the place of their WIND entry (R146). -/
def placedMeans (stations : List StationEntry) (items : List WindMean) : List (WindMean × WindPlace) :=
  items.filterMap fun m => (windPlaceOf stations m.index).map fun w => (m, w)

/-- The smallest slope position above a distance among placed items (R146). -/
def nearestAbove (d : Nat) (items : List (WindMean × WindPlace)) : Option Nat :=
  ((items.map (·.2.slope)).filter fun p => decide (d < p)).min?

/-- R146: the included stations. -/
def included (stations : List StationEntry) (items : List WindMean) (d : Nat) : List (WindMean × WindPlace) :=
  let placed := placedMeans stations items
  placed.filter fun x => decide (x.2.slope ≤ d ∨ some x.2.slope = nearestAbove d placed)

/-- R147: the wind value of the included stations; none when there is none. -/
def windValueOf (l : List (WindMean × WindPlace)) : Option Int :=
  if l.isEmpty then none
  else some (roundDiv (l.map fun x => (x.2.weight : Int) * x.1.mean).sum (l.map fun x => x.2.weight).sum)

/-- R147: W formed in a record, or NO_WIND set. -/
def State.formWind (k : Fin 4) (d : Nat) (s : State) : State :=
  s.updateRecord k fun r =>
    match windValueOf (included s.tables.stations r.windMeans d) with
    | some w => { r with windValue := some w }
    | none => { r with flags := { r.flags with noWind := true } }

/-- R148, R149: the completion step of a record whose measurement is complete. -/
def State.complete (k : Fin 4) (s : State) : State :=
  match s.jtb.get k with
  | none => s
  | some r =>
    match r.finalDistance with
    | none => s
    | some d =>
      let s' := s.formWind k d
      match r.state with
      | .held => s'.recomputeNeeds k
      | .measuring =>
        if r.marksLocked then s'.score k
        else if r.marksOverdue then s'.enterState k .held
        else s'.enterState k .marking
      | _ => s'

/-- R137: the final distance set once, with its source: the confirm expiry disarmed and the CURRENT page sent. -/
def State.setFinal (k : Fin 4) (d : Nat) (source : DistSource) (s : State) : State :=
  (s.updateRecord k fun r =>
    { r with finalDistance := some d, distanceSource := some source, confirmExpiry := none }).sendCurrent k

/-- R137, R148: the final distance set, and the completion step when wind close is done. -/
def State.confirmDistance (k : Fin 4) (d : Nat) (source : DistSource) (s : State) : State :=
  let s' := s.setFinal k d source
  match s'.jtb.get k with
  | none => s'
  | some r => if r.windCloseDone then s'.complete k else if r.state = .held then s'.recomputeNeeds k else s'

/-! ### Marks (R153 to R158) -/

/-- The mark of a seat replaced (R154). -/
def Marks.set (m : Marks) (seat mark : Nat) : Marks :=
  match seat with
  | 1 => { m with seat1 := some mark }
  | 2 => { m with seat2 := some mark }
  | 3 => { m with seat3 := some mark }
  | 4 => { m with seat4 := some mark }
  | 5 => { m with seat5 := some mark }
  | _ => m

/-- The number of seats that hold a mark (R156). -/
def Marks.held (m : Marks) : Nat := (m.toList.filter (·.isSome)).length

/-- The states that take marks (R154). -/
def RecState.takesMarks : RecState → Bool
  | .landing => true
  | .measuring => true
  | .marking => true
  | .held => true
  | _ => false

/-- R155: what the locking of a record's marks does to the record by its state. -/
def State.afterLock (k : Fin 4) (s : State) : State :=
  match s.jtb.get k with
  | none => s
  | some r =>
    match r.state with
    | .marking => s.score k
    | .held => s.recomputeNeeds k
    | _ => s

/-- R154, R155: a mark of a seat, and the lock when all five seats hold one. -/
def State.giveMark (k : Fin 4) (seat mark : Nat) (s : State) : State :=
  match s.jtb.get k with
  | none => s
  | some r =>
    let marks := r.marks.set seat mark
    if marks.held = 5 then
      (s.updateRecord k fun r => { r with marks := marks, marksLocked := true, marksExpiry := none }).afterLock k
    else s.updateRecord k fun r => { r with marks := marks }

/-- R158: the marks window expiry of a record. -/
def State.takeMarksExpiry (k : Fin 4) (s : State) : State :=
  let s' := s.updateRecord k fun r => { r with marksOverdue := true, marksExpiry := none }
  match s'.jtb.get k with
  | none => s'
  | some r =>
    match r.state with
    | .marking => s'.enterState k .held
    | .held => s'.recomputeNeeds k
    | _ => s'

/-- R157, R39: the marks window armed from its start, or taken at once when it has already passed. -/
def State.armMarks (k : Fin 4) (start : Time) (s : State) : State :=
  match s.jtb.get k with
  | none => s
  | some r =>
    let expiry := after start (s.tables.hill.marksWindow * Config.second)
    if r.marksLocked then s
    else if laterThan expiry s.now then s.updateRecord k fun r => { r with marksExpiry := some expiry }
    else s.takeMarksExpiry k

/-! ### MEASURING (R136, R144) -/

/-- R136: FLU at a MEASURING entry: the confirm expiry armed, or with confirm window 0 the preliminary distance confirmed at once
or the record held. -/
def State.openConfirm (k : Fin 4) (s : State) : State :=
  match s.jtb.get k with
  | none => s
  | some r =>
    let window := s.tables.hill.confirmWindow
    if 0 < window then
      s.updateRecord k fun r => { r with confirmExpiry := some (after s.now (window * Config.second)) }
    else
      match r.preliminary with
      | some d => s.confirmDistance k d .array
      | none => s.enterState k .held

/-- R134 to R136, R144, R148: a MEASURING entry: the state entry, wind close when it is due, and the confirm window; the
completion step, when both facts come together, is the last action on the record. -/
def State.enterMeasuring (k : Fin 4) (s : State) : State :=
  ((s.enterState k .measuring).windCloseAtEntry k).openConfirm k

end Sys2Proof.Machine
end

