-- ==== Sys2Proof/Machine/Start.lean ====
section
/-! DEFINITION. The start unit STU: the gate, coach requests, the reference gate, the wind wait, the start light and leaving the
gate; and the commands of the start (chapter 7). -/

namespace Sys2Proof.Machine

/-! ### Start light (R106, R112 to R114) -/

/-- R106: at the round's first start the round reference gate is fixed from the pending reference gate, or else from the
debounced gate. -/
def StartUnit.fixReference (u : StartUnit) : StartUnit :=
  if u.referenceFixed then u
  else { u with roundReference := u.pendingReference.or u.gate, pendingReference := none, referenceFixed := true }

/-- R112, R113: STU's own part of a GREEN entry at a hill time. -/
def StartUnit.goGreen (h : HillTable) (t : Time) (u : StartUnit) : StartUnit :=
  let u' := u.fixReference
  { u' with
    windWait := none
    greenExpiry := some (after t (h.startTime * Config.second))
    greenFlash :=
      if 0 < h.flashTime ∧ h.flashTime < h.startTime then
        some (after t ((h.startTime - h.flashTime) * Config.second))
      else none
    flashing := decide (h.flashTime = h.startTime) }

/-- R112, R176: a record enters GREEN: its green time, gate and green expiry time, STU's expiries, the state entry, and the
COUNTDOWN page with the countdown second armed. -/
def State.enterGreen (k : Fin 4) (s : State) : State :=
  let h := s.tables.hill
  let s' := s.updateRecord k fun r =>
    { r with
      greenTime := some s.now
      gate := s.stu.gate
      greenExpiryTime := some (after s.now (h.startTime * Config.second)) }
  let s'' := State.enterState k .green
    { s' with
      stu := s'.stu.goGreen h s.now
      dsp := { s'.dsp with
        countdownExpiry := if 1 < h.startTime then some (after s.now Config.second) else none } }
  s''.sendCountdown h.startTime

/-- R109: STU stores the live wind it is handed, and a CLEARED record goes to GREEN when it lies in the band. -/
def State.testLiveWind (s : State) : State :=
  let live := s.wnd.liveWind
  let s' := { s with stu := { s.stu with lastLiveWind := live } }
  match s.jtb.inState (fun x => decide (x = .cleared)), live with
  | some (k, _), some w =>
    if s.tables.hill.bandLow ≤ w ∧ w ≤ s.tables.hill.bandHigh then s'.enterGreen k else s'
  | _, _ => s'

/-! ### Gate (R100, R102) -/

/-- The states in which a change of the debounced gate sets GATE_MOVED (R102). -/
def RecState.marksGateMoves : RecState → Bool
  | .green => true
  | .late => true
  | .inRun => true
  | _ => false

/-- R102: a change of the debounced gate under a record that is GREEN, LATE or IN_RUN. -/
def State.noteGateMove (s : State) : State :=
  match s.jtb.inState RecState.marksGateMoves with
  | none => s
  | some (k, r) =>
    (s.raise .gateMoved r.bib).updateRecord k fun r => { r with flags := { r.flags with gateMoved := true } }

/-- R100: the candidate after a gate report. -/
def StartUnit.countReport (u : StartUnit) (report : Nat) : StartUnit :=
  if u.candidate = some report then { u with candidateCount := min 3 (u.candidateCount + 1) }
  else { u with candidate := some report, candidateCount := 1 }

/-- R100, R101: STU takes a gate report while the GATE station is PRESENT. -/
def State.takeGateReport (report : Nat) (s : State) : State :=
  if s.isPresent .gate then
    let u := s.stu.countReport report
    let s' := { s with stu := u }
    if u.candidateCount = 3 ∧ report ≠ 0 ∧ u.gate ≠ some report then
      (State.raise .gateChanged report { s' with stu := { u with gate := some report } }).noteGateMove
    else s'
  else s

/-! ### Coach requests (R103) -/

/-- R103: a COACH frame from a station. -/
def State.takeCoach (addr bib : Nat) (s : State) : State :=
  match s.jtb.holding bib with
  | some (k, r) =>
    if r.state = .cleared then s.updateRecord k fun r => { r with coachRequest := true, juryGate := s.stu.gate }
    else s.raise .lateData addr
  | none => { s with stu := { s.stu with coachRequest := some bib } }

/-! ### In-run expiry (R130) -/

/-- R130: the in-run expiry of a record still IN_RUN: NO_WIND and wind close done, FLU's working state ended, HELD, and the
marks window from this hill time. -/
def State.takeInRunExpiry (k : Fin 4) (s : State) : State :=
  let s' := { s with flu := .idle }.updateRecord k fun r =>
    { r with windCloseDone := true, flags := { r.flags with noWind := true } }
  (s'.enterState k .held).armMarks k s.now

/-! ### Leaving the gate (R37, R115, R116) -/

/-- R34, R35: a stamp converted at the frame's arrival time: the mark history's time plus the offset, clamped to the arrival; or
the arrival time with the estimated mark. -/
def State.convert (s : State) (mark : Byte) (offset : Nat) : EdgeTime :=
  match s.hck.marks.find? fun m => decide (m.1 = mark) with
  | some m =>
    let t := after m.2 offset
    if laterThan t s.now then ⟨s.now, false⟩ else ⟨t, false⟩
  | none => ⟨s.now, true⟩

/-- R37: a record that stores a time, or takes a transition, from an estimated conversion. -/
def JumpRecord.noteEstimate (r : JumpRecord) (e : EdgeTime) : JumpRecord :=
  if e.estimated then { r with flags := { r.flags with timeEstimated := true } } else r

/-- R115: the EARLY and LATE flags of a gate-left edge (Table 7-2). -/
def gateLeftFlags (r : JumpRecord) (t : Time) : RecFlags :=
  match r.state with
  | .cleared => { r.flags with early := true }
  | .green => if r.greenTime.any (earlierThan t) then { r.flags with early := true } else r.flags
  | .late => if r.greenExpiryTime.any (laterThan t) then { r.flags with late := true } else r.flags
  | _ => r.flags

/-- R116: the record's own part of an IN_RUN entry. -/
def JumpRecord.leaveGate (r : JumpRecord) (gate : Option Nat) (e : EdgeTime) : JumpRecord :=
  JumpRecord.noteEstimate
    { r with
      flags := gateLeftFlags r e.time
      gateLeftTime := some e.time
      gate := if r.state = .cleared then gate else r.gate } e

/-- R116, R130, R176: an IN_RUN entry: the record, the reference gate, the start expiries disarmed, the state entry, the COUNTDOWN
page of a record that was GREEN, and the in-run expiry, armed from the gate-left time or taken at once. -/
def State.enterInRun (k : Fin 4) (r : JumpRecord) (e : EdgeTime) (s : State) : State :=
  let expiry := after e.time (s.tables.hill.inRunMax * Config.second)
  let s1 := s.updateRecord k fun r => r.leaveGate s.stu.gate e
  let s2 := State.enterState k .inRun
    { s1 with
      stu := s1.stu.fixReference.disarm
      dsp := { s1.dsp with countdownExpiry := none }
      flu := { FlightUnit.idle with inRunExpiry := some expiry } }
  let s3 := if r.state = .green then s2.sendCountdown 0 else s2
  if laterThan expiry s.now then s3 else s3.takeInRunExpiry k

/-- R115: STU takes a GATE_LEFT item from a station. -/
def State.takeGateLeft (addr : Nat) (s : State) (item : EdgeItem) : State :=
  let e := s.convert item.mark item.offset
  match s.jtb.inState RecState.onBar with
  | none => s.raise .lateData addr
  | some (k, r) => if atOrAfter e.time r.clearTime then s.enterInRun k r e else s.raise .lateData addr

/-! ### Commands -/

/-- R61, R104: the record that CLEAR creates. -/
def newRecord (serial : Nat) (competition : CompState) (u : StartUnit) (bib : Nat) (t : Time) : JumpRecord where
  serial := serial
  bib := bib
  round := if competition = .r1Open then 1 else 2
  state := .cleared
  needs := .none
  clearTime := t
  greenTime := none
  greenExpiryTime := none
  gate := none
  coachRequest := decide (u.coachRequest = some bib)
  juryGate := if u.coachRequest = some bib then u.gate else none
  gateLeftTime := none
  cellATime := none
  cellBTime := none
  speed := none
  takeoffTime := none
  landingTime := none
  landingSource := .none
  preliminary := none
  finalDistance := none
  distanceSource := none
  windCloseDone := false
  windMeans := []
  windValue := none
  marks := .none
  marksLocked := false
  marksOverdue := false
  flags := .none
  confirmExpiry := none
  marksExpiry := none

/-- R60, R61, R104, R108: the creation of a record in a slot: the head bib leaves the list, the pending coach request is applied,
and the JUMP report, the lamp and the CURRENT page follow. -/
def State.createRecord (k : Fin 4) (bib : Nat) (rest : List Nat) (s : State) : State :=
  let s' := { s with
    startList := rest
    jtb := s.jtb.set k (some (newRecord s.jtb.nextSerial s.competition s.stu bib s.now))
    stu := if s.stu.coachRequest = some bib then { s.stu with coachRequest := none } else s.stu }
  (s'.deriveLamp.reportRecord k .advance).sendCurrent k

/-- R107, R108: CLEAR. -/
def clearJumper (s : State) : Answer :=
  if !s.competition.isOpen then refuse .wrongState s
  else
    match s.startList with
    | [] => refuse .notFound s
    | bib :: rest =>
      if (s.jtb.inState RecState.active).isSome then refuse .wrongState s
      else
        match s.jtb.freeSlot with
        | none => refuse .full s
        | some k =>
          if !s.isPresent .light then refuse .notReady s
          else if s.stu.gate.isNone then refuse .notReady s
          else
            let s' := s.createRecord k bib rest
            if s.stu.windGate then
              accept (.jumpAt bib k .cleared)
                { s' with stu := { s'.stu with
                    windWait := some (after s.now (s.tables.hill.windWait * Config.second)) } }
            else accept (.jumpAt bib k .green) (s'.enterGreen k)

/-- R117: HOLD. -/
def holdJumper (s : State) : Answer :=
  match s.jtb.inState RecState.onBar with
  | none => refuse .wrongState s
  | some (k, r) => accept (.jumpAt r.bib k r.state) (s.withdraw k .hold)

/-- R111: WIND_GATE. Switching OFF sends a CLEARED record to GREEN at once. -/
def setWindGate (on : Byte) (s : State) : Answer :=
  match on.toNat with
  | 0 =>
    let s' := { s with stu := { s.stu with windGate := false } }
    match s.jtb.inState fun x => decide (x = .cleared) with
    | some (k, _) => accept (.windGate false) (s'.enterGreen k)
    | none => accept (.windGate false) s'
  | 1 => accept (.windGate true) { s with stu := { s.stu with windGate := true } }
  | _ => refuse .badValue s

/-- R105: SET_REFERENCE_GATE. -/
def setReference (gate : Byte) (s : State) : Answer :=
  if 40 < gate.toNat then refuse .badValue s
  else if s.competition.isOpen && s.stu.referenceFixed then refuse .wrongState s
  else
    let pending := if gate.toNat = 0 then none else some gate.toNat
    accept (.referenceGate pending) { s with stu := { s.stu with pendingReference := pending } }

/-- CLEAR (R107, R108). -/
def execClear (now : Time) (seq : Byte) (s : State) : Out := request now seq 0x30 clearJumper s

/-- HOLD (R117). -/
def execHold (now : Time) (seq : Byte) (s : State) : Out := request now seq 0x31 holdJumper s

/-- WIND_GATE (R111). -/
def execWindGate (now : Time) (seq on : Byte) (s : State) : Out := request now seq 0x32 (setWindGate on) s

/-- SET_REFERENCE_GATE (R105). -/
def execSetReferenceGate (now : Time) (seq gate : Byte) (s : State) : Out := request now seq 0x33 (setReference gate) s

/-- R110: the wind wait expiry with the record still CLEARED. -/
def State.takeWindWait (s : State) : State :=
  match s.jtb.inState fun x => decide (x = .cleared) with
  | none => s
  | some (k, _) =>
    s.withdraw k (if s.stu.lastLiveWind.isNone then .liveWindUnavailable else .windTimeout)

/-- WIND_WAIT_EXPIRY (R110), taken at the hill time it is armed for (R39). -/
def execWindWaitExpiry (now : Time) (s : State) : Out :=
  event now (fun s => if s.stu.windWait = some s.now then s.takeWindWait else s) s

/-- R176: the whole seconds left of the start time, from the green time on. -/
def secondsLeft (h : HillTable) (green now : Time) : Nat := h.startTime - (now - green).toNat / Config.second

/-- R113, R176: the green flash expiry with the record still GREEN. -/
def State.takeGreenFlash (s : State) : State :=
  match s.jtb.inState fun x => decide (x = .green) with
  | none => s
  | some (_, r) =>
    let s' := { s with stu := { s.stu with greenFlash := none, flashing := true } }.deriveLamp
    s'.sendCountdown (secondsLeft s.tables.hill (r.greenTime.getD s.now) s.now)

/-- GREEN_FLASH_EXPIRY (R113). -/
def execGreenFlashExpiry (now : Time) (s : State) : Out :=
  event now (fun s => if s.stu.greenFlash = some s.now then s.takeGreenFlash else s) s

/-- R114, R176: the green expiry with the record still GREEN. -/
def State.takeGreenExpiry (s : State) : State :=
  match s.jtb.inState fun x => decide (x = .green) with
  | none => s
  | some (k, _) =>
    (State.enterState k .late
      { s with stu := s.stu.disarm, dsp := { s.dsp with countdownExpiry := none } }).sendCountdown 0

/-- GREEN_EXPIRY (R114). -/
def execGreenExpiry (now : Time) (s : State) : Out :=
  event now (fun s => if s.stu.greenExpiry = some s.now then s.takeGreenExpiry else s) s

/-- R176: a countdown second with the record still GREEN: the page, and the expiry armed anew while more than 1 s is left. -/
def State.takeCountdown (s : State) : State :=
  match s.jtb.inState fun x => decide (x = .green) with
  | none => s
  | some (_, r) =>
    let left := secondsLeft s.tables.hill (r.greenTime.getD s.now) s.now
    State.sendCountdown left
      { s with dsp := { s.dsp with
          countdownExpiry := if 1 < left then some (after s.now Config.second) else none } }

/-- COUNTDOWN_SECOND_EXPIRY (R176). -/
def execCountdownSecondExpiry (now : Time) (s : State) : Out :=
  event now (fun s => if s.dsp.countdownExpiry = some s.now then s.takeCountdown else s) s

end Sys2Proof.Machine
end

