-- ==== Sys2Proof/Machine/Flight.lean ====
section
/-! DEFINITION. The flight unit FLU and the marks of SCU: speed, take-off, contacts, settle, flight expiry, distance confirmation
and marks; and the commands on jump records (chapters 8, 10 and section 5.6). -/

namespace Sys2Proof.Machine

/-! ### Speed (R126 to R128) -/

/-- The record in IN_RUN. -/
def State.inRun (s : State) : Option (Fin 4 × JumpRecord) := s.jtb.inState fun x => decide (x = .inRun)

/-- R128: the speed of two cell times; none above 150.0 km/h. -/
def speedOf (h : HillTable) (a b : Time) : Option Nat :=
  let speed := (roundDiv (h.cellSpacing * 3600) (b - a).toNat).toNat
  if 1500 < speed then none else some speed

/-- R128: the cell B time set, the speed computed, and the CURRENT page sent when the speed is set. -/
def State.setCellB (k : Fin 4) (a : Time) (b : EdgeTime) (s : State) : State :=
  let speed := speedOf s.tables.hill a b.time
  let s' := { s with flu := { s.flu with heldB := [] } }.updateRecord k fun r =>
    JumpRecord.noteEstimate { r with cellBTime := some b.time, speed := speed } b
  if speed.isSome then s'.sendCurrent k else s'

/-- R127: the earliest of the held edge times. Of two equal ones, of which one may be estimated, the one held first is taken: the
model's choice (log 31). -/
def earliest : List EdgeTime → Option EdgeTime
  | [] => none
  | e :: rest =>
    match earliest rest with
    | none => some e
    | some x => if earlierThan x.time e.time then some x else some e

/-- R126, R127: a BEAM item from CELL_A, and the held cell B list then looked at. -/
def State.takeCellA (s : State) (item : EdgeItem) : State :=
  let e := s.convert item.mark item.offset
  match s.inRun with
  | none => s
  | some (k, r) =>
    if r.cellATime.isNone && r.gateLeftTime.any (atOrAfter e.time) then
      let held := s.flu.heldB.filter fun b => earlierThan e.time b.time
      let s' := { s with flu := { s.flu with heldB := [] } }.updateRecord k fun r =>
        JumpRecord.noteEstimate { r with cellATime := some e.time } e
      match earliest held with
      | none => s'
      | some b => s'.setCellB k e.time b
    else s

/-- R127: a BEAM item from CELL_B. -/
def State.takeCellB (s : State) (item : EdgeItem) : State :=
  let e := s.convert item.mark item.offset
  match s.inRun with
  | none => s
  | some (k, r) =>
    if r.cellBTime.isSome then s
    else
      match r.cellATime with
      | some a => if laterThan e.time a then s.setCellB k a e else s
      | none =>
        if r.gateLeftTime.any (atOrAfter e.time) && decide (s.flu.heldB.length < 4) then
          { s with flu := { s.flu with heldB := s.flu.heldB ++ [e] } }
        else s

/-! ### Take-off (R129) -/

/-- R129: a record that left IN_RUN by its in-run expiry has no takeoff time. -/
def JumpRecord.leftByExpiry (r : JumpRecord) : Bool :=
  r.takeoffTime.isNone && decide (r.state = .held ∨ r.state = .measuring ∨ r.state = .marking)

/-- R129: a BEAM item from TAKEOFF. -/
def State.takeTakeoff (addr : Nat) (s : State) (item : EdgeItem) : State :=
  let e := s.convert item.mark item.offset
  match s.inRun with
  | none => if (s.jtb.find JumpRecord.leftByExpiry).isSome then s.raise .lateData addr else s
  | some (k, r) =>
    if r.gateLeftTime.any (atOrAfter e.time) && r.cellBTime.all (atOrAfter e.time) then
      State.enterState k .flight
        ({ s with flu := .idle }.updateRecord k fun r => JumpRecord.noteEstimate { r with takeoffTime := some e.time } e)
    else s

/-! ### Contacts (R125, R131 to R133) -/

/-- R125: the distance of a module and sensor. -/
def mapContact (table : List DistanceEntry) (moduleIndex sensor : Nat) : Option Nat :=
  (table.find? fun e => decide (e.moduleIndex = moduleIndex ∧ e.sensor = sensor)).map (·.distance)

/-- R131: the landing window holds a time. -/
def inLandingWindow (h : HillTable) (takeoff t : Time) : Bool :=
  inWindow t (after takeoff (h.flightMin * 10)) (after takeoff (h.flightMax * 10))

/-- R133: a contact comes before the landing candidate. -/
def beats (e : EdgeTime) (distance : Nat) (c : Candidate) : Bool :=
  earlierThan e.time c.time || decide (e.time = c.time ∧ distance < c.distance)

/-- R132: the first counting contact of a record in FLIGHT. -/
def State.firstContact (k : Fin 4) (e : EdgeTime) (distance : Nat) (s : State) : State :=
  State.enterState k .landing
    ({ s with flu := { FlightUnit.idle with candidate := some ⟨e.time, distance⟩, firstArrival := s.now } }.updateRecord k
      fun r => r.noteEstimate e)

/-- R133: a counting contact of a record in LANDING. -/
def State.laterContact (k : Fin 4) (e : EdgeTime) (distance : Nat) (s : State) : State :=
  if s.flu.candidate.any (beats e distance) then
    { s with flu := { s.flu with candidate := some ⟨e.time, distance⟩ } }.updateRecord k fun r => r.noteEstimate e
  else s

/-- R131 to R133: a mapped contact. -/
def State.takeMapped (e : EdgeTime) (distance : Nat) (s : State) : State :=
  match s.jtb.inState fun x => decide (x = .flight ∨ x = .landing) with
  | none => s
  | some (k, r) =>
    if r.takeoffTime.any fun t => inLandingWindow s.tables.hill t e.time then
      if r.state = .flight then s.firstContact k e distance else s.laterContact k e distance
    else s

/-- R125: a CONTACT item of a module with a sensor count. -/
def State.takeContact (addr moduleIndex sensors : Nat) (s : State) (item : EdgeItem) : State :=
  match mapContact s.tables.distance moduleIndex item.sensor with
  | none => s.raise .stationDataBad addr
  | some distance =>
    if sensors ≤ item.sensor then s.raise .stationDataBad addr
    else s.takeMapped (s.convert item.mark item.offset) distance

/-! ### Settle, flight expiry and wind close at a cycle start (R134, R135, R144) -/

/-- A cycle start has been taken at this event's hill time. -/
def State.atCycleStart (s : State) : Bool := decide (s.lastCycleStart = some s.now)

/-- R134: the settle of a record in LANDING. -/
def State.settle (k : Fin 4) (c : Candidate) (s : State) : State :=
  let s' := { s with flu := .idle }.updateRecord k fun r =>
    { r with landingTime := some c.time, preliminary := some c.distance, landingSource := .array }
  ((s'.sendCurrent k).armMarks k c.time).enterMeasuring k

/-- R134: the settle when the settle count is 2 at this cycle start. -/
def State.takeSettle (s : State) : State :=
  match s.jtb.inState fun x => decide (x = .landing) with
  | none => s
  | some (k, _) =>
    match s.flu.candidate with
    | none => s
    | some c => if s.atCycleStart && decide (s.flu.settleCount = 2) then s.settle k c else s

/-- R135: the deadline of the flight expiry. -/
def flightDeadline (h : HillTable) (takeoff : Time) : Time := after takeoff (h.flightMax * 10 + 2000)

/-- R135: the flight expiry of a record in FLIGHT. -/
def State.expireFlight (k : Fin 4) (s : State) : State :=
  let s' := { s with flu := .idle }.updateRecord k fun r =>
    { r with flags := { r.flags with landingEstimated := true } }
  (s'.armMarks k s.now).enterMeasuring k

/-- R135: the flight expiry when its deadline is met at this cycle start. -/
def State.takeFlightExpiry (s : State) : State :=
  match s.jtb.inState fun x => decide (x = .flight) with
  | none => s
  | some (k, r) =>
    if s.atCycleStart && r.takeoffTime.any fun t => atOrAfter s.now (flightDeadline s.tables.hill t) then s.expireFlight k
    else s

/-- R144, R145, R148: wind close of a record in MEASURING when its deadline is met at this cycle start. -/
def State.windCloseAtCycle (k : Fin 4) (s : State) : State :=
  match s.jtb.get k with
  | none => s
  | some r =>
    match r.takeoffTime with
    | none => s
    | some t =>
      if decide (r.state = .measuring) && !r.windCloseDone && s.atCycleStart && s.windCloseDue t r then
        let s' := s.takeWindClose k t
        if r.finalDistance.isSome then s'.complete k else s'
      else s

/-! ### Distance and marks from the stations (R138, R139, R154) -/

/-- R138, R140: the record takes a final distance. -/
def JumpRecord.takesDistance (r : JumpRecord) : Bool :=
  (decide (r.state = .measuring) && r.finalDistance.isNone) || (decide (r.state = .held) && r.needs.distance)

/-- R138: a DIST frame. -/
def State.takeDistance (addr bib distance : Nat) (s : State) : State :=
  match s.jtb.holding bib with
  | none => s.raise .lateData addr
  | some (k, r) => if r.takesDistance then s.confirmDistance k distance .console else s.raise .lateData addr

/-- R154, R156: the record takes a mark. -/
def JumpRecord.takesMark (r : JumpRecord) : Bool := r.state.takesMarks && !r.marksLocked

/-- R154: a STYLE frame. -/
def State.takeStyle (addr seat bib mark : Nat) (s : State) : State :=
  match s.jtb.holding bib with
  | none => s.raise .lateData addr
  | some (k, r) => if r.takesMark then s.giveMark k seat mark else s.raise .lateData addr

/-- R139: the confirm expiry of a record in MEASURING. -/
def State.takeConfirmExpiry (k : Fin 4) (r : JumpRecord) (s : State) : State :=
  match s.tables.hill.autoConfirm, r.preliminary with
  | true, some d => s.confirmDistance k d .array
  | _, _ => s.enterState k .held

/-! ### Expiries and deadlines -/

/-- IN_RUN_EXPIRY (R130), taken at the hill time it is armed for (R39). -/
def execInRunExpiry (now : Time) (s : State) : Out :=
  event now (fun s =>
    match s.inRun with
    | none => s
    | some (k, _) => if s.flu.inRunExpiry = some s.now then s.takeInRunExpiry k else s) s

/-- FLIGHT_EXPIRY (R135). -/
def execFlightExpiry (now : Time) (s : State) : Out := event now State.takeFlightExpiry s

/-- LANDING_SETTLE (R134). -/
def execLandingSettle (now : Time) (s : State) : Out := event now State.takeSettle s

/-- WIND_CLOSE of the record in a slot (R144). -/
def execWindClose (now : Time) (slot : Fin 4) (s : State) : Out := event now (State.windCloseAtCycle slot) s

/-- CONFIRM_EXPIRY of the record in a slot (R139), taken at the hill time it is armed for (R39). -/
def execConfirmExpiry (now : Time) (slot : Fin 4) (s : State) : Out :=
  event now (fun s =>
    match s.jtb.get slot with
    | none => s
    | some r => if r.state = .measuring ∧ r.confirmExpiry = some s.now then s.takeConfirmExpiry slot r else s) s

/-- MARKS_WINDOW_EXPIRY of the record in a slot (R158), taken at the hill time it is armed for (R39). -/
def execMarksWindowExpiry (now : Time) (slot : Fin 4) (s : State) : Out :=
  event now (fun s =>
    match s.jtb.get slot with
    | none => s
    | some r => if r.marksExpiry = some s.now then s.takeMarksExpiry slot else s) s

/-! ### Requests -/

/-- The state of the record in a slot, none when the slot is free. -/
def State.slotState (s : State) (k : Fin 4) : Option RecState := (s.jtb.get k).map (·.state)

/-- R140: ENTER_DISTANCE. -/
def enterDistance (bib distance : Half) (s : State) : Answer :=
  if bibInRange bib.toNat && decide (distance.toNat ≤ 600) then
    match s.jtb.holding bib.toNat with
    | none => refuse .notFound s
    | some (k, r) =>
      if r.takesDistance then
        let s' := s.confirmDistance k distance.toNat .office
        accept (.distanceSet k (s'.slotState k)) s'
      else refuse .wrongState s
  else refuse .badValue s

/-- R156: ENTER_MARK. -/
def enterMark (bib : Half) (seat mark : Byte) (s : State) : Answer :=
  if bibInRange bib.toNat && decide (1 ≤ seat.toNat ∧ seat.toNat ≤ 5 ∧ mark.toNat ≤ 40) then
    match s.jtb.holding bib.toNat with
    | none => refuse .notFound s
    | some (k, r) =>
      if r.takesMark then
        let held := (r.marks.set seat.toNat mark.toNat).held
        let s' := s.giveMark k seat.toNat mark.toNat
        accept (.markSet k held (decide (held = 5)) (s'.slotState k)) s'
      else refuse .wrongState s
  else refuse .badValue s

/-- R72: ANNUL. -/
def annul (bib : Half) (s : State) : Answer :=
  if bibInRange bib.toNat then
    match s.jtb.holding bib.toNat with
    | none => refuse .notFound s
    | some (k, r) => accept (.annulled k r.state) (s.withdraw k .annulled)
  else refuse .badValue s

/-- R58, R73, R166, R169: the result entry of a bib becomes DSQ, in its place in the list, with its report and pages; an entry
already at DSQ is not changed. -/
def State.makeDsq (bib : Nat) (s : State) : State :=
  let old := entryOrNew s.results bib
  if old.status = .dsq then s
  else
    let e := { old with status := .dsq }
    State.announceResult e none
      { s with results := placeEntry e s.results, startList := s.startList.erase bib }

/-- R73: what DISQUALIFY does to the result entry of a bib. -/
def entryChange (results : List ResultEntry) (bib : Nat) : EntryChange :=
  match entryOf results bib with
  | none => .created
  | some e => if e.status = .dsq then .unchanged else .changed

/-- R73, R176: DISQUALIFY. -/
def disqualify (bib : Half) (s : State) : Answer :=
  if bibInRange bib.toNat then
    match s.jtb.holding bib.toNat with
    | some (k, r) =>
      let s' := (s.freeRecord k .disqualified false).makeDsq bib.toNat
      accept (.disqualified (some k) (entryChange s.results bib.toNat))
        (if r.state.onBar then s'.sendCountdown 0 else s')
    | none =>
      match entryOf s.results bib.toNat with
      | none => refuse .notFound s
      | some _ => accept (.disqualified none (entryChange s.results bib.toNat)) (s.makeDsq bib.toNat)
  else refuse .badValue s

/-- R74: REINSTATE. -/
def reinstate (bib : Half) (s : State) : Answer :=
  if bibInRange bib.toNat then
    match s.jtb.holding bib.toNat with
    | none => refuse .notFound s
    | some (k, r) =>
      if r.flags.early || r.flags.late then
        accept (.reinstated k r.state { r.flags with reinstated := true })
          (s.updateRecord k fun r => { r with flags := { r.flags with reinstated := true } })
      else refuse .wrongState s
  else refuse .badValue s

/-- A slot number 0..3. -/
def slotOf (n : Nat) : Option (Fin 4) :=
  match n with
  | 0 => some 0
  | 1 => some 1
  | 2 => some 2
  | 3 => some 3
  | _ => none

/-- R75: READ_JUMP. -/
def readJump (slot part : Byte) (s : State) : Answer :=
  match slotOf slot.toNat with
  | none => refuse .badValue s
  | some k =>
    if part.toNat ≤ 1 then
      match s.jtb.get k with
      | none => accept (.slotFree k) s
      | some r => if part.toNat = 0 then accept (.jumpPart0 k r) s else accept (.jumpPart1 k r) s
    else refuse .badValue s

/-- ENTER_DISTANCE (R140). -/
def execEnterDistance (now : Time) (seq : Byte) (bib distance : Half) (s : State) : Out :=
  request now seq 0x34 (enterDistance bib distance) s

/-- ENTER_MARK (R156). -/
def execEnterMark (now : Time) (seq : Byte) (bib : Half) (seat mark : Byte) (s : State) : Out :=
  request now seq 0x35 (enterMark bib seat mark) s

/-- ANNUL (R72). -/
def execAnnul (now : Time) (seq : Byte) (bib : Half) (s : State) : Out := request now seq 0x36 (annul bib) s

/-- DISQUALIFY (R73). -/
def execDisqualify (now : Time) (seq : Byte) (bib : Half) (s : State) : Out := request now seq 0x37 (disqualify bib) s

/-- REINSTATE (R74). -/
def execReinstate (now : Time) (seq : Byte) (bib : Half) (s : State) : Out := request now seq 0x38 (reinstate bib) s

/-- READ_JUMP (R75). -/
def execReadJump (now : Time) (seq slot part : Byte) (s : State) : Out := request now seq 0x39 (readJump slot part) s

end Sys2Proof.Machine
end

