-- ==== Sys2Proof/Machine/Images.lean ====
section
/-! DEFINITION. The images of the six loaded tables: how each is read from bytes, checked, and given back (R8, R14, R15, R43,
R124, R194, R195, R196). -/

namespace Sys2Proof.Machine

/-! ### STATIONS (R194, R15) -/

/-- The kind-specific part of an entry by its kind code and bytes 3 and 5 to 10 of Table 12-3; none for an unknown kind. -/
def roleOf (kind flags b5 b6 b7 b8 b9 b10 : Byte) : Option StationRole :=
  match kind.toNat with
  | 1 => some (.wind ⟨b5.toNat, natOf b6 b7, natOf b8 b9, b10.toNat, bitOf flags 1⟩)
  | 2 => some .gate
  | 3 => some .light
  | 4 => some .coach
  | 5 => some .cellA
  | 6 => some .cellB
  | 7 => some .takeoff
  | 8 => some (.landing b5.toNat b6.toNat)
  | 9 => some (.judge b5.toNat)
  | 10 => some .dist
  | 11 => some (.board ⟨bitOf b5 0, bitOf b5 1, bitOf b5 2⟩)
  | 12 => some .aux
  | _ => none

/-- The segment of a station's port code. -/
def segOfCode : Nat → Option Seg
  | 1 => some .T
  | 2 => some .S
  | _ => none

/-- R14: a miss limit of 0 stands for 3. -/
def missLimitOf (n : Nat) : Nat := if n = 0 then 3 else n

/-- `n` entries of 11 bytes and no further bytes (R194). -/
def stationEntriesOf : Nat → List Byte → Option (List StationEntry)
  | 0, [] => some []
  | n + 1, addr :: kind :: port :: flags :: miss :: b5 :: b6 :: b7 :: b8 :: b9 :: b10 :: rest =>
    match roleOf kind flags b5 b6 b7 b8 b9 b10, segOfCode port.toNat, stationEntriesOf n rest with
    | some role, some seg, some more => some (⟨addr.toNat, role, seg, bitOf flags 0, missLimitOf miss.toNat⟩ :: more)
    | _, _, _ => none
  | _, _ => none

/-- The ranges of R14. -/
def StationEntry.inRange (e : StationEntry) : Bool :=
  decide (0x10 ≤ e.addr ∧ e.addr ≤ 0xEF ∧ 1 ≤ e.missLimit ∧ e.missLimit ≤ 15) &&
    match e.role with
    | .wind w => decide (w.index ≤ 11 ∧ w.bearing ≤ 359 ∧ w.slope ≤ 600 ∧ w.weight ≤ 100)
    | .landing m n => decide (m ≤ 15 ∧ 1 ≤ n ∧ n ≤ 64)
    | .judge seat => decide (1 ≤ seat ∧ seat ≤ 5)
    | _ => true

/-- Table 2-6: the ports of a kind. -/
def StationKind.portFits (k : StationKind) (p : Seg) : Bool :=
  match k with
  | .wind | .aux => true
  | .gate | .light | .coach | .cellA | .cellB | .takeoff => decide (p = .T)
  | .landing | .judge | .dist | .board => decide (p = .S)

/-- Table 2-6: the most stations of a kind. -/
def StationKind.atMost : StationKind → Nat
  | .wind => 12
  | .gate => 1
  | .light => 1
  | .coach => 2
  | .cellA => 1
  | .cellB => 1
  | .takeoff => 1
  | .landing => 16
  | .judge => 5
  | .dist => 1
  | .board => 4
  | .aux => 16

/-- All station kinds. -/
def StationKind.all : List StationKind :=
  [.wind, .gate, .light, .coach, .cellA, .cellB, .takeoff, .landing, .judge, .dist, .board, .aux]

/-- What must differ between two entries of one kind: wind index, module index, seat (R15). -/
def StationRole.identity : StationRole → Option (StationKind × Nat)
  | .wind w => some (.wind, w.index)
  | .landing m _ => some (.landing, m)
  | .judge seat => some (.judge, seat)
  | _ => none

/-- Strictly ascending numbers. -/
def ascending : List Nat → Bool
  | a :: b :: rest => decide (a < b) && ascending (b :: rest)
  | _ => true

/-- No element twice. -/
def distinct {α : Type} [DecidableEq α] : List α → Bool
  | [] => true
  | a :: rest => decide (a ∉ rest) && distinct rest

/-- R15: a STATIONS table is valid. -/
def stationsValid (t : List StationEntry) : Bool :=
  decide (t.length ≤ 64) && t.all StationEntry.inRange && ascending (t.map (·.addr)) &&
    t.all (fun e => e.role.kind.portFits e.port) &&
    StationKind.all.all (fun k => decide ((t.filter fun e => decide (e.role.kind = k)).length ≤ k.atMost)) &&
    distinct (t.filterMap (·.role.identity))

/-- R194: a STATIONS image, read and checked. -/
def stationsOfImage : List Byte → Option (List StationEntry)
  | h :: l :: rest =>
    match stationEntriesOf (natOf h l) rest with
    | some t => if stationsValid t then some t else none
    | none => none
  | _ => none

/-- Bytes 3 and 5 to 10 of an entry: the start-window bit and the kind-specific bytes; unused ones read back 0. -/
def StationRole.startWindow : StationRole → Bool
  | .wind w => w.startWindow
  | _ => false

/-- Bytes 5 to 10 of an entry (Table 12-3). -/
def StationRole.bytes : StationRole → List Byte
  | .wind w => u8 w.index ++ u16 w.bearing ++ u16 w.slope ++ u8 w.weight
  | .landing m n => u8 m ++ u8 n ++ [0, 0, 0, 0]
  | .judge seat => u8 seat ++ [0, 0, 0, 0, 0]
  | .board mask => u8 (bitsByte [mask.current, mask.leaders, mask.countdown]) ++ [0, 0, 0, 0, 0]
  | _ => [0, 0, 0, 0, 0, 0]

/-- An entry of a STATIONS image (Table 12-3). -/
def StationEntry.bytes (e : StationEntry) : List Byte :=
  u8 e.addr ++ u8 e.role.kind.code ++ u8 (segCode e.port) ++ u8 (bitsByte [e.mirror, e.role.startWindow]) ++
    u8 e.missLimit ++ e.role.bytes

/-- A STATIONS image. -/
def stationsImage (t : List StationEntry) : List Byte := u16 t.length ++ t.flatMap StationEntry.bytes

/-! ### SCHED_T and SCHED_S (R8, R194) -/

/-- `n` entries of 3 bytes and no further bytes. -/
def schedEntriesOf : Nat → List Byte → Option (List SchedEntry)
  | 0, [] => some []
  | n + 1, a :: i :: p :: rest => (schedEntriesOf n rest).map (⟨a.toNat, i.toNat, p.toNat⟩ :: ·)
  | _, _ => none

/-- R8: an entry grants its station a slot in the cycle of a mark number. -/
def SchedEntry.grants (e : SchedEntry) (mark : Nat) : Bool := decide (mark % e.interval = e.phase)

/-- R8: a schedule for a port is valid against the active STATIONS table. -/
def schedValid (stations : List StationEntry) (port : Seg) (t : List SchedEntry) : Bool :=
  decide (t.length ≤ 48) && t.all (fun e => decide (e.interval ∈ [1, 2, 4, 8, 16, 32] ∧ e.phase < e.interval)) &&
    distinct (t.map (·.addr)) &&
    t.all (fun e => (stationAt stations e.addr).any fun x => decide (x.port = port)) &&
    (List.range 32).all fun mark => decide ((t.filter fun e => e.grants mark).length ≤ 30)

/-- R194: a SCHED_T or SCHED_S image, read and checked. -/
def schedOfImage (stations : List StationEntry) (port : Seg) : List Byte → Option (List SchedEntry)
  | h :: l :: rest =>
    match schedEntriesOf (natOf h l) rest with
    | some t => if schedValid stations port t then some t else none
    | none => none
  | _ => none

/-- A SCHED_T or SCHED_S image. -/
def schedImage (t : List SchedEntry) : List Byte :=
  u16 t.length ++ t.flatMap fun e => u8 e.addr ++ u8 e.interval ++ u8 e.phase

/-! ### HILL (R195) -/

/-- The ranges and the further conditions of R195. -/
def HillTable.valid (h : HillTable) : Bool :=
  decide (40 ≤ h.k ∧ h.k ≤ 600 ∧ h.k ≤ h.hs ∧ h.hs ≤ 600 ∧ h.b ≤ 1500 ∧ h.m % 2 = 0 ∧ 2 ≤ h.m ∧ h.m ≤ 60) &&
    decide (h.headFactor ≤ 2000 ∧ h.tailFactor ≤ 2000 ∧ h.g ≤ 2000 ∧ h.coachThreshold ≤ 600 ∧ h.lead ≤ 3000) &&
    decide (300 ≤ h.flightMin ∧ h.flightMin ≤ 3000 ∧ 2000 ≤ h.flightMax ∧ h.flightMax ≤ 9000 ∧
      h.flightMin < h.flightMax ∧ h.lead + h.flightMax ≤ 12000) &&
    decide (3 ≤ h.inRunMax ∧ h.inRunMax ≤ 30 ∧ 5 ≤ h.startTime ∧ h.startTime ≤ 60 ∧ h.flashTime ≤ h.startTime ∧
      5 ≤ h.windWait ∧ h.windWait ≤ 300) &&
    decide (-1500 ≤ h.bandLow ∧ h.bandLow ≤ h.bandHigh ∧ h.bandHigh ≤ 1500) &&
    decide (5 ≤ h.liveSpan ∧ h.liveSpan ≤ 50 ∧ h.confirmWindow ≤ 60 ∧ 5 ≤ h.marksWindow ∧ h.marksWindow ≤ 120) &&
    decide (20 ≤ h.mismatchThreshold ∧ h.mismatchThreshold ≤ 1000 ∧ 1 ≤ h.mismatchCount ∧ h.mismatchCount ≤ 20 ∧
      2 ≤ h.lostThreshold ∧ h.lostThreshold ≤ 20 ∧ 2 ≤ h.recoverCount ∧ h.recoverCount ≤ 50) &&
    decide (100 ≤ h.cellSpacing ∧ h.cellSpacing ≤ 2000 ∧ 1 ≤ h.q ∧ h.q ≤ 96)

/-- Bytes as 16-bit fields. -/
def fieldsOf : List Byte → Option (List (Byte × Byte))
  | [] => some []
  | h :: l :: rest => (fieldsOf rest).map ((h, l) :: ·)
  | _ => none

/-- An on/off field: 0 or 1 (R195). -/
def onOff (f : Byte × Byte) : Option Bool :=
  if natOf f.1 f.2 = 0 then some false else if natOf f.1 f.2 = 1 then some true else none

/-- R195: a HILL image, read and checked. -/
def hillOfImage (image : List Byte) : Option HillTable :=
  match fieldsOf image with
  | some [f1, f2, f3, f4, f5, f6, f7, f8, f9, f10, f11, f12, f13, f14, f15, f16, f17, f18, f19, f20, f21, f22, f23, f24,
      f25, f26, f27, f28] =>
    let n := fun f : Byte × Byte => natOf f.1 f.2
    match onOff f20, onOff f28 with
    | some auto, some gate =>
      let h : HillTable := ⟨n f1, n f2, n f3, n f4, n f5, n f6, n f7, n f8, n f9, n f10, n f11, n f12, n f13, n f14, n f15,
        intOf f16.1 f16.2, intOf f17.1 f17.2, n f18, n f19, auto, n f21, n f22, n f23, n f24, n f25, n f26, n f27, gate⟩
      if h.valid then some h else none
    | _, _ => none
  | _ => none

/-- A HILL image: the 28 fields of Table 12-4 in order. -/
def HillTable.image (h : HillTable) : List Byte :=
  [h.k, h.hs, h.b, h.m, h.headFactor, h.tailFactor, h.g, h.coachThreshold, h.lead, h.flightMin, h.flightMax, h.inRunMax,
    h.startTime, h.flashTime, h.windWait].flatMap u16 ++ i16 h.bandLow ++ i16 h.bandHigh ++
  [h.liveSpan, h.confirmWindow, h.autoConfirm.toNat, h.marksWindow, h.mismatchThreshold, h.mismatchCount, h.lostThreshold,
    h.recoverCount, h.cellSpacing, h.q, h.windGateAtPowerOn.toNat].flatMap u16

/-! ### DISTANCE (R124) -/

/-- `n` entries of 4 bytes and no further bytes. -/
def distanceEntriesOf : Nat → List Byte → Option (List DistanceEntry)
  | 0, [] => some []
  | n + 1, m :: s :: h :: l :: rest => (distanceEntriesOf n rest).map (⟨m.toNat, s.toNat, natOf h l⟩ :: ·)
  | _, _ => none

/-- R124: a DISTANCE table is valid; the order of the pairs is that of 64 · module + sensor. -/
def distanceValid (t : List DistanceEntry) : Bool :=
  decide (t.length ≤ 1024) && t.all (fun e => decide (e.moduleIndex ≤ 15 ∧ e.sensor ≤ 63 ∧ e.distance ≤ 600)) &&
    ascending (t.map fun e => 64 * e.moduleIndex + e.sensor)

/-- R124: a DISTANCE image, read and checked. -/
def distanceOfImage : List Byte → Option (List DistanceEntry)
  | h :: l :: rest =>
    match distanceEntriesOf (natOf h l) rest with
    | some t => if distanceValid t then some t else none
    | none => none
  | _ => none

/-- A DISTANCE image. -/
def distanceImage (t : List DistanceEntry) : List Byte :=
  u16 t.length ++ t.flatMap fun e => u8 e.moduleIndex ++ u8 e.sensor ++ u16 e.distance

/-! ### COMPETITORS (R43) -/

/-- `n` entries of a bib, a name with its length byte, and three team characters, and no further bytes. -/
def competitorsOf : Nat → List Byte → Option (List Competitor)
  | 0, [] => some []
  | n + 1, h :: l :: len :: rest =>
    match rest.drop len.toNat with
    | t1 :: t2 :: t3 :: more =>
      if len.toNat ≤ rest.length then
        (competitorsOf n more).map (⟨natOf h l, rest.take len.toNat, [t1, t2, t3]⟩ :: ·)
      else none
    | _ => none
  | _, _ => none

/-- R42, R43: a COMPETITORS table is valid. -/
def competitorsValid (t : List Competitor) : Bool :=
  decide (t.length ≤ 96) &&
    t.all (fun c => bibInRange c.bib && decide (1 ≤ c.name.length ∧ c.name.length ≤ 20) &&
      c.name.all (fun b => decide (0x20 ≤ b.toNat ∧ b.toNat ≤ 0x7E)) && decide (c.team.length = 3) &&
      c.team.all (fun b => decide (0x41 ≤ b.toNat ∧ b.toNat ≤ 0x5A))) &&
    ascending (t.map (·.bib))

/-- R43: a COMPETITORS image, read and checked. -/
def competitorsOfImage : List Byte → Option (List Competitor)
  | h :: l :: rest =>
    match competitorsOf (natOf h l) rest with
    | some t => if competitorsValid t then some t else none
    | none => none
  | _ => none

/-- A COMPETITORS image. -/
def competitorsImage (t : List Competitor) : List Byte :=
  u16 t.length ++ t.flatMap fun c => u16 c.bib ++ u8 c.name.length ++ c.name ++ c.team

/-! ### All tables -/

/-- The image of an active table (R196). -/
def Tables.image (t : Tables) : TableCode → List Byte
  | .stations => stationsImage t.stations
  | .schedT => schedImage t.schedT
  | .schedS => schedImage t.schedS
  | .hill => t.hill.image
  | .distance => distanceImage t.distance
  | .competitors => competitorsImage t.competitors

/-- A table image that passed its form checks (R193, check 4). -/
inductive LoadedTable where
  | stations (t : List StationEntry)
  | schedT (t : List SchedEntry)
  | schedS (t : List SchedEntry)
  | hill (t : HillTable)
  | distance (t : List DistanceEntry)
  | competitors (t : List Competitor)
deriving DecidableEq, Repr

/-- R193, check 4: the image of a table, read and checked, a schedule against the active STATIONS table. -/
def tableOfImage (stations : List StationEntry) (code : TableCode) (image : List Byte) : Option LoadedTable :=
  match code with
  | .stations => (stationsOfImage image).map .stations
  | .schedT => (schedOfImage stations .T image).map .schedT
  | .schedS => (schedOfImage stations .S image).map .schedS
  | .hill => (hillOfImage image).map .hill
  | .distance => (distanceOfImage image).map .distance
  | .competitors => (competitorsOfImage image).map .competitors

end Sys2Proof.Machine
end

