-- ==== Sys2Proof/Machine/Line.lean ====
section
/-! DEFINITION. The station line: slots and presence of LSC, the station directory SDIR, the routing of station frames, and the
commands of the lines (chapter 2). -/

namespace Sys2Proof.Machine

/-! ### Presence (R11, R12, R101, R118, R120) -/

/-- Table 2-5: a station's presence and runs after a slot; `limit` is its miss limit. -/
def Link.afterSlot (limit : Nat) (good : Bool) (l : Link) : Link :=
  match l.presence, good with
  | .absent, true => { l with presence := .present, missRun := 0 }
  | .absent, false => l
  | .present, true => { l with missRun := 0 }
  | .present, false =>
    if limit ≤ l.missRun + 1 then { l with presence := .missing, missRun := l.missRun + 1, goodRun := 0 }
    else { l with missRun := l.missRun + 1 }
  | .missing, true =>
    if 2 ≤ l.goodRun + 1 then { l with presence := .present, missRun := 0, goodRun := l.goodRun + 1 }
    else { l with goodRun := l.goodRun + 1 }
  | .missing, false => { l with goodRun := 0 }

/-- The presence of an address replaced. -/
def State.setLink (l : Link) (s : State) : State :=
  { s with lsc := { s.lsc with links := s.lsc.links.map fun x => if x.addr = l.addr then l else x } }

/-- R118: the loss of the light frees a CLEARED or GREEN record. -/
def State.loseLight (s : State) : State :=
  match s.jtb.inState fun x => decide (x = .cleared ∨ x = .green) with
  | none => s
  | some (k, _) => s.withdraw k .lightLost

/-- R120: the light station is ABSENT, or the STATIONS table holds none. -/
def State.lightAway (s : State) : Bool :=
  match s.presenceOf .light with
  | none => true
  | some p => decide (p = .absent)

/-- R120: the echo run ends, and LAMP_MISMATCH with it. -/
def State.endEcho (s : State) : State :=
  State.setV .lampMismatch false { s with stu := { s.stu with echoRun := 0 } }

/-- R118, R120: STU meets a presence change of the light station. -/
def State.lightChanged (old new : Presence) (s : State) : State :=
  let s' := if old = .present then s.loseLight else s
  if new = .absent then s'.endEcho else s'

/-- R101: STU meets a presence change of the GATE station. -/
def State.gateChanged (new : Presence) (s : State) : State :=
  State.setV .gateFrozen (decide (new ≠ .present))
    (if new = .present then { s with stu := { s.stu with candidate := none, candidateCount := 0 } } else s)

/-- R12: the STATION report and STATION_CHANGE of a presence change. -/
def State.announcePresence (addr : Nat) (old new : Presence) (s : State) : State :=
  (s.reportStation addr old new).raise .stationChange addr

/-- R12: a presence change of a station, with the units that act on it. -/
def State.presenceChanged (addr : Nat) (kind : StationKind) (old new : Presence) (s : State) : State :=
  let s' := s.announcePresence addr old new
  match kind with
  | .light => s'.lightChanged old new
  | .gate => s'.gateChanged new
  | _ => s'

/-- R11: a slot's outcome applied to the presence of its station. -/
def State.applyOutcome (e : StationEntry) (good : Bool) (s : State) : State :=
  match linkAt s.lsc.links e.addr with
  | none => s
  | some l =>
    let l' := l.afterSlot e.missLimit good
    let s' := s.setLink l'
    if l'.presence = l.presence then s' else s'.presenceChanged e.addr e.role.kind l.presence l'.presence

/-- R9, R10: the open slot ends with an outcome, which updates no presence when a swap dropped or re-kinded its station. -/
def State.endSlot (p : Seg) (good : Bool) (s : State) : State :=
  match (s.seg p).slot with
  | none => s
  | some slot =>
    let s' := s.setSeg p { s.seg p with slot := none }
    if slot.orphan then s' else s'.applyOutcome slot.entry good

/-! ### Routing (R18) -/

/-- R120: a LAMPSTAT echo compared with the lamp command of its slot's opener; while the light station is ABSENT no run is kept. -/
def State.takeEcho (sent : Option Lamp) (shown : Lamp) (s : State) : State :=
  if s.lightAway = true ∨ sent = some shown then s.endEcho
  else
    let run := min 2 (s.stu.echoRun + 1)
    let s' := { s with stu := { s.stu with echoRun := run } }
    if run = 2 then s'.setV .lampMismatch true else s'

/-- The module index and sensor count of a LANDING entry in force (R125). -/
def landingPlace (stations : List StationEntry) (addr : Nat) : Nat × Nat :=
  match (stationAt stations addr).map StationEntry.role with
  | some (.landing m n) => (m, n)
  | _ => (0, 0)

/-- The seat of a JUDGE entry in force (R153). -/
def judgeSeat (stations : List StationEntry) (addr : Nat) : Nat :=
  match (stationAt stations addr).map StationEntry.role with
  | some (.judge seat) => seat
  | _ => 0

/-- R18: the items of an EDGE frame to FLU, by the kind of the station. -/
def State.takeEdges (e : StationEntry) (items : List EdgeItem) (s : State) : State :=
  match e.role.kind with
  | .cellA => items.foldl State.takeCellA s
  | .cellB => items.foldl State.takeCellB s
  | .takeoff => items.foldl (State.takeTakeoff e.addr) s
  | .landing =>
    let place := landingPlace s.tables.stations e.addr
    items.foldl (State.takeContact e.addr place.1 place.2) s
  | _ => s

/-- R80: the samples of a WIND frame into the context of the station's wind index. -/
def State.takeSamples (e : StationEntry) (samples : List Sample) (s : State) : State :=
  match e.role with
  | .wind w => { s with wnd := s.wnd.update w.index fun c => samples.foldl WindContext.append c }
  | _ => s

/-- R18: an accepted station frame handed to its unit. -/
def State.route (e : StationEntry) (lampSent : Option Lamp) (f : StationFrame) (s : State) : State :=
  match f with
  | .wind samples => s.takeSamples e samples
  | .gate report items => items.foldl (State.takeGateLeft e.addr) (s.takeGateReport report)
  | .edge items => s.takeEdges e items
  | .coach bib => s.takeCoach e.addr bib
  | .style bib mark => s.takeStyle e.addr (judgeSeat s.tables.stations e.addr) bib mark
  | .dist bib distance => s.takeDistance e.addr bib distance
  | .lampstat lamp => s.takeEcho lampSent lamp
  | .pass => s
  | .none => s

/-! ### The station directory (R16 to R20) -/

/-- R19, R20: the frame is copied to the office. -/
def mirrored (e : StationEntry) (f : StationFrame) : Bool := e.mirror || decide (f = .pass)

/-- R16 to R20: SDIR meets a good reply of a station: discarded with STATION_DATA_BAD, or routed and mirrored. -/
def State.direct (p : Seg) (e : StationEntry) (lampSent : Option Lamp) (kind seq : Byte) (payload : List Byte) (s : State) :
    State :=
  if maySend e.role.kind kind.toNat then
    match formCheck e.role.kind kind.toNat payload with
    | none => s.raise .stationDataBad e.addr
    | some a =>
      let s' := State.route e lampSent a.frame (if a.thinned then s.raise .stationDataBad e.addr else s)
      if mirrored e a.frame then s'.offerMirror ⟨e.addr, seq, p, kind, a.payload⟩ else s'
  else s.raise .stationDataBad e.addr

/-- R3: what arrives while the assembler drops bytes is dropped and not counted, and the delimiter that closes it ends the
dropping. -/
def State.dropOr (port : Port) (body : State → State) (s : State) : State :=
  if (s.line port).dropping then s.setLine port { s.line port with dropping := false } else body s

/-- R10: a frame arrives in the open slot: it ends the slot when it began in it. -/
def State.endBegun (p : Seg) (good : Bool) (s : State) : State :=
  match (s.seg p).slot with
  | none => s
  | some slot => if slot.frameBegun then s.endSlot p good else s

/-- R4, R10, R11: a frame addressed to the part arrives on a segment: counted SOURCE when no slot is open or another station's
is, otherwise a good reply, whose slot ends before SDIR takes it. A frame that began before the slot ends no slot (log 19). -/
def State.stationFrame (p : Seg) (source kind seq : Byte) (payload : List Byte) : State → State :=
  State.dropOr (portOfSeg p) fun s =>
    match (s.seg p).slot with
    | none => s.countFailure (portOfSeg p) .source
    | some slot =>
      if slot.entry.addr = source.toNat then
        let s' := s.endBegun p true
        if slot.orphan then s' else s'.direct p slot.entry slot.lampSent kind seq payload
      else (s.countFailure (portOfSeg p) .source).endBegun p false

/-- WIND_FRAME (R80). -/
def execWindFrame (now : Time) (seg : Seg) (source seq : Byte) (payload : List Byte) (s : State) : Out :=
  event now (State.stationFrame seg source FrameKind.wind.byte seq payload) s

/-- GATE_FRAME (R100, R115). -/
def execGateFrame (now : Time) (seg : Seg) (source seq : Byte) (payload : List Byte) (s : State) : Out :=
  event now (State.stationFrame seg source FrameKind.gate.byte seq payload) s

/-- EDGE_FRAME (R18). -/
def execEdgeFrame (now : Time) (seg : Seg) (source seq : Byte) (payload : List Byte) (s : State) : Out :=
  event now (State.stationFrame seg source FrameKind.edge.byte seq payload) s

/-- COACH_FRAME (R103). -/
def execCoachFrame (now : Time) (seg : Seg) (source seq : Byte) (payload : List Byte) (s : State) : Out :=
  event now (State.stationFrame seg source FrameKind.coach.byte seq payload) s

/-- STYLE_FRAME (R154). -/
def execStyleFrame (now : Time) (seg : Seg) (source seq : Byte) (payload : List Byte) (s : State) : Out :=
  event now (State.stationFrame seg source FrameKind.style.byte seq payload) s

/-- DIST_FRAME (R138). -/
def execDistFrame (now : Time) (seg : Seg) (source seq : Byte) (payload : List Byte) (s : State) : Out :=
  event now (State.stationFrame seg source FrameKind.dist.byte seq payload) s

/-- LAMPSTAT_FRAME (R120). -/
def execLampstatFrame (now : Time) (seg : Seg) (source seq : Byte) (payload : List Byte) (s : State) : Out :=
  event now (State.stationFrame seg source FrameKind.lampstat.byte seq payload) s

/-- STATION_PASS_FRAME (R20). -/
def execStationPassFrame (now : Time) (seg : Seg) (source seq : Byte) (payload : List Byte) (s : State) : Out :=
  event now (State.stationFrame seg source FrameKind.pass.byte seq payload) s

/-- NONE_FRAME (R18). -/
def execNoneFrame (now : Time) (seg : Seg) (source seq : Byte) (payload : List Byte) (s : State) : Out :=
  event now (State.stationFrame seg source FrameKind.none.byte seq payload) s

/-- STATION_FRAME_NOT_ADMITTED (R16). -/
def execStationFrameNotAdmitted (now : Time) (seg : Seg) (source kind seq : Byte) (payload : List Byte) (s : State) : Out :=
  event now (State.stationFrame seg source kind seq payload) s

/-! ### Frames that fail (R3, R4, R21) -/

/-- R10: a frame that fails ends the slot of a station segment that it began in, as a miss; port O has no slots. -/
def State.endMissed (port : Port) (s : State) : State :=
  match segOfPort port with
  | none => s
  | some p => s.endBegun p false

/-- R10: an abort ends the open slot of a station segment as a miss, whether or not a frame has begun. -/
def State.endAborted (port : Port) (s : State) : State :=
  match segOfPort port with
  | none => s
  | some p => s.endSlot p false

/-- The station whose slot is open on a port (R4). -/
def State.slotStation (s : State) (port : Port) : Option Nat :=
  match segOfPort port with
  | none => none
  | some p => (s.seg p).slot.map (·.entry.addr)

/-- R21: OFU takes the frame: a REQUEST to the part, or a PASS to a station other than the light station. -/
def officeTakes (stations : List StationEntry) (destination kind : Nat) : Bool :=
  decide (kind = FrameKind.request.code ∧ destination = 0x01) ||
    (decide (kind = FrameKind.pass.code) &&
      (stationAt stations destination).any fun e => decide (e.role.kind ≠ .light))

/-- R3, R10: an abort is received: counted FRAMING, and the open slot ends as a miss. -/
def State.takeAbort (port : Port) (s : State) : State := (s.countFailure port .framing).endAborted port

/-- R4: a received frame that a receive check discards. -/
def State.failFrame (port : Port) (c : CounterName) (s : State) : State := (s.countFailure port c).endMissed port

/-- R21: an office frame that every receive check passes, discarded by its kind and destination: a PASS before READY with
OFFICE_OVERRUN, any other combination than a REQUEST to the part and a PASS to a station with the ADDRESS counter. A frame that is
taken is no such event, and neither is a REQUEST to the part with no code byte, to which the manual gives no answer: the model's
choice (log 5). -/
def State.misaddressed (destination kind : Nat) (s : State) : State :=
  if kind = FrameKind.pass.code ∧ s.ready = false then s.raise .officeOverrun FrameKind.pass.code
  else if officeTakes s.tables.stations destination kind then s
  else s.countFailure .O .address

/-- R3, R4, R21: the bytes between two delimiters of a frame that is discarded. Idle fill and a frame that every check passes are
no such event (log 5). -/
def State.discardBytes (port : Port) (line : List Byte) (s : State) : State :=
  match unescape line with
  | none => s.takeAbort port
  | some content =>
    if content = [] then s
    else
      match receiveCheck port (s.slotStation port) content with
      | some c => s.failFrame port c
      | none =>
        match port, content with
        | .O, destination :: _ :: kind :: _ => s.misaddressed destination.toNat kind.toNat
        | _, _ => s

/-- R3, R4, R21: a frame that is discarded, or the end of bytes the assembler drops. -/
def State.discard (port : Port) (line : List Byte) : State → State := State.dropOr port (State.discardBytes port line)

/-- FRAME_DISCARDED (R4, R21). -/
def execFrameDiscarded (now : Time) (port : Port) (line : List Byte) (s : State) : Out :=
  event now (State.discard port line) s

/-- ABORT_RECEIVED (R3, R10). -/
def execAbortReceived (now : Time) (port : Port) (s : State) : Out :=
  event now (State.dropOr port (State.takeAbort port)) s

/-! ### PASS frames from the office (R21, R22) -/

/-- R21, R22: a PASS from the office. -/
def State.takePass (seq destination : Byte) (payload : List Byte) (s : State) : State :=
  if s.ready then
    match stationAt s.tables.stations destination.toNat with
    | none => s.countFailure .O .address
    | some e =>
      if e.role.kind = .light then s.countFailure .O .address
      else
        let g := s.seg e.port
        if g.queue.length < Config.downstreamLimit then
          s.setSeg e.port { g with queue := g.queue ++ [.pass e.addr seq payload] }
        else s.raise .officeOverrun FrameKind.pass.code
  else s.raise .officeOverrun FrameKind.pass.code

/-- OFFICE_PASS (R21, R22). -/
def execOfficePass (now : Time) (seq destination : Byte) (payload : List Byte) (s : State) : Out :=
  event now (State.takePass seq destination payload) s

/-! ### Slots (R9, R10, R24) -/

/-- The station a queued frame is addressed to. -/
def QueuedFrame.station : QueuedFrame → Nat
  | .pass a _ _ => a
  | .page b _ _ => b

/-- R24: the oldest frame addressed to a station, and the queue without it. -/
def takeQueued (addr : Nat) : List QueuedFrame → Option (QueuedFrame × List QueuedFrame)
  | [] => none
  | f :: rest =>
    if f.station = addr then some (f, rest)
    else (takeQueued addr rest).map fun x => (x.1, f :: x.2)

/-- A frame the part originates on a port: it carries the port's transmit sequence count, which then advances (R1). -/
def State.sendOwn (port : Port) (destination : Nat) (kind : FrameKind) (payload : List Byte) (s : State) : State :=
  let u := s.line port
  s.setLine port { u.start s.now ⟨BitVec.ofNat 8 destination, 0x01, kind.byte, u.txSeq, payload⟩ with txSeq := u.txSeq + 1 }

/-- R1, R22: a queued frame sent as an opener; a PASS keeps the office's sequence number. -/
def State.sendQueued (port : Port) (f : QueuedFrame) (s : State) : State :=
  match f with
  | .page b _ payload => s.sendOwn port b .page payload
  | .pass a seq payload =>
    s.setLine port ((s.line port).start s.now ⟨BitVec.ofNat 8 a, 0x01, FrameKind.pass.byte, seq, payload⟩)

/-- R10: the slot of a station begins. -/
def openedSlot (e : StationEntry) (lampSent : Option Lamp) (now : Time) : Slot where
  entry := e
  lampSent := lampSent
  openerSent := false
  windowClose := none
  budgetEnd := after now Config.slotBudget
  frameBegun := false
  orphan := false

/-- R7, R26: a segment's line unit is sending the frame in its shifter: the opener of the open slot, or TIME for as long as a TIME
frame takes after its cycle start (log 9). -/
def State.sending (p : Seg) (s : State) : Bool :=
  match (s.line (portOfSeg p)).shifter with
  | none => false
  | some f => (s.seg p).slot.isSome ||
      (decide (f.kind = FrameKind.time.byte) &&
        s.lastCycleStart.any fun t => decide ((s.now - t).toNat < Config.timeFrame))

/-- A frame that a segment's line unit still holds when the next slot opens has been sent: TIME with no pause before the opener when
it was still being sent, and any frame that ended before with one (R1; log 9). -/
def State.closeLine (p : Seg) (s : State) : State :=
  s.setLine (portOfSeg p)
    (if s.sending p then (s.line (portOfSeg p)).close s.now else (s.line (portOfSeg p)).settle)

/-- R9, R24: the slot of a station opened with its opener: LAMP for the light station, the oldest frame queued for a PRESENT
station, otherwise POLL. -/
def State.openSlot (p : Seg) (e : StationEntry) (s : State) : State :=
  let port := portOfSeg p
  let s := s.closeLine p
  let opened := fun (lampSent : Option Lamp) (s : State) =>
    s.setSeg p { s.seg p with slot := some (openedSlot e lampSent s.now) }
  if e.role.kind = .light then
    opened (some s.lsc.lampSlot) (s.sendOwn port e.addr .lamp (u8 s.lsc.lampSlot.code))
  else if (linkAt s.lsc.links e.addr).any fun l => decide (l.presence = .present) then
    match takeQueued e.addr (s.seg p).queue with
    | some (f, rest) => opened none ((s.setSeg p { s.seg p with queue := rest }).sendQueued port f)
    | none => opened none (s.sendOwn port e.addr .poll [])
  else opened none (s.sendOwn port e.addr .poll [])

/-- R8, R9: the next granted station that the active STATIONS table holds on the segment, and the grants after it. -/
def nextGrant (stations : List StationEntry) (p : Seg) : List Nat → Option (StationEntry × List Nat)
  | [] => none
  | a :: rest =>
    match stationAt stations a with
    | some e => if e.port = p then some (e, rest) else nextGrant stations p rest
    | none => nextGrant stations p rest

/-- R26: a segment is silent at a hill time earlier than the end of its silence, the value armed first (R31). -/
def Segment.silent (g : Segment) (now : Time) : Bool := g.silentUntil.any (earlierThan now)

/-- R9: LSC opens the next granted slot of the running cycle on a segment with no slot open. -/
def State.openNext (p : Seg) (s : State) : State :=
  let g := s.seg p
  if s.ready && g.slot.isNone && !g.silent s.now then
    match nextGrant s.tables.stations p g.granted with
    | none => s.setSeg p { g with granted := [] }
    | some (e, rest) => (s.setSeg p { g with granted := rest }).openSlot p e
  else s

/-- SLOT_OPEN (R9). -/
def execSlotOpen (now : Time) (seg : Seg) (s : State) : Out := event now (State.openNext seg) s

/-- R10: the opener's closing delimiter has been sent: the reply window opens. -/
def State.openWindow (p : Seg) (s : State) : State :=
  match (s.seg p).slot with
  | none => s
  | some slot =>
    if slot.openerSent then s
    else
      let s' := s.setLine (portOfSeg p) ((s.line (portOfSeg p)).close s.now)
      s'.setSeg p { s'.seg p with
        slot := some { slot with
          openerSent := true
          windowClose := if slot.frameBegun then none else some (after s.now Config.replyWindow) } }

/-- REPLY_WINDOW_OPEN (R10). -/
def execReplyWindowOpen (now : Time) (seg : Seg) (s : State) : Out := event now (State.openWindow seg) s

/-- R10: the reply window closes with no frame begun: a timeout and a miss. -/
def State.closeWindow (p : Seg) (s : State) : State :=
  match (s.seg p).slot with
  | none => s
  | some slot =>
    if slot.windowClose = some s.now ∧ slot.frameBegun = false then
      (s.countFailure (portOfSeg p) .slotTimeout).endSlot p false
    else s

/-- REPLY_WINDOW_CLOSE (R10). -/
def execReplyWindowClose (now : Time) (seg : Seg) (s : State) : Out := event now (State.closeWindow seg) s

/-- R3: LSC cuts the frame in assembly at the end of a slot's budget: counted FRAMING, and the bytes that follow are dropped. -/
def State.cutFrame (port : Port) (s : State) : State :=
  let s' := s.countFailure port .framing
  s'.setLine port { s'.line port with dropping := true }

/-- R3, R10: the slot budget runs out: a frame in assembly is cut, and no frame begun is a timeout; a miss. -/
def State.endBudget (p : Seg) (s : State) : State :=
  match (s.seg p).slot with
  | none => s
  | some slot =>
    if slot.budgetEnd = s.now then
      (if slot.frameBegun then s.cutFrame (portOfSeg p) else s.countFailure (portOfSeg p) .slotTimeout).endSlot p false
    else s

/-- SLOT_BUDGET_END (R10). -/
def execSlotBudgetEnd (now : Time) (seg : Seg) (s : State) : Out := event now (State.endBudget seg) s

/-- R3, R10: a content byte or abort arrives after a delimiter: nothing is dropped any more, and in an open slot a frame has begun,
so the reply window can no longer time out. -/
def State.beginFrame (p : Seg) (s : State) : State :=
  let s := s.setLine (portOfSeg p) { s.line (portOfSeg p) with dropping := false }
  match (s.seg p).slot with
  | none => s
  | some slot => s.setSeg p { s.seg p with slot := some { slot with frameBegun := true, windowClose := none } }

/-- FRAME_BEGUN (R10). -/
def execFrameBegun (now : Time) (seg : Seg) (s : State) : Out := event now (State.beginFrame seg) s

/-! ### Cycle starts (R7, R9, R26, R32, R33) -/

/-- R32: a cycle start occurs at this hill time and has not been taken. -/
def State.cycleDue (s : State) : Bool :=
  s.ready && decide (s.now.toNat % Config.cycleLength = 0 ∧ s.now ≠ 0 ∧ s.lastCycleStart ≠ some s.now)

/-- R7: the mark number of the next cycle start. -/
def State.markNumber (s : State) : Byte := BitVec.ofNat 8 s.lsc.cycleCount

/-- R8: the stations a schedule grants a slot in the cycle of a mark number, in table order. -/
def grantsOf (table : List SchedEntry) (mark : Nat) : List Nat := (table.filter fun e => e.grants mark).map (·.addr)

/-- The schedule of a segment. -/
def Tables.schedule (t : Tables) : Seg → List SchedEntry
  | .T => t.schedT
  | .S => t.schedS

/-- R7, R9, R26: a cycle begins on a segment: TIME and the granted slots, unless it is silent; a silence that has run out ends. -/
def State.beginCycle (p : Seg) (s : State) : State :=
  let g := s.seg p
  if g.silent s.now then s.setSeg p { g with granted := [] }
  else
    (s.setSeg p { g with
      granted := grantsOf (s.tables.schedule p) s.markNumber.toNat
      silentUntil := none }).sendOwn (portOfSeg p) 0xFF .time (s.markNumber :: u32 s.now)

/-- R7, R33: the mark enters the history and the cycle count advances. -/
def State.pushMark (s : State) : State :=
  { s with
    hck := { s.hck with marks := ((s.markNumber, s.now) :: s.hck.marks).take Config.markHistory }
    lsc := { s.lsc with cycleCount := s.lsc.cycleCount + 1 } }

/-- R134: the settle count of a record in LANDING at a cycle start after its first contact. -/
def State.countSettle (s : State) : State :=
  if (s.jtb.inState fun x => decide (x = .landing)).isSome && atOrAfter s.now s.flu.firstArrival then
    { s with flu := { s.flu with settleCount := min 2 (s.flu.settleCount + 1) } }
  else s

/-- Table 3-1: the cycle start, unit by unit: LSC, HCK, WND, STU, FLU's settle count. -/
def State.startCycle (s : State) : State :=
  if s.cycleDue then ((((s.beginCycle .T).beginCycle .S).pushMark.windTick).testLiveWind).countSettle else s

/-- CYCLE_START (R32). -/
def execCycleStart (now : Time) (s : State) : Out := event now State.startCycle s

/-! ### RESTART (R26, R201) -/

/-- R26: the stations of a segment, each ABSENT with both runs 0. -/
def State.absentStation (s : State) (e : StationEntry) : State :=
  match linkAt s.lsc.links e.addr with
  | none => s
  | some l =>
    let s' := s.setLink { l with presence := .absent, missRun := 0, goodRun := 0 }
    if l.presence = .absent then s' else s'.presenceChanged e.addr e.role.kind l.presence .absent

/-- R26: LSC restarts a segment. -/
def State.restartSegment (p : Seg) (s : State) : State :=
  let u := s.line (portOfSeg p)
  let s' := (s.setLine (portOfSeg p) (if s.sending p then u.abortSending s.now else u.settle)).setSeg p
    { queue := [], granted := [], slot := none, silentUntil := some (after s.now Config.restartSilence) }
  (s.tables.stations.filter fun e => decide (e.port = p)).foldl State.absentStation s'

/-- R201: RESTART. -/
def restart (port : Byte) (s : State) : Answer :=
  match port.toNat with
  | 1 => accept .nothing (s.restartSegment .T)
  | 2 => accept .nothing (s.restartSegment .S)
  | _ => refuse .badValue s

/-- RESTART (R201, R26). -/
def execRestart (now : Time) (seq port : Byte) (s : State) : Out := request now seq 0x03 (restart port) s

/-- R26: the RESTART silence of a segment runs out; TIME and slots follow at the next cycle start. -/
def State.endSilence (p : Seg) (s : State) : State :=
  if (s.seg p).silentUntil = some s.now then s.setSeg p { s.seg p with silentUntil := none } else s

/-- RESTART_SILENCE_END (R26). -/
def execRestartSilenceEnd (now : Time) (seg : Seg) (s : State) : Out := event now (State.endSilence seg) s

end Sys2Proof.Machine
end

