-- ==== Sys2Proof/Machine/Lists.lean ====
section
/-! DEFINITION. The competition lists CLS: the rounds, the start list and the views of the lists (chapter 4, R170). -/

namespace Sys2Proof.Machine

/-! ### Rounds (R51 to R56) -/

/-- R51, R53: ROUND_OPEN. -/
def roundOpen (round : Byte) (s : State) : Answer :=
  match round.toNat with
  | 1 =>
    if s.competition ≠ .prepare then refuse .wrongState s
    else if s.startList = [] then refuse .notFound s
    else
      accept (.roundOpened .r1Open s.startList.length)
        (State.sendLeaders (State.deriveLamp { s with competition := .r1Open }))
  | 2 =>
    if s.competition ≠ .r1Closed then refuse .wrongState s
    else
      let q := s.tables.hill.q
      let order := round2Order q s.results
      accept (.round2Opened .r2Open order.length (cutTotal q s.results) (order.length - q))
        (State.sendLeaders (State.deriveLamp { s with competition := .r2Open, startList := order }))
  | _ => refuse .badValue s

/-- R55: the non-starter report of a bib. The flags field that Table 11-5 gives every JUMP report, and R55 does not name, is empty:
the model's choice (log 29). -/
def dnsReport (bib : Nat) : Report := .jump bib none none .dns .none .none

/-- R50: the state that follows an open round. -/
def CompState.closed : CompState → CompState
  | .r1Open => .r1Closed
  | .r2Open => .final
  | x => x

/-- R54, R106, R104: STU at ROUND_CLOSE: no pending coach request, no reference gate, none pending. -/
def StartUnit.closeRound (u : StartUnit) : StartUnit :=
  { u with coachRequest := none, pendingReference := none, roundReference := none, referenceFixed := false }

/-- R54, R55: ROUND_CLOSE. -/
def roundClose (s : State) : Answer :=
  if !s.competition.isOpen || decide (s.jtb.records ≠ []) then refuse .wrongState s
  else
    let s' := s.startList.foldl (fun s bib => s.reportJump (dnsReport bib)) s
    accept (.roundClosed s.competition.closed s.startList.length)
      (State.deriveLamp
        { s' with startList := [], competition := s.competition.closed, stu := s'.stu.closeRound })

/-- R56: RESULTS_CLEAR. -/
def resultsClear (s : State) : Answer :=
  if s.competition.isOpen then refuse .wrongState s
  else
    accept .nothing (State.sendLeaders (State.deriveLamp { s with results := [], startList := [], competition := .prepare }))

/-- ROUND_OPEN (R51, R53). -/
def execRoundOpen (now : Time) (seq round : Byte) (s : State) : Out := request now seq 0x20 (roundOpen round) s

/-- ROUND_CLOSE (R54). -/
def execRoundClose (now : Time) (seq : Byte) (s : State) : Out := request now seq 0x21 roundClose s

/-- RESULTS_CLEAR (R56). -/
def execResultsClear (now : Time) (seq : Byte) (s : State) : Out := request now seq 0x22 resultsClear s

/-! ### The start list (R45 to R48, R57) -/

/-- The list is closed to editing (R45, R46, R47). -/
def CompState.listClosed (x : CompState) : Bool := decide (x = .r1Closed ∨ x = .final)

/-- R57: a result entry holds a total for the open round. -/
def ResultEntry.standsFor (e : ResultEntry) : CompState → Bool
  | .r1Open => e.round1.isSome
  | .r2Open => e.round2.isSome
  | _ => false

/-- A bib placed at an index of a list; the bibs from there on move back. -/
def insertBib (bib position : Nat) (l : List Nat) : List Nat := l.take position ++ bib :: l.drop position

/-- R45: LIST_INSERT. -/
def listInsert (bib position : Half) (s : State) : Answer :=
  let b := bib.toNat
  if !bibInRange b then refuse .badValue s
  else if s.competition.listClosed then refuse .wrongState s
  else if (competitorOf s.tables.competitors b).isNone then refuse .notFound s
  else if b ∈ s.startList then refuse .wrongState s
  else if (s.jtb.holding b).isSome then refuse .wrongState s
  else if (entryOf s.results b).any fun e => e.standsFor s.competition then refuse .wrongState s
  else if (entryOf s.results b).any fun e => decide (e.status = .dsq) then refuse .wrongState s
  else if Config.listLimit ≤ s.startList.length then refuse .full s
  else if s.startList.length < position.toNat then refuse .badValue s
  else
    let l := insertBib b position.toNat s.startList
    accept (.listLength l.length) { s with startList := l }

/-- R46: LIST_REMOVE. -/
def listRemove (bib : Half) (s : State) : Answer :=
  let b := bib.toNat
  if !bibInRange b then refuse .badValue s
  else if s.competition.listClosed then refuse .wrongState s
  else if b ∈ s.startList then
    accept (.listLength (s.startList.erase b).length) { s with startList := s.startList.erase b }
  else refuse .notFound s

/-- R47: LIST_MOVE. -/
def listMove (bib position : Half) (s : State) : Answer :=
  let b := bib.toNat
  if !bibInRange b then refuse .badValue s
  else if s.competition.listClosed then refuse .wrongState s
  else if b ∈ s.startList then
    if position.toNat < s.startList.length then
      accept .nothing { s with startList := insertBib b position.toNat (s.startList.erase b) }
    else refuse .badValue s
  else refuse .notFound s

/-- R48: LIST_READ. -/
def listRead (index : Half) (s : State) : Answer :=
  if s.startList.length < index.toNat then refuse .badValue s
  else accept (.listView s.startList.length s.competition ((s.startList.drop index.toNat).take 40)) s

/-- The longest start of a list whose items fit into a room, by the size of each. -/
def takeFitting {α : Type} (size : α → Nat) (room : Nat) : List α → List α
  | [] => []
  | a :: rest => if size a ≤ room then a :: takeFitting size (room - size a) rest else []

/-- R170: RESULTS_READ. Of the entries it may give, those are given that fit into the 118 result bytes of Table 2-16, three of
which hold the entry count and the competition state (log 13). -/
def resultsRead (index : Half) (detail : Byte) (s : State) : Answer :=
  if 1 < detail.toNat ∨ s.results.length < index.toNat then refuse .badValue s
  else
    let most := if detail.toNat = 0 then 8 else 4
    let withDetail := decide (detail.toNat = 1)
    let entries := ((s.results.drop index.toNat).take most).map fun e => (⟨e, rankIn s.results e⟩ : RankedEntry)
    let shown := takeFitting (fun e => (RankedEntry.bytes withDetail e).length) (Config.resultBytes - 3) entries
    accept (.resultsView s.results.length s.competition shown withDetail) s

/-- LIST_INSERT (R45). -/
def execListInsert (now : Time) (seq : Byte) (bib position : Half) (s : State) : Out :=
  request now seq 0x23 (listInsert bib position) s

/-- LIST_REMOVE (R46). -/
def execListRemove (now : Time) (seq : Byte) (bib : Half) (s : State) : Out := request now seq 0x24 (listRemove bib) s

/-- LIST_MOVE (R47). -/
def execListMove (now : Time) (seq : Byte) (bib position : Half) (s : State) : Out :=
  request now seq 0x25 (listMove bib position) s

/-- LIST_READ (R48). -/
def execListRead (now : Time) (seq : Byte) (index : Half) (s : State) : Out := request now seq 0x26 (listRead index) s

/-- RESULTS_READ (R170). -/
def execResultsRead (now : Time) (seq : Byte) (index : Half) (detail : Byte) (s : State) : Out :=
  request now seq 0x27 (resultsRead index detail) s

end Sys2Proof.Machine
end

