-- ==== Sys2Proof/Machine/Loading.lean ====
section
/-! DEFINITION. Loading and reading the tables: the load buffer, the checks of LOAD_END, and what each swap does (section 12.3,
R13, R25, R43, R79, R91, R101, R122). -/

namespace Sys2Proof.Machine

/-! ### The load buffer (R192) -/

/-- R192: LOAD_BEGIN. -/
def loadBegin (table : Byte) (length : Half) (s : State) : Answer :=
  match TableCode.ofCode table.toNat with
  | none => refuse .badValue s
  | some code =>
    if 1 ≤ length.toNat ∧ length.toNat ≤ Config.loadLimit then
      accept (.loadOpened code.code length.toNat) { s with loadBuffer := some ⟨code, length.toNat, []⟩ }
    else refuse .badValue s

/-- R192: bytes written over a content from an offset no greater than its length. -/
def overwrite (content : List Byte) (offset : Nat) (data : List Byte) : List Byte :=
  content.take offset ++ data ++ content.drop (offset + data.length)

/-- R192: LOAD_DATA. -/
def loadData (offset : Half) (data : List Byte) (s : State) : Answer :=
  match s.loadBuffer with
  | none => refuse .wrongState s
  | some b =>
    if b.content.length < offset.toNat then refuse .badValue s
    else if b.length < offset.toNat + data.length then refuse .badValue s
    else
      let content := overwrite b.content offset.toNat data
      accept (.loadFill content.length) { s with loadBuffer := some { b with content := content } }

/-! ### Swapping in a STATIONS table (R9, R13, R25, R79, R101, R193) -/

/-- The new table keeps a station: its address with its kind (R13). -/
def keepsStation (new : List StationEntry) (e : StationEntry) : Bool :=
  (stationAt new e.addr).any fun x => decide (x.role.kind = e.role.kind)

/-- R13: the presence of a station at a swap: kept, or ABSENT with both runs 0. -/
def swappedLink (old : List StationEntry) (links : List Link) (e : StationEntry) : Link :=
  if keepsStation old e then (linkAt links e.addr).getD ⟨e.addr, .absent, 0, 0⟩ else ⟨e.addr, .absent, 0, 0⟩

/-- R25: a queued frame stays: the new table keeps its station, on the port of the queue. -/
def keepsFrame (old new : List StationEntry) (p : Seg) (f : QueuedFrame) : Bool :=
  (stationAt old f.station).any (keepsStation new) && (stationAt new f.station).any fun e => decide (e.port = p)

/-- R9, R25: LSC's part of a segment at a swap: the queue purged, and the open slot marked when its station is not kept. -/
def Segment.swap (old new : List StationEntry) (p : Seg) (g : Segment) : Segment :=
  { g with
    queue := g.queue.filter (keepsFrame old new p)
    slot := g.slot.map fun x => { x with orphan := x.orphan || !keepsStation new x.entry } }

/-- R13, R118, R120: a station that a swap drops or re-kinds, and that was PRESENT or MISSING. GATE_FROZEN waits (R193). -/
def State.dropStation (s : State) (x : StationEntry × Presence) : State :=
  if x.2 = .absent then s
  else
    let s' := s.announcePresence x.1.addr x.2 .absent
    if x.1.role.kind = .light then s'.lightChanged x.2 .absent else s'

/-- R101: GATE_FROZEN follows the GATE station of the active table. -/
def State.followGate (s : State) : State := s.setV .gateFrozen (!s.isPresent .gate)

/-- R120: no echo run is kept when the active table holds no LIGHT station, or one that is ABSENT. -/
def State.followLight (s : State) : State := if s.lightAway then s.endEcho else s

/-- R193: a STATIONS table becomes active: presence and queues, then the wind contexts, then GATE_FROZEN. -/
def State.swapStations (new : List StationEntry) (s : State) : State :=
  let old := s.tables.stations
  let lost := (old.filter fun e => !keepsStation new e).map fun e =>
    (e, ((linkAt s.lsc.links e.addr).map (·.presence)).getD .absent)
  let s' := { s with
    tables := { s.tables with stations := new }
    lsc := { s.lsc with
      segT := s.lsc.segT.swap old new .T
      segS := s.lsc.segS.swap old new .S
      links := new.map (swappedLink old s.lsc.links) } }
  ((lost.foldl State.dropStation s').followLight.windSwap).followGate

/-! ### LOAD_END (R193) -/

/-- R193, check 6: the WIND entries of two STATIONS tables differ. -/
def windEntriesDiffer (a b : List StationEntry) : Bool :=
  !((windPlaces a).all (fun w => decide (w ∈ windPlaces b)) && (windPlaces b).all fun w => decide (w ∈ windPlaces a))

/-- R43: every bib of the start list, the records and the results list has an entry. -/
def keepsBibs (s : State) (t : List Competitor) : Bool :=
  (s.startList ++ s.jtb.records.map (·.2.bib) ++ s.results.map (·.bib)).all fun b => (competitorOf t b).isSome

/-- R193, checks 5 to 7: why a table may not become active now. -/
def swapRefusal (s : State) : LoadedTable → Option Status
  | .hill _ => if s.competition.isOpen then some .locked else none
  | .distance _ => if s.competition.isOpen then some .locked else none
  | .stations t =>
    if s.competition.isOpen && windEntriesDiffer t s.tables.stations then some .locked else none
  | .competitors t => if keepsBibs s t then none else some .wrongState
  | .schedT _ => none
  | .schedS _ => none

/-- R193: a table becomes active, each unit meeting it as its rule states. -/
def State.swapTable (t : LoadedTable) (s : State) : State :=
  match t with
  | .stations x => s.swapStations x
  | .schedT x => { s with tables := { s.tables with schedT := x } }
  | .schedS x => { s with tables := { s.tables with schedS := x } }
  | .hill x => State.thresholdSwap { s with tables := { s.tables with hill := x } }
  | .distance x => { s with tables := { s.tables with distance := x } }
  | .competitors x => { s with tables := { s.tables with competitors := x } }

/-- R193: LOAD_END. From check 3 on the buffer is closed whatever the outcome. -/
def loadEnd (s : State) : Answer :=
  match s.loadBuffer with
  | none => refuse .wrongState s
  | some b =>
    if s.engine.isSome then refuse .busy s
    else
      let s' := { s with loadBuffer := none }
      if b.content.length < b.length then refuse .badValue s'
      else
        match tableOfImage s.tables.stations b.table b.content with
        | none => refuse .badValue s'
        | some t =>
          match swapRefusal s t with
          | some status => refuse status s'
          | none => accept (.tableLoaded b.table.code b.length) (s'.swapTable t)

/-- R196: the bytes a READ_TABLE reply carries at most. -/
def readPiece : Nat := 112

/-- R196: READ_TABLE. -/
def readTable (table : Byte) (offset : Half) (s : State) : Answer :=
  match TableCode.ofCode table.toNat with
  | none => refuse .badValue s
  | some code =>
    let image := s.tables.image code
    if image.length < offset.toNat then refuse .badValue s
    else
      accept (.tablePiece code.code image.length offset.toNat ((image.drop offset.toNat).take readPiece)) s

/-- LOAD_BEGIN (R192). -/
def execLoadBegin (now : Time) (seq table : Byte) (length : Half) (s : State) : Out :=
  request now seq 0x05 (loadBegin table length) s

/-- LOAD_DATA (R192); with no data bytes, or more than 117, its form is bad (R188), which is judged before READY (R189). -/
def execLoadData (now : Time) (seq : Byte) (offset : Half) (data : List Byte) (s : State) : Out :=
  if 1 ≤ data.length ∧ data.length ≤ 117 then request now seq 0x06 (loadData offset data) s
  else event now (State.takeRequest seq 0x06 true (refuse .badRequest)) s

/-- LOAD_END (R193). -/
def execLoadEnd (now : Time) (seq : Byte) (s : State) : Out := request now seq 0x07 loadEnd s

/-- READ_TABLE (R196). -/
def execReadTable (now : Time) (seq table : Byte) (offset : Half) (s : State) : Out :=
  request now seq 0x08 (readTable table offset) s

end Sys2Proof.Machine
end

