-- ==== Sys2Proof/Machine/Office.lean ====
section
/-! DEFINITION. The office unit OFU: identity, readings, report enables, snapshots, unknown requests, and the sending of office
frames (chapters 11 and 12). -/

namespace Sys2Proof.Machine

/-! ### Readings -/

/-- R191: IDENTIFY. -/
def identify (s : State) : Answer := accept (.identity Config.partCode Config.revision s.ready) s

/-- R6: READ_COUNTERS. -/
def readCounters (port : Byte) (s : State) : Answer :=
  match portOfCode port.toNat with
  | none => refuse .badValue s
  | some p => accept (.counters (s.line p).counters) (s.setLine p { s.line p with counters := .zero })

/-- R93: both slip counters of a context cleared. -/
def WindContext.clearSlips (c : WindContext) : WindContext := { c with drops := 0, repeats := 0 }

/-- R27, R99: the wind fields of a WIND station. -/
def State.windReading (s : State) (e : StationEntry) : Option WindReading :=
  match e.role with
  | .wind w => (s.wnd.context w.index).map WindContext.reading
  | _ => none

/-- R27: what clear = 1 does at a station. -/
def State.clearSlipsOf (s : State) (e : StationEntry) : State :=
  match e.role with
  | .wind w => { s with wnd := s.wnd.update w.index WindContext.clearSlips }
  | _ => s

/-- R27: READ_STATION. -/
def readStation (address clear : Byte) (s : State) : Answer :=
  if address.toNat < 0x10 ∨ 0xEF < address.toNat ∨ 1 < clear.toNat then refuse .badValue s
  else
    match stationAt s.tables.stations address.toNat with
    | none => refuse .notFound s
    | some e =>
      let l := (linkAt s.lsc.links e.addr).getD ⟨e.addr, .absent, 0, 0⟩
      accept (.station e.role.kind e.port l.presence l.missRun l.goodRun (s.windReading e))
        (if clear.toNat = 1 then s.clearSlipsOf e else s)

/-- R179: a condition after READ_CONDITIONS: kept when it is a state condition with V = 1. -/
def Condition.afterRead (c : Condition) : Condition := if c.v then c else ⟨c.v, false, 0⟩

/-- R179: every condition after READ_CONDITIONS. -/
def Conditions.afterRead (cs : Conditions) : Conditions :=
  CondName.all.foldl (fun x c => x.set c (cs.get c).afterRead) cs

/-- R179: READ_CONDITIONS. -/
def readConditions (s : State) : Answer :=
  accept (.conditions (CondName.all.map s.conditions.get)) { s with conditions := s.conditions.afterRead }

/-- R180, R188: the enables a request gives. -/
def enablesOf (conditions : Half) (kinds : Byte) : Enables :=
  ⟨conditions, bitOf kinds 0, bitOf kinds 1, bitOf kinds 2, bitOf kinds 3⟩

/-- R180: SET_REPORT_ENABLES. -/
def setReportEnables (conditions : Half) (kinds : Byte) (s : State) : Answer :=
  let e := enablesOf conditions kinds
  accept (.enables e.conditions e.condition e.station e.jump e.result) { s with enables := e }

/-! ### Snapshots (R186, R187) -/

/-- R113: the remaining start time in tenths of a second, rounded up; 0 while no record is GREEN. -/
def State.remaining (s : State) : Nat :=
  match s.jtb.inState fun x => decide (x = .green) with
  | none => 0
  | some (_, r) => (((r.greenExpiryTime.getD s.now) - s.now).toNat + 999) / 1000

/-- R106: the reference gate with its marker. -/
def StartUnit.reference (u : StartUnit) : RefGateReading :=
  match u.referenceFixed, u.roundReference, u.pendingReference with
  | true, some g, _ => .fixed g
  | _, _, some g => .pending g
  | _, _, none => .unset

/-- Table 11-8: the copy. -/
def State.takeSnapshot (s : State) : Snapshot where
  time := s.now
  head := ⟨s.stu.lamp, s.remaining, s.stu.gate, s.stu.reference, s.wnd.liveWind, s.competition⟩
  jump := s.jtb.inState RecState.active
  means := s.wnd.means
  presences := s.tables.stations.map fun e => ((linkAt s.lsc.links e.addr).map (·.presence)).getD .absent

/-- R186: SNAPSHOT. -/
def snapshot (s : State) : Answer :=
  let c := s.takeSnapshot
  accept (.snapshotHead c.time c.head) { s with snapshot := some c }

/-- R187: SNAPSHOT_PART; a part outside 0..3 is judged before the missing copy, in the rule's order. -/
def snapshotPart (part : Byte) (s : State) : Answer :=
  if 3 < part.toNat then refuse .badValue s
  else
    match s.snapshot with
    | none => refuse .wrongState s
    | some c =>
      match part.toNat with
      | 0 => accept (.snapshotHead c.time c.head) s
      | 1 => accept (.snapshotJump c.time c.jump) s
      | 2 => accept (.snapshotMeans c.time c.means) s
      | _ => accept (.snapshotPresences c.time c.presences) s

/-! ### Office frames sent (R184, R185, R199) -/

/-- R185, R199: a reply is the OK reply of the RESET that waits. -/
def isResetReply (r : Reply) : Bool := decide (r.code = 0x02 ∧ r.status = .ok)

/-- R184: the frame in transmission leaves the queue; when it is the RESET's own reply, the frames still waiting are discarded and
the reset may take effect (R185, R199). -/
def State.frameSent (s : State) : State :=
  match s.office.sending with
  | none => s
  | some f =>
    let s' := { s with
      office := { s.office with sending := none }
      lineO := s.lineO.close s.now }
    match s.takenReset, f with
    | some x, .reply r =>
      if isResetReply r then { s' with office := .empty, takenReset := some { x with replySent := true } } else s'
    | _, _ => s'

/-- IDENTIFY (R191). -/
def execIdentify (now : Time) (seq : Byte) (s : State) : Out := event now (State.takeRequest seq 0x01 true identify) s

/-- READ_COUNTERS (R6). -/
def execReadCounters (now : Time) (seq port : Byte) (s : State) : Out := request now seq 0x10 (readCounters port) s

/-- READ_STATION (R27). -/
def execReadStation (now : Time) (seq address clear : Byte) (s : State) : Out :=
  request now seq 0x11 (readStation address clear) s

/-- READ_CONDITIONS (R179). -/
def execReadConditions (now : Time) (seq : Byte) (s : State) : Out := request now seq 0x12 readConditions s

/-- SET_REPORT_ENABLES (R180). -/
def execSetReportEnables (now : Time) (seq : Byte) (conditions : Half) (kinds : Byte) (s : State) : Out :=
  request now seq 0x13 (setReportEnables conditions kinds) s

/-- SNAPSHOT (R186). -/
def execSnapshot (now : Time) (seq : Byte) (s : State) : Out := request now seq 0x14 snapshot s

/-- SNAPSHOT_PART (R187). -/
def execSnapshotPart (now : Time) (seq part : Byte) (s : State) : Out := request now seq 0x15 (snapshotPart part) s

/-- UNKNOWN_REQUEST (R188): a code and bytes that make no request of Table 2-17 are answered BAD_REQUEST, before READY too
(R189); others are no such event (log 5). -/
def execUnknownRequest (now : Time) (seq code : Byte) (args : List Byte) (s : State) : Out :=
  event now (fun s =>
    if (decodeRequest s.now seq code args).isNone then State.takeRequest seq code true (refuse .badRequest) s else s) s

/-- OFFICE_FRAME_SENT (R184). -/
def execOfficeFrameSent (now : Time) (s : State) : Out := event now State.frameSent s

end Sys2Proof.Machine
end

