-- ==== Sys2Proof/Machine/Resets.lean ====
section
/-! DEFINITION. Stored settings, READY and the resets (sections 12.2, 12.5 and 12.6, Table 12-5). -/

namespace Sys2Proof.Machine

/-! ### STORE (R197) -/

/-- R197: the copy of the six items. -/
def State.storedItems (s : State) : StoredItems :=
  ⟨s.tables.stations, s.tables.schedT, s.tables.schedS, s.tables.hill, s.tables.distance, s.enables⟩

/-- R197: STORE. -/
def storeSettings (s : State) : Answer :=
  if s.engine.isSome then refuse .busy s
  else accept .nothing { s with engine := some ⟨s.storedItems, s.now⟩ }

/-- R197: an item written, read back correctly or not. -/
def writtenItem {α : Type} (ok : Bool) (a : α) : StoreItem α := if ok then .stored a else .failing

/-- R197: the settings store after a write (log 4). -/
def writtenStore (i : StoredItems) (o : StoreOutcome) : SettingsStore where
  stations := writtenItem o.stations i.stations
  schedT := writtenItem o.schedT i.schedT
  schedS := writtenItem o.schedS i.schedS
  hill := writtenItem o.hill i.hill
  distance := writtenItem o.distance i.distance
  enables := writtenItem o.enables i.enables

/-- R197: every item was written and read back correctly. -/
def storePassed (o : StoreOutcome) : Bool :=
  o.stations && o.schedT && o.schedS && o.hill && o.distance && o.enables

/-- R197: the write of a store ends. -/
def State.completeStore (o : StoreOutcome) (s : State) : State :=
  match s.engine with
  | none => s
  | some job =>
    if (s.now - job.accepted).toNat ≤ Config.storeBound then
      State.setV .storeBad (!storePassed o)
        (State.raise .storeResult (if storePassed o then 0 else 1)
          { s with engine := none, store := writtenStore job.items o })
    else s

/-- STORE (R197). -/
def execStore (now : Time) (seq : Byte) (s : State) : Out := request now seq 0x04 storeSettings s

/-- STORE_COMPLETION (R197), within its bound (log 7). -/
def execStoreCompletion (now : Time) (outcome : StoreOutcome) (s : State) : Out := event now (State.completeStore outcome) s

/-! ### The store read (R198) -/

/-- R198: an item as read, its empty form when it fails its check or was never written. -/
def StoreItem.read {α : Type} (empty : α) : StoreItem α → α
  | .unwritten => empty
  | .failing => empty
  | .stored a => a

/-- R198: the check of an item matches. -/
def StoreItem.matched {α : Type} : StoreItem α → Bool
  | .unwritten => false
  | .failing => false
  | .stored _ => true

/-- R198: STORE_BAD after the read of a store. -/
def SettingsStore.bad (x : SettingsStore) : Bool :=
  !(x.stations.matched && x.schedT.matched && x.schedS.matched && x.hill.matched && x.distance.matched && x.enables.matched)

/-- R198: the tables after a reset. RESET(KEEP) in an open round keeps STATIONS, HILL and DISTANCE, and every RESET keeps
COMPETITORS (R42). -/
def State.tablesAfter (kind : ResetKind) (s : State) : Tables :=
  let held := decide (kind = .keep) && s.competition.isOpen
  { stations := if held then s.tables.stations else s.store.stations.read []
    schedT := s.store.schedT.read []
    schedS := s.store.schedS.read []
    hill := if held then s.tables.hill else s.store.hill.read .defaults
    distance := if held then s.tables.distance else s.store.distance.read []
    competitors := if kind = .powerOn then [] else s.tables.competitors }

/-! ### Resets (R199, R200, Table 12-5) -/

/-- R31, R49: a record was cleared before another; the clear time of the record created first is the value stored first. -/
def JumpRecord.clearedBefore (a b : JumpRecord) : Bool :=
  if a.serial < b.serial then laterThan b.clearTime a.clearTime else earlierThan a.clearTime b.clearTime

/-- A record placed among others by clear time, oldest first (R49): ahead of the first of them that it was cleared before. Of clear
times that R31 orders in a cycle none is the oldest; that the records are then placed in slot order is the model's choice
(log 32). -/
def insertByClear (r : JumpRecord) : List JumpRecord → List JumpRecord
  | [] => [r]
  | x :: rest => if r.clearedBefore x then r :: x :: rest else x :: insertByClear r rest

/-- R49: the bibs of all records, oldest clear time first. -/
def JumpTable.returning (t : JumpTable) : List Nat :=
  ((t.records.map (·.2)).foldl (fun l r => insertByClear r l) []).map (·.bib)

/-- R121, Table 7-3: STU after a reset. -/
def State.startUnitAfter (kind : ResetKind) (hill : HillTable) (s : State) : StartUnit :=
  match kind with
  | .keep =>
    { StartUnit.afterPowerOn s.stu.windGate with
      pendingReference := s.stu.pendingReference
      roundReference := s.stu.roundReference
      referenceFixed := s.stu.referenceFixed }
  | _ => .afterPowerOn hill.windGateAtPowerOn

/-- R13: every station ABSENT with both runs 0. -/
def freshLinks (stations : List StationEntry) : List Link := stations.map fun e => ⟨e.addr, .absent, 0, 0⟩

/-- Table 12-5: the part after a reset, its settings store read (R198) and the lamp derived (R119). The queue of waiting commands
is the model's own. -/
def State.afterReset (kind : ResetKind) (s : State) : State :=
  let tables := s.tablesAfter kind
  let keep := decide (kind = .keep)
  State.deriveLamp
    { pending := s.pending
      heldInReset := false
      ready := false
      lastReset := kind
      takenReset := none
      lineT := .fresh
      lineS := .fresh
      lineO := .fresh
      lsc := ⟨0, .fresh, .fresh, freshLinks tables.stations, .off⟩
      tables := tables
      hck := ⟨0, []⟩
      wnd := ⟨freshContexts tables.stations, none, freshMeans tables.stations⟩
      stu := s.startUnitAfter kind tables.hill
      flu := .idle
      jtb := .empty
      startList := if keep then s.jtb.returning ++ s.startList else []
      results := if keep then s.results else []
      competition := if keep then s.competition else .prepare
      dsp := .fresh
      conditions := .afterReset s.store.bad
      enables := if keep then s.enables else s.store.enables.read .all
      office := .empty
      snapshot := none
      loadBuffer := none
      engine := none
      store := s.store }

/-- R199: RESET. -/
def resetPart (kind : Byte) (s : State) : Answer :=
  match kind.toNat with
  | 1 => accept .nothing { s with takenReset := some ⟨false, false⟩ }
  | 2 => accept .nothing { s with takenReset := some ⟨true, false⟩ }
  | _ => refuse .badValue s

/-- R199: the taken reset takes effect once its reply has been sent and no store is in flight. -/
def State.takeReset (s : State) : State :=
  match s.takenReset, s.engine with
  | some x, none => if x.replySent then s.afterReset (if x.clear then .clear else .keep) else s
  | _, _ => s

/-- RESET (R199). -/
def execReset (now : Time) (seq kind : Byte) (s : State) : Out := request now seq 0x02 (resetPart kind) s

/-- RESET_EFFECT (R199). -/
def execResetEffect (now : Time) (s : State) : Out := event now State.takeReset s

/-- POWER_ON_RESET (R200): the release of the reset pin or of the supply monitor. -/
def execPowerOnReset (s : State) : Out := .next (s.afterReset .powerOn)

/-! ### The reset pin (R197, R200) -/

/-- R197: an item of a cut write, by its place in the order of writing: those before the cut stand as written, the one being
written fails or not, and the rest stand as before (log 4). -/
def cutItem {α : Type} (place itemsWritten : Nat) (midItem : Bool) (copy : α) (old : StoreItem α) : StoreItem α :=
  if place < itemsWritten then .stored copy
  else if place = itemsWritten ∧ midItem then .failing
  else old

/-- R197: the settings store after a cut write. -/
def cutStore (itemsWritten : Nat) (midItem : Bool) (i : StoredItems) (x : SettingsStore) : SettingsStore where
  stations := cutItem 0 itemsWritten midItem i.stations x.stations
  schedT := cutItem 1 itemsWritten midItem i.schedT x.schedT
  schedS := cutItem 2 itemsWritten midItem i.schedS x.schedS
  hill := cutItem 3 itemsWritten midItem i.hill x.hill
  distance := cutItem 4 itemsWritten midItem i.distance x.distance
  enables := cutItem 5 itemsWritten midItem i.enables x.enables

/-- R200: the part stops driving its ports, and a store write in flight is cut. -/
def State.pinLow (itemsWritten : Nat) (midItem : Bool) (s : State) : State :=
  { s with
    heldInReset := true
    lineT := { s.lineT with shifter := none, ahead := .idle }
    lineS := { s.lineS with shifter := none, ahead := .idle }
    lineO := { s.lineO with shifter := none, ahead := .idle }
    engine := none
    store := match s.engine with
      | none => s.store
      | some job => cutStore itemsWritten midItem job.items s.store }

/-- RESET_PIN_DRIVEN_LOW (R200). -/
def execResetPinDrivenLow (itemsWritten : Fin 7) (midItem : Bool) (s : State) : Out :=
  .next (s.pinLow itemsWritten.val midItem)

/-! ### READY (R178, R190) -/

/-- The argument of RESTARTED (Table 11-4). -/
def ResetKind.code : ResetKind → Nat
  | .powerOn => 0
  | .keep => 1
  | .clear => 2

/-- R178: I = 1 for each state condition whose V is 1. -/
def State.indicateStates (s : State) : State :=
  CondName.all.foldl (fun s c =>
    if c.isState && (s.conditions.get c).v then s.setCondition c { s.conditions.get c with i := true } else s) s

/-- R178: the CONDITION report of each condition whose I is 1, in number order. -/
def State.offerIndicated (s : State) : State :=
  CondName.all.foldl (fun s c => if (s.conditions.get c).i then s.offerCondition c else s) s

/-- R178, R190: the part becomes READY. -/
def State.becomeReady (s : State) : State :=
  if !s.ready && decide (s.now.toNat ≤ Config.readyBound) then
    let s' := (s.raise .restarted s.lastReset.code).indicateStates
    State.offerIndicated { s' with ready := true }
  else s

/-- READY (R190), within its bound (log 7). -/
def execReady (now : Time) (s : State) : Out := event now State.becomeReady s

end Sys2Proof.Machine
end

