-- ==== Sys2Proof/Machine/Dispatch.lean ====
section
/-! DEFINITION. Which meaning each command has: one arm for each row of spec/opcode_table.json. -/

namespace Sys2Proof.Machine

def exec (i : Instr) (s : State) : Host.Outcome State Fault Refusal :=
  match i with
  | .identify now seq => Sys2Proof.Machine.execIdentify now seq s
  | .reset now seq kind => Sys2Proof.Machine.execReset now seq kind s
  | .resetEffect now => Sys2Proof.Machine.execResetEffect now s
  | .powerOnReset => Sys2Proof.Machine.execPowerOnReset s
  | .ready now => Sys2Proof.Machine.execReady now s
  | .restart now seq port => Sys2Proof.Machine.execRestart now seq port s
  | .restartSilenceEnd now seg => Sys2Proof.Machine.execRestartSilenceEnd now seg s
  | .store now seq => Sys2Proof.Machine.execStore now seq s
  | .storeCompletion now outcome => Sys2Proof.Machine.execStoreCompletion now outcome s
  | .loadBegin now seq table length => Sys2Proof.Machine.execLoadBegin now seq table length s
  | .loadData now seq offset data => Sys2Proof.Machine.execLoadData now seq offset data s
  | .loadEnd now seq => Sys2Proof.Machine.execLoadEnd now seq s
  | .readTable now seq table offset => Sys2Proof.Machine.execReadTable now seq table offset s
  | .readCounters now seq port => Sys2Proof.Machine.execReadCounters now seq port s
  | .readStation now seq address clear => Sys2Proof.Machine.execReadStation now seq address clear s
  | .readConditions now seq => Sys2Proof.Machine.execReadConditions now seq s
  | .setReportEnables now seq conditions kinds => Sys2Proof.Machine.execSetReportEnables now seq conditions kinds s
  | .snapshot now seq => Sys2Proof.Machine.execSnapshot now seq s
  | .snapshotPart now seq part => Sys2Proof.Machine.execSnapshotPart now seq part s
  | .roundOpen now seq round => Sys2Proof.Machine.execRoundOpen now seq round s
  | .roundClose now seq => Sys2Proof.Machine.execRoundClose now seq s
  | .resultsClear now seq => Sys2Proof.Machine.execResultsClear now seq s
  | .listInsert now seq bib position => Sys2Proof.Machine.execListInsert now seq bib position s
  | .listRemove now seq bib => Sys2Proof.Machine.execListRemove now seq bib s
  | .listMove now seq bib position => Sys2Proof.Machine.execListMove now seq bib position s
  | .listRead now seq index => Sys2Proof.Machine.execListRead now seq index s
  | .resultsRead now seq index detail => Sys2Proof.Machine.execResultsRead now seq index detail s
  | .clear now seq => Sys2Proof.Machine.execClear now seq s
  | .hold now seq => Sys2Proof.Machine.execHold now seq s
  | .windGate now seq on => Sys2Proof.Machine.execWindGate now seq on s
  | .setReferenceGate now seq gate => Sys2Proof.Machine.execSetReferenceGate now seq gate s
  | .enterDistance now seq bib distance => Sys2Proof.Machine.execEnterDistance now seq bib distance s
  | .enterMark now seq bib seat mark => Sys2Proof.Machine.execEnterMark now seq bib seat mark s
  | .annul now seq bib => Sys2Proof.Machine.execAnnul now seq bib s
  | .disqualify now seq bib => Sys2Proof.Machine.execDisqualify now seq bib s
  | .reinstate now seq bib => Sys2Proof.Machine.execReinstate now seq bib s
  | .readJump now seq slot part => Sys2Proof.Machine.execReadJump now seq slot part s
  | .unknownRequest now seq code args => Sys2Proof.Machine.execUnknownRequest now seq code args s
  | .officePass now seq destination payload => Sys2Proof.Machine.execOfficePass now seq destination payload s
  | .frameDiscarded now port line => Sys2Proof.Machine.execFrameDiscarded now port line s
  | .abortReceived now port => Sys2Proof.Machine.execAbortReceived now port s
  | .cycleStart now => Sys2Proof.Machine.execCycleStart now s
  | .slotOpen now seg => Sys2Proof.Machine.execSlotOpen now seg s
  | .replyWindowOpen now seg => Sys2Proof.Machine.execReplyWindowOpen now seg s
  | .replyWindowClose now seg => Sys2Proof.Machine.execReplyWindowClose now seg s
  | .slotBudgetEnd now seg => Sys2Proof.Machine.execSlotBudgetEnd now seg s
  | .windFrame now seg source seq payload => Sys2Proof.Machine.execWindFrame now seg source seq payload s
  | .gateFrame now seg source seq payload => Sys2Proof.Machine.execGateFrame now seg source seq payload s
  | .edgeFrame now seg source seq payload => Sys2Proof.Machine.execEdgeFrame now seg source seq payload s
  | .coachFrame now seg source seq payload => Sys2Proof.Machine.execCoachFrame now seg source seq payload s
  | .styleFrame now seg source seq payload => Sys2Proof.Machine.execStyleFrame now seg source seq payload s
  | .distFrame now seg source seq payload => Sys2Proof.Machine.execDistFrame now seg source seq payload s
  | .lampstatFrame now seg source seq payload => Sys2Proof.Machine.execLampstatFrame now seg source seq payload s
  | .stationPassFrame now seg source seq payload => Sys2Proof.Machine.execStationPassFrame now seg source seq payload s
  | .noneFrame now seg source seq payload => Sys2Proof.Machine.execNoneFrame now seg source seq payload s
  | .windWaitExpiry now => Sys2Proof.Machine.execWindWaitExpiry now s
  | .greenFlashExpiry now => Sys2Proof.Machine.execGreenFlashExpiry now s
  | .greenExpiry now => Sys2Proof.Machine.execGreenExpiry now s
  | .countdownSecondExpiry now => Sys2Proof.Machine.execCountdownSecondExpiry now s
  | .inRunExpiry now => Sys2Proof.Machine.execInRunExpiry now s
  | .flightExpiry now => Sys2Proof.Machine.execFlightExpiry now s
  | .landingSettle now => Sys2Proof.Machine.execLandingSettle now s
  | .windClose now slot => Sys2Proof.Machine.execWindClose now slot s
  | .confirmExpiry now slot => Sys2Proof.Machine.execConfirmExpiry now slot s
  | .marksWindowExpiry now slot => Sys2Proof.Machine.execMarksWindowExpiry now slot s
  | .officeFrameSent now => Sys2Proof.Machine.execOfficeFrameSent now s
  | .resetPinDrivenLow itemsWritten midItem => Sys2Proof.Machine.execResetPinDrivenLow itemsWritten midItem s
  | .frameBegun now seg => Sys2Proof.Machine.execFrameBegun now seg s
  | .stationFrameNotAdmitted now seg source kind seq payload => Sys2Proof.Machine.execStationFrameNotAdmitted now seg source kind seq payload s

end Sys2Proof.Machine
end

