-- ==== Sys2Proof/Certificates/Slice0/Obligations.lean ====
section
/-! DEFINITION. The statements for the provers, each a proposition about the model, and the few terms they share. -/

namespace Sys2Proof.Claims

open Sys2Proof.Machine

/-! ### Requests and replies -/

/-- A request is executed or refused with a reply: the part is not held in reset, no RESET waits, and the office queue has a
place (R183, R199). -/
def Takes (s : State) : Prop := s.heldInReset = false ∧ s.takenReset = none ∧ s.office.count < 64

/-- A request is judged by its own rule: it is taken, and the part is READY (R189). -/
def Listens (s : State) : Prop := Takes s ∧ s.ready = true

/-- `u` at the hill time of a request, its reply at the end of the waiting replies, and OLU then free to start a frame (R183,
R184). -/
def replied (now : Time) (seq code : Byte) (status : Status) (results : Results) (u : State) : State :=
  State.pumpOffice
    { u with
      hck := { u.hck with time := now }
      office := { u.office with replies := u.office.replies ++ [⟨seq, code, status, results⟩], place := false } }

/-- A list of refusals in the order of their rule, and the status of the first that applies; none when none applies. -/
def FirstOf : List (Prop × Status) → Option Status → Prop
  | [], o => o = none
  | (p, status) :: rest, o => (p ∧ o = some status) ∨ (¬p ∧ FirstOf rest o)

/-- A refusal changes nothing but hill time, and its reply carries the status and no results (R189). -/
def refused (now : Time) (seq code : Byte) (status : Status) (s : State) : Out :=
  .next (replied now seq code status .nothing s)

/-- What a request answers that offers no report: the first refusal that applies, or OK with its results and its state. -/
def answered (now : Time) (seq code : Byte) (o : Option Status) (results : Results) (s t : State) : Out :=
  match o with
  | some status => refused now seq code status s
  | none => .next (replied now seq code .ok results t)

/-- A reply waits in the office queue or is being sent. -/
def Answered (t : State) (seq code : Byte) (results : Results) : Prop :=
  (⟨seq, code, .ok, results⟩ : Reply) ∈ t.office.replies ∨ t.office.sending = some (.reply ⟨seq, code, .ok, results⟩)

/-- A report waits in the office queue or is being sent. -/
def Reported (t : State) (r : Report) : Prop := r ∈ t.office.reports ∨ t.office.sending = some (.report r)

/-- `t` is `u` but for what the offering of reports and mirrors changes: the office queue, port O's transmitter, REPORT_LOST. -/
def ButReports (u t : State) : Prop :=
  t = { u with
    office := t.office
    lineO := { u.lineO with txSeq := t.lineO.txSeq, shifter := t.lineO.shifter, ahead := t.lineO.ahead }
    conditions := { u.conditions with reportLost := t.conditions.reportLost } }

/-- `t` is `u` but for what reports, pages and the state of JUMP_HELD change. -/
def ButShown (u t : State) : Prop :=
  t = { u with
    office := t.office
    lineO := { u.lineO with txSeq := t.lineO.txSeq, shifter := t.lineO.shifter, ahead := t.lineO.ahead }
    conditions := { u.conditions with reportLost := t.conditions.reportLost, jumpHeld := t.conditions.jumpHeld }
    dsp := t.dsp
    lsc := { u.lsc with segS := { u.lsc.segS with queue := t.lsc.segS.queue } } }

/-- The hill time, sequence number and code of a request whose form is right (Table 2-17, R188). -/
def requestOf : Instr → Option (Time × Byte × Byte)
  | .identify now seq => some (now, seq, 0x01)
  | .reset now seq _ => some (now, seq, 0x02)
  | .restart now seq _ => some (now, seq, 0x03)
  | .store now seq => some (now, seq, 0x04)
  | .loadBegin now seq _ _ => some (now, seq, 0x05)
  | .loadData now seq _ data => if 1 ≤ data.length ∧ data.length ≤ 117 then some (now, seq, 0x06) else none
  | .loadEnd now seq => some (now, seq, 0x07)
  | .readTable now seq _ _ => some (now, seq, 0x08)
  | .readCounters now seq _ => some (now, seq, 0x10)
  | .readStation now seq _ _ => some (now, seq, 0x11)
  | .readConditions now seq => some (now, seq, 0x12)
  | .setReportEnables now seq _ _ => some (now, seq, 0x13)
  | .snapshot now seq => some (now, seq, 0x14)
  | .snapshotPart now seq _ => some (now, seq, 0x15)
  | .roundOpen now seq _ => some (now, seq, 0x20)
  | .roundClose now seq => some (now, seq, 0x21)
  | .resultsClear now seq => some (now, seq, 0x22)
  | .listInsert now seq _ _ => some (now, seq, 0x23)
  | .listRemove now seq _ => some (now, seq, 0x24)
  | .listMove now seq _ _ => some (now, seq, 0x25)
  | .listRead now seq _ => some (now, seq, 0x26)
  | .resultsRead now seq _ _ => some (now, seq, 0x27)
  | .clear now seq => some (now, seq, 0x30)
  | .hold now seq => some (now, seq, 0x31)
  | .windGate now seq _ => some (now, seq, 0x32)
  | .setReferenceGate now seq _ => some (now, seq, 0x33)
  | .enterDistance now seq _ _ => some (now, seq, 0x34)
  | .enterMark now seq _ _ _ => some (now, seq, 0x35)
  | .annul now seq _ => some (now, seq, 0x36)
  | .disqualify now seq _ => some (now, seq, 0x37)
  | .reinstate now seq _ => some (now, seq, 0x38)
  | .readJump now seq _ _ => some (now, seq, 0x39)
  | _ => none

/-- The least and most argument bytes of each request code (Table 2-17, the sizes of R188); none for a code that is not in the
table. -/
def argumentBytes : Nat → Option (Nat × Nat)
  | 0x01 => some (0, 0)
  | 0x02 => some (1, 1)
  | 0x03 => some (1, 1)
  | 0x04 => some (0, 0)
  | 0x05 => some (3, 3)
  | 0x06 => some (3, 119)
  | 0x07 => some (0, 0)
  | 0x08 => some (3, 3)
  | 0x10 => some (1, 1)
  | 0x11 => some (2, 2)
  | 0x12 => some (0, 0)
  | 0x13 => some (3, 3)
  | 0x14 => some (0, 0)
  | 0x15 => some (1, 1)
  | 0x20 => some (1, 1)
  | 0x21 => some (0, 0)
  | 0x22 => some (0, 0)
  | 0x23 => some (4, 4)
  | 0x24 => some (2, 2)
  | 0x25 => some (4, 4)
  | 0x26 => some (2, 2)
  | 0x27 => some (3, 3)
  | 0x30 => some (0, 0)
  | 0x31 => some (0, 0)
  | 0x32 => some (1, 1)
  | 0x33 => some (1, 1)
  | 0x34 => some (4, 4)
  | 0x35 => some (4, 4)
  | 0x36 => some (2, 2)
  | 0x37 => some (2, 2)
  | 0x38 => some (2, 2)
  | 0x39 => some (2, 2)
  | _ => none

/-- A request whose code is not in Table 2-17 or whose argument bytes do not fit it, with its hill time, sequence number and code
(R188). -/
def Malformed (c : Instr) (now : Time) (seq code : Byte) : Prop :=
  (∃ args, c = .unknownRequest now seq code args ∧
    ∀ least most, argumentBytes code.toNat = some (least, most) → ¬(least ≤ args.length ∧ args.length ≤ most)) ∨
  ∃ offset data, c = .loadData now seq offset data ∧ code = 0x06 ∧ ¬(1 ≤ data.length ∧ data.length ≤ 117)

/-- A cycle start is due at a hill time (R32). -/
def CycleDue (s : State) (t : Time) : Prop := s.ready = true ∧ t.toNat % 1000 = 0 ∧ t ≠ 0

/-- A command is due at a hill time: its expiry is armed for it, or it is tested at the cycle start that falls there (R32, R39,
R41, Table 3-2). -/
def Due (s : State) (t : Time) : Instr → Prop
  | .cycleStart x => x = t ∧ CycleDue s t
  | .landingSettle x => x = t ∧ CycleDue s t
  | .flightExpiry x => x = t ∧ CycleDue s t
  | .windClose x _ => x = t ∧ CycleDue s t
  | .replyWindowClose x seg => x = t ∧ ∃ slot, (s.seg seg).slot = some slot ∧ slot.windowClose = some t
  | .slotBudgetEnd x seg => x = t ∧ ∃ slot, (s.seg seg).slot = some slot ∧ slot.budgetEnd = t
  | .restartSilenceEnd x seg => x = t ∧ (s.seg seg).silentUntil = some t
  | .windWaitExpiry x => x = t ∧ s.stu.windWait = some t
  | .greenFlashExpiry x => x = t ∧ s.stu.greenFlash = some t
  | .greenExpiry x => x = t ∧ s.stu.greenExpiry = some t
  | .countdownSecondExpiry x => x = t ∧ s.dsp.countdownExpiry = some t
  | .inRunExpiry x => x = t ∧ s.flu.inRunExpiry = some t
  | .confirmExpiry x k => x = t ∧ ∃ r, s.jtb.get k = some r ∧ r.confirmExpiry = some t
  | .marksWindowExpiry x k => x = t ∧ ∃ r, s.jtb.get k = some r ∧ r.marksExpiry = some t
  | _ => False

/-! ### The competition -/

/-- A round is open (R50). -/
def RoundOpen (s : State) : Prop := s.competition = .r1Open ∨ s.competition = .r2Open

/-- At most one record is in CLEARED, GREEN, LATE, IN_RUN, FLIGHT or LANDING (R64). -/
def OneActive (t : JumpTable) : Prop :=
  ∀ j k a b, t.get j = some a → t.get k = some b → a.state.active = true → b.state.active = true → j = k

/-- Records exist only in an open round (R60). -/
def RecordsInRound (s : State) : Prop := ∀ k r, s.jtb.get k = some r → RoundOpen s

/-- The lamp law of R119, for the commanded lamp and for LSC's lamp command slot. -/
def LampLaw (s : State) : Prop :=
  s.lsc.lampSlot = s.stu.lamp ∧
    (s.stu.lamp = .yellow ↔ ∃ k r, s.jtb.get k = some r ∧ r.state = .cleared) ∧
    ((s.stu.lamp = .green ∨ s.stu.lamp = .greenFlash) ↔ ∃ k r, s.jtb.get k = some r ∧ r.state = .green) ∧
    (s.stu.lamp = .off ↔ ¬RoundOpen s)

/-- The bibs of the records. -/
def recordBibs (s : State) : List Nat := s.jtb.records.map fun x => x.2.bib

/-- No bib twice among the start list and the records, and none twice in the results list (R44, R57, R60, R167). -/
def BibLaw (s : State) : Prop := (s.startList ++ recordBibs s).Nodup ∧ (s.results.map (·.bib)).Nodup

/-- `a` stands before `b` in the ranking order, as R167 words it. -/
def StandsBefore (a b : ResultEntry) : Prop :=
  (a.status = .ok ∧ b.status = .dsq) ∨
    (a.status = .dsq ∧ b.status = .dsq ∧ a.bib < b.bib) ∨
    (a.status = .ok ∧ b.status = .ok ∧
      (b.rounds < a.rounds ∨ (a.rounds = b.rounds ∧ (b.total < a.total ∨ (a.total = b.total ∧ a.bib < b.bib)))))

/-- The results list in the ranking order and without a bib twice (R167). -/
def ResultsOrdered (s : State) : Prop := s.results.Pairwise StandsBefore ∧ (s.results.map (·.bib)).Nodup

/-- The rank of an entry among others, as R168 words it. -/
def rankAmong (l : List ResultEntry) (e : ResultEntry) : Option Nat :=
  if e.status = .ok then
    some (1 + (l.filter fun x => decide (x.status = .ok ∧
      (e.rounds < x.rounds ∨ (x.rounds = e.rounds ∧ e.total < x.total)))).length)
  else none

/-- The station of a kind stands in the active STATIONS table and is PRESENT. -/
def StationPresent (s : State) (kind : StationKind) : Prop :=
  ∃ e l, stationOfKind s.tables.stations kind = some e ∧ linkAt s.lsc.links e.addr = some l ∧ l.presence = .present

/-- STU with its three start expiries disarmed and the flash phase ended (R66). -/
def barLeft (u : StartUnit) : StartUnit :=
  { u with windWait := none, greenFlash := none, greenExpiry := none, flashing := false }

/-- STU with the round reference gate fixed, as R106 gives it. -/
def referenceSet (u : StartUnit) : StartUnit :=
  { u with
    roundReference :=
      if u.referenceFixed then u.roundReference else if u.pendingReference = none then u.gate else u.pendingReference
    pendingReference := if u.referenceFixed then u.pendingReference else none
    referenceFixed := true }

/-- STU after the GREEN entry of a record, as R106, R112 and R113 give it. -/
def wentGreen (h : HillTable) (now : Time) (u : StartUnit) : StartUnit :=
  { referenceSet u with
    windWait := none
    greenExpiry := some (after now (h.startTime * 10000))
    greenFlash :=
      if 0 < h.flashTime ∧ h.flashTime < h.startTime then some (after now ((h.startTime - h.flashTime) * 10000)) else none
    flashing := decide (h.flashTime = h.startTime)
    lamp := if h.flashTime = h.startTime then .greenFlash else .green }

/-- A record after its GREEN entry (R112). -/
def greenRecord (h : HillTable) (now : Time) (gate : Option Nat) (r : JumpRecord) : JumpRecord :=
  { r with
    state := .green
    needs := .none
    greenTime := some now
    gate := gate
    greenExpiryTime := some (after now (h.startTime * 10000))
    confirmExpiry := none }

/-- What `t` holds when the record `r` of slot `k` in `s` has entered GREEN at a hill time. -/
def EnteredGreen (now : Time) (k : Fin 4) (r : JumpRecord) (s t : State) : Prop :=
  ButShown
    { s with
      hck := { s.hck with time := now }
      jtb := s.jtb.set k (some (greenRecord s.tables.hill now s.stu.gate r))
      stu := wentGreen s.tables.hill now s.stu
      lsc := { s.lsc with lampSlot := if s.tables.hill.flashTime = s.tables.hill.startTime then .greenFlash else .green } } t ∧
    t.dsp.countdownExpiry = (if 1 < s.tables.hill.startTime then some (after now 10000) else none) ∧
    t.dsp.countdownSeconds = s.tables.hill.startTime ∧ t.dsp.countdownLamp = t.stu.lamp

/-- What `t` holds when the record `r` of slot `k` in `s` has been freed without a result and its bib has returned to the head
of the start list (R49, R66, R174). -/
def Withdrawn (now : Time) (k : Fin 4) (r : JumpRecord) (s t : State) : Prop :=
  ButShown
    { s with
      hck := { s.hck with time := now }
      jtb := s.jtb.set k none
      startList := r.bib :: s.startList
      stu := { (if r.state.onBar then barLeft s.stu else s.stu) with lamp := t.stu.lamp }
      lsc := { s.lsc with lampSlot := t.stu.lamp }
      flu := if r.state.onCourse then .idle else s.flu } t ∧
    (∀ c, t.dsp.current = some c → c.bib ≠ r.bib) ∧
    (r.state.onBar = true →
      t.stu.lamp = .red ∧ t.dsp.countdownExpiry = none ∧ t.dsp.countdownSeconds = 0 ∧ t.dsp.countdownLamp = .red)

/-- The refusals of CLEAR (Table 7-1). -/
def clearRefusals (s : State) : List (Prop × Status) :=
  [(¬RoundOpen s, .wrongState),
    (s.startList = [], .notFound),
    (∃ k r, s.jtb.get k = some r ∧
      (r.state = .cleared ∨ r.state = .green ∨ r.state = .late ∨ r.state = .inRun ∨ r.state = .flight ∨ r.state = .landing),
      .wrongState),
    (∀ k, s.jtb.get k ≠ none, .full),
    (¬StationPresent s .light, .notReady),
    (s.stu.gate = none, .notReady)]

/-- The record that CLEAR creates (R61, R104); its serial is the model's own (R31; log 32). -/
def clearedRecord (s : State) (now : Time) (bib : Nat) : JumpRecord where
  serial := s.jtb.nextSerial
  bib := bib
  round := if s.competition = .r1Open then 1 else 2
  state := .cleared
  needs := ⟨false, false⟩
  clearTime := now
  greenTime := none
  greenExpiryTime := none
  gate := none
  coachRequest := decide (s.stu.coachRequest = some bib)
  juryGate := if s.stu.coachRequest = some bib then s.stu.gate else none
  gateLeftTime := none
  cellATime := none
  cellBTime := none
  speed := none
  takeoffTime := none
  landingTime := none
  landingSource := .none
  preliminary := none
  finalDistance := none
  distanceSource := none
  windCloseDone := false
  windMeans := []
  windValue := none
  marks := ⟨none, none, none, none, none⟩
  marksLocked := false
  marksOverdue := false
  flags := ⟨false, false, false, false, false, false, false⟩
  confirmExpiry := none
  marksExpiry := none

/-- A record that has stored a converted time gets TIME_ESTIMATED from an estimated one (R37). -/
def noted (e : EdgeTime) (r : JumpRecord) : JumpRecord :=
  { r with flags := { r.flags with timeEstimated := r.flags.timeEstimated || e.estimated } }

/-- The speed of two cell times in 0.1 km/h, the quotient rounded to the nearest; none above 1500 (R128). -/
def speedBetween (h : HillTable) (a b : Time) : Option Nat :=
  let dt := (b - a).toNat
  let v := (2 * (h.cellSpacing * 3600) + dt) / (2 * dt)
  if 1500 < v then none else some v

/-- A record in a state that is not HELD and not MEASURING. -/
def entered (x : RecState) (r : JumpRecord) : JumpRecord := { r with state := x, needs := .none, confirmExpiry := none }

/-- A record in HELD with the needs set R68 derives. -/
def held (r : JumpRecord) : JumpRecord :=
  { r with state := .held, needs := ⟨decide (r.finalDistance = none), r.marksOverdue && !r.marksLocked⟩, confirmExpiry := none }

/-- Every slot but one holds what it held. -/
def OthersKept (k : Fin 4) (s t : State) : Prop := ∀ j, j ≠ k → t.jtb.get j = s.jtb.get j

/-! ### The pages -/

/-- The COMPETITORS entry of a bib (R42). -/
def competitorIn (names : List Competitor) (bib : Nat) : Option Competitor := names.find? fun c => decide (c.bib = bib)

/-- The LEADERS rows of a results list: its first eight OK entries in list order, each with its rank, bib, name cut to seven
characters and competition total (R175). -/
def leadersOf (names : List Competitor) (results : List ResultEntry) : List LeaderRow :=
  ((results.filter fun e => decide (e.status = .ok)).take 8).map fun e =>
    { rank := (rankAmong results e).getD 0
      bib := e.bib
      name := (((competitorIn names e.bib).map (·.name)).getD []).take 7
      total := e.total }

/-- The CURRENT image of a result entry: the jump from its last jump detail, and for an OK entry the points, the competition total
and the rank (R174). -/
def entryPage (names : List Competitor) (results : List ResultEntry) (e : ResultEntry) : CurrentImage where
  round := e.detail.map (·.round)
  bib := e.bib
  name := ((competitorIn names e.bib).map (·.name)).getD []
  team := ((competitorIn names e.bib).map (·.team)).getD []
  gate := e.detail.bind (·.gate)
  speed := e.detail.bind (·.speed)
  distance := e.detail.map (·.distance)
  marker := if e.detail = none then .none else .final
  status := some e.status
  windComp := if e.status = .ok then (e.detail.bind (·.points)).map (·.windComp) else none
  gateComp := if e.status = .ok then (e.detail.bind (·.points)).map (·.gateComp) else none
  roundTotal := if e.status = .ok then (e.detail.bind (·.points)).map (·.roundTotal) else none
  competitionTotal := if e.status = .ok then some e.total else none
  rank := rankAmong results e

/-- The CURRENT image of a jump record as it stands, with its latched gate, or before that the debounced gate (R173). -/
def recordPage (names : List Competitor) (gate : Option Nat) (r : JumpRecord) : CurrentImage where
  round := some r.round
  bib := r.bib
  name := ((competitorIn names r.bib).map (·.name)).getD []
  team := ((competitorIn names r.bib).map (·.team)).getD []
  gate := if r.gate = none then gate else r.gate
  speed := r.speed
  distance := if r.finalDistance = none then r.preliminary else r.finalDistance
  marker := if r.finalDistance ≠ none then .final else if r.preliminary ≠ none then .preliminary else .none
  status := none
  windComp := none
  gateComp := none
  roundTotal := none
  competitionTotal := none
  rank := none

/-- A page mask holds a page kind (R14). -/
def maskHolds (m : PageMask) : PageKind → Bool
  | .current => m.current
  | .leaders => m.leaders
  | .countdown => m.countdown

/-- The boards of a STATIONS table whose page mask holds a kind, in table order (R172). -/
def boardsOf (stations : List StationEntry) (kind : PageKind) : List Nat :=
  (stations.filter fun e =>
    match e.role with
    | .board m => maskHolds m kind
    | _ => false).map (·.addr)

/-- The slope queue once a page of a kind has been sent: one PAGE frame, built from the image, for each board whose mask holds the
kind, coalescing, joining or dropped (R23, R172). -/
def pageShown (d : Display) (stations : List StationEntry) (kind : PageKind) (q : List QueuedFrame) : List QueuedFrame :=
  (boardsOf stations kind).foldl (fun q b => queuePage b kind (pagePayload d kind) q) q

/-- The result of a record is DSQ (R160). -/
def ScoresDsq (r : JumpRecord) : Prop := (r.flags.early = true ∨ r.flags.late = true) ∧ r.flags.reinstated = false

/-- The record `r` of slot `k` has gone: its slot is free, and its bib has a result entry at DSQ or with the points of its round,
as its final distance, its wind value, its marks and the round reference gate give them; the CURRENT image shows the entry and the
LEADERS image the list (R159, R160, R165, R166, R174, R175). -/
def Scored (k : Fin 4) (r : JumpRecord) (s t : State) : Prop :=
  t.jtb.get k = none ∧ t.dsp.leaders = leadersOf s.tables.competitors t.results ∧
    ∃ e, entryOf t.results r.bib = some e ∧ t.dsp.current = some (entryPage s.tables.competitors t.results e) ∧
      (ScoresDsq r → e.status = .dsq ∧ t.startList = s.startList.erase r.bib) ∧
      (¬ScoresDsq r → t.startList = s.startList ∧
        ∃ d p, e.detail = some d ∧ d.round = r.round ∧ d.points = some p ∧ p.roundTotal ≤ 30000 ∧
          (if r.round = 1 then e.round1 else e.round2) = some p.roundTotal) ∧
      ∀ d g old p, r.finalDistance = some d → s.stu.roundReference = some g →
        old = (entryOf s.results r.bib).getD ⟨r.bib, none, none, .ok, none⟩ → p = pointsOf s.tables.hill g r d →
        (ScoresDsq r → e = { old with status := .dsq, detail := some ⟨r.round, d, r.speed, r.gate, none⟩ }) ∧
          (¬ScoresDsq r → e = { old with
            round1 := if r.round = 1 then some p.roundTotal else old.round1
            round2 := if r.round = 1 then old.round2 else some p.roundTotal
            detail := some ⟨r.round, d, r.speed, r.gate, some p⟩ })

/-- What an event on the record of a slot may change elsewhere: the records, the lists a scoring changes, the derived lamp, and
what is reported and shown. -/
def OnRecord (now : Time) (k : Fin 4) (s t : State) : Prop :=
  ButShown
    { s with
      hck := { s.hck with time := now }
      jtb := t.jtb
      results := t.results
      startList := t.startList
      stu := { s.stu with lamp := t.stu.lamp }
      lsc := { s.lsc with lampSlot := t.lsc.lampSlot } } t ∧
    OthersKept k s t

/-- A record with its wind value formed at a final distance, or NO_WIND set when no station is included (R147). -/
def withWind (stations : List StationEntry) (d : Nat) (r : JumpRecord) : JumpRecord :=
  match windValueOf (included stations r.windMeans d) with
  | some w => { r with windValue := some w }
  | none => { r with flags := { r.flags with noWind := true } }

/-- What the completion step makes of `w`, the record of slot `k` with its wind value formed: scored with its marks locked, held
for them when they are overdue, otherwise in MARKING (R70, R148, R149). -/
def Completed (k : Fin 4) (w : JumpRecord) (s t : State) : Prop :=
  (w.marksLocked = true → Scored k w s t) ∧
    (w.marksLocked = false →
      t.results = s.results ∧ t.startList = s.startList ∧
        t.jtb = s.jtb.set k (some (if w.marksOverdue = true then held w else entered .marking w)))

/-- What `t` holds when the record `r` of slot `k` in `s` has taken a final distance: with wind close done its wind value is
formed and it is complete (R137, R147, R148, R149, R70). -/
def TookDistance (now : Time) (k : Fin 4) (r : JumpRecord) (d : Nat) (source : DistSource) (s t : State) : Prop :=
  OnRecord now k s t ∧
    (r.state = .measuring → r.windCloseDone = false →
      t.jtb = s.jtb.set k (some { r with finalDistance := some d, distanceSource := some source, confirmExpiry := none }) ∧
        t.results = s.results ∧ t.startList = s.startList ∧
        t.dsp.current = some (recordPage s.tables.competitors s.stu.gate { r with finalDistance := some d })) ∧
    (r.windCloseDone = true →
      Completed k
        (withWind s.tables.stations d
          { r with finalDistance := some d, distanceSource := some source, confirmExpiry := none }) s t ∧
      (r.marksLocked = false →
        t.dsp.current = some (recordPage s.tables.competitors s.stu.gate { r with finalDistance := some d })))

/-- The wind means list over a wind window: an item for each context whose station has a weight and an entry with a value in
the window (R143, R145). -/
def WindMeansOver (s : State) (first last : Time) (means : List WindMean) : Prop :=
  (means.map (·.index)).Sublist (s.wnd.contexts.map (·.index)) ∧
    ∀ m, m ∈ means ↔
      ∃ c w, c ∈ s.wnd.contexts ∧ windPlaceOf s.tables.stations c.index = some w ∧ w.weight ≠ 0 ∧
        (c.ring.filter fun e => inWindow e.time first last).filterMap (·.value) ≠ [] ∧
        m = ⟨c.index,
          roundDiv ((c.ring.filter fun e => inWindow e.time first last).filterMap (·.value)).sum
            ((c.ring.filter fun e => inWindow e.time first last).filterMap (·.value)).length,
          ((c.ring.filter fun e => inWindow e.time first last).filterMap (·.value)).length⟩

/-- A record whose marks window is armed from its start, or is overdue at once when it has already passed (R157, R39). -/
def marksArmed (h : HillTable) (now start : Time) (r : JumpRecord) : JumpRecord :=
  if r.marksLocked = true then r
  else if laterThan (after start (h.marksWindow * 10000)) now = true then
    { r with marksExpiry := some (after start (h.marksWindow * 10000)) }
  else { r with marksOverdue := true, marksExpiry := none }

/-- The record `x` that `r` becomes at a MEASURING entry, before its confirm window: the marks window armed from its start, and
the wind close taken when its deadline has been reached (R134, R135, R144, R145, R157). -/
def AtMeasuring (now first last start : Time) (s : State) (r x : JumpRecord) : Prop :=
  x = { marksArmed s.tables.hill now start r with
      state := .measuring
      needs := .none
      windCloseDone := atOrAfter now (after last 1000)
      windMeans := x.windMeans } ∧
    (atOrAfter now (after last 1000) = true → WindMeansOver s first last x.windMeans) ∧
    (atOrAfter now (after last 1000) = false → x.windMeans = r.windMeans)

/-- What `t` holds when `x` has entered MEASURING in slot `k`: the confirm expiry armed, or with confirm window 0 the preliminary
distance final at once, or without one the record held (R136). -/
def EnteredMeasuring (now : Time) (k : Fin 4) (x : JumpRecord) (s t : State) : Prop :=
  (1 ≤ s.tables.hill.confirmWindow →
    ButShown
      { s with
        hck := { s.hck with time := now }
        jtb := s.jtb.set k (some { x with confirmExpiry := some (after now (s.tables.hill.confirmWindow * 10000)) })
        flu := ⟨[], none, none, 0, 0⟩
        stu := { s.stu with lamp := .red }
        lsc := { s.lsc with lampSlot := .red } } t) ∧
    (∀ d, s.tables.hill.confirmWindow = 0 → x.preliminary = some d →
      TookDistance now k x d .array { s with jtb := s.jtb.set k (some x), flu := ⟨[], none, none, 0, 0⟩ } t) ∧
    (s.tables.hill.confirmWindow = 0 → x.preliminary = none →
      ButShown
        { s with
          hck := { s.hck with time := now }
          jtb := s.jtb.set k (some (held x))
          flu := ⟨[], none, none, 0, 0⟩
          stu := { s.stu with lamp := .red }
          lsc := { s.lsc with lampSlot := .red } } t ∧
      t.conditions.jumpHeld.v = true ∧
      (s.enables.jump = true → s.office.count + 2 < 60 →
        Reported t (.jump x.bib (some k) (some .measuring) .advance .none x.flags) ∧
          Reported t (.jump x.bib (some k) (some .held) .advance (held x).needs x.flags)))

/-- What `t` holds when a seat of the record `r` of slot `k` in `s` has taken a mark (R154, R155). -/
def TookMark (now : Time) (k : Fin 4) (r : JumpRecord) (seat mark : Nat) (s t : State) : Prop :=
  OnRecord now k s t ∧
    (((r.marks.set seat mark).toList.filter (·.isSome)).length ≠ 5 →
      t.jtb = s.jtb.set k (some { r with marks := r.marks.set seat mark }) ∧ t.results = s.results ∧
        t.startList = s.startList) ∧
    ∀ y, ((r.marks.set seat mark).toList.filter (·.isSome)).length = 5 →
      y = { r with marks := r.marks.set seat mark, marksLocked := true, marksExpiry := none } →
      (r.state = .marking → Scored k y s t) ∧
        (r.state = .held → r.finalDistance ≠ none → r.windCloseDone = true → Scored k y s t) ∧
        (r.state = .held → r.finalDistance = none → t.jtb = s.jtb.set k (some { y with needs := ⟨true, false⟩ })) ∧
        (r.state = .landing ∨ r.state = .measuring → t.jtb = s.jtb.set k (some y))

/-! ### Stations -/

/-- The port of a segment. -/
def portFor : Seg → Port
  | .T => .T
  | .S => .S

/-- The code of a port, as LINE_ERRORS carries it. -/
def codeFor : Port → Nat
  | .T => 1
  | .S => 2
  | .O => 3

/-- A segment's line unit is sending the frame in its shifter at a hill time: the opener of the open slot, or the TIME frame of a cycle
start less than three time units ago (R7, R9; log 9). -/
def SendsAt (now : Time) (seg : Seg) (s : State) : Prop :=
  ∃ f, (s.line (portFor seg)).shifter = some f ∧
    ((s.seg seg).slot ≠ none ∨
      (f.kind = 0x01 ∧ ∃ mark start older, s.hck.marks = (mark, start) :: older ∧ (now - start).toNat < 3))

/-- A slot is open on a segment for the station of a kind whose address a frame carries, with its station still in force, and the
part takes events and drops no bytes of the segment. -/
def Slotted (s : State) (seg : Seg) (source : Byte) (kind : StationKind) (slot : Slot) : Prop :=
  s.heldInReset = false ∧ (s.seg seg).slot = some slot ∧ slot.entry.addr = source.toNat ∧ slot.orphan = false ∧
    slot.entry.role.kind = kind ∧ (s.line (portFor seg)).dropping = false

/-- The state at a good reply's arrival, once the slot it began in has ended and presence is updated; the slot of a frame that
began before it stays open (R10, R11; log 19). -/
def slotEnded (seg : Seg) (now : Time) (s : State) : State := State.endBegun seg true (s.setNow now)

/-- A mirrored station's frame offered to the office after it has been routed (R19; log 14), and OLU then free to start a
frame. -/
def mirrored (slot : Slot) (seg : Seg) (kind seq : Byte) (payload : List Byte) (u : State) : Out :=
  .next (State.pumpOffice (if slot.entry.mirror then u.offerMirror ⟨slot.entry.addr, seq, seg, kind, payload⟩ else u))

/-- The bytes of an edge item (Table 2-13). -/
def itemBytes (kind sensor mark high low : Byte) : List Byte := [kind, sensor, mark, high, low]

/-- The bytes of an edge item on the line: kind, sensor, mark number, and the offset's high and low byte (Table 2-13). -/
structure RawItem where
  kind : Byte
  sensor : Byte
  mark : Byte
  high : Byte
  low : Byte
deriving DecidableEq, Repr

/-- The item as it stands in a frame. -/
def RawItem.bytes (i : RawItem) : List Byte := itemBytes i.kind i.sensor i.mark i.high i.low

/-- The item as its unit takes it. -/
def RawItem.item (i : RawItem) : EdgeItem := ⟨i.kind.toNat, i.sensor.toNat, i.mark, i.high.toNat * 256 + i.low.toNat⟩

/-- The item has an edge kind and an offset in range (R17). -/
def RawItem.fits (code : Byte) (i : RawItem) : Bool := decide (i.kind = code ∧ i.high.toNat * 256 + i.low.toNat ≤ 9999)

/-- The edge kind that a station sends in EDGE frames, and the operation that takes one such item, which the statements of the
jump pin down for frames of one item (R17, R18). -/
def HandsEdge (e : StationEntry) (u : State) (code : Byte) (hand : State → EdgeItem → State) : Prop :=
  (e.role.kind = .cellA ∧ code = 1 ∧ hand = State.takeCellA) ∨ (e.role.kind = .cellB ∧ code = 1 ∧ hand = State.takeCellB) ∨
    (e.role.kind = .takeoff ∧ code = 1 ∧ hand = State.takeTakeoff e.addr) ∨
    (e.role.kind = .landing ∧ code = 3 ∧
      ∃ x m n, stationAt u.tables.stations e.addr = some x ∧ x.role = .landing m n ∧ hand = State.takeContact e.addr m n)

/-- The ten commands that bring a station frame. -/
def stationFrames (now : Time) (seg : Seg) (source kind seq : Byte) (payload : List Byte) : List Instr :=
  [.windFrame now seg source seq payload, .gateFrame now seg source seq payload, .edgeFrame now seg source seq payload,
    .coachFrame now seg source seq payload, .styleFrame now seg source seq payload, .distFrame now seg source seq payload,
    .lampstatFrame now seg source seq payload, .stationPassFrame now seg source seq payload,
    .noneFrame now seg source seq payload, .stationFrameNotAdmitted now seg source kind seq payload]

/-- The bytes of a sample (Table 2-12). -/
def sampleBytes (x : Sample) : List Byte :=
  u16 x.speed1 ++ u16 x.direction1 ++ u16 x.speed2 ++ u16 x.direction2 ++
    [BitVec.ofNat 8 (x.fault1.toNat + 2 * x.fault2.toNat)]

/-- A sample in an alignment buffer of at most two, whose oldest is lost to a drop slip when it is full (R80, R93). -/
def bufferSample (c : WindContext) (x : Sample) : WindContext :=
  { c with
    buffer := if c.buffer.length < 2 then c.buffer ++ [x] else c.buffer.tail ++ [x]
    drops := if c.buffer.length < 2 then c.drops else if c.drops < 65535 then c.drops + 1 else c.drops }

/-- What a line unit has put on its line ahead of a frame it starts: the closing delimiter of the frame before, when that was sent
at this hill time, so that the two share it; otherwise nothing (R1; log 9). -/
def aheadOf (now : Time) (u : LineUnit) : LineEnd := if u.ahead = .delimiter now then .delimiter now else .idle

/-- WIND_CHANGE after the contexts of some wind indices have changed their state: with I at 0 it rises with the first of them
(R92; log 30). -/
def WindChanged (changed : List Nat) (old new : Condition) : Prop :=
  new = if old.i = true then old else match changed with
    | [] => old
    | index :: _ => ⟨old.v, true, index⟩

/-- The frames of a downstream queue that a STATIONS swap leaves in it: those to a station that keeps its address and kind and
stands on the queue's port (R25). -/
def staysQueued (old new : List StationEntry) (port : Seg) (f : QueuedFrame) : Bool :=
  (stationAt old f.station).any fun a => (stationAt new f.station).any fun b =>
    decide (a.role.kind = b.role.kind ∧ b.port = port)

/-- A station stands in a STATIONS table with its address and kind (R13). -/
def StandsIn (t : List StationEntry) (e : StationEntry) : Prop :=
  ∃ x, stationAt t e.addr = some x ∧ x.role.kind = e.role.kind

/-- The light station is ABSENT, or the STATIONS table holds none (R120). -/
def LightAway (s : State) : Prop :=
  ∀ e l, stationOfKind s.tables.stations .light = some e → linkAt s.lsc.links e.addr = some l → l.presence = .absent

/-- STU with no echo run. -/
def noEcho (u : StartUnit) : StartUnit := { u with echoRun := 0 }

/-- The conditions with LAMP_MISMATCH at V = 0. -/
def noMismatch (c : Conditions) : Conditions := { c with lampMismatch := { c.lampMismatch with v := false } }

/-- The payload of a station's own kind of frame has the length its counts give, and its counts, gate report, bib, mark, distance
and lamp code lie in their ranges (R17, Tables 2-12 to 2-15). -/
def HasForm : StationKind → List Byte → Prop
  | .wind, p => ∃ n rest, p = n :: rest ∧ n.toNat ≤ 2 ∧ rest.length = 9 * n.toNat
  | .gate, p => ∃ report n rest, p = report :: n :: rest ∧ report.toNat ≤ 40 ∧ n.toNat ≤ 2 ∧ rest.length = 5 * n.toNat
  | .cellA, p | .cellB, p | .takeoff, p | .landing, p =>
    ∃ n rest, p = n :: rest ∧ 1 ≤ n.toNat ∧ n.toNat ≤ 8 ∧ rest.length = 5 * n.toNat
  | .coach, p => ∃ h l, p = [h, l] ∧ 1 ≤ h.toNat * 256 + l.toNat ∧ h.toNat * 256 + l.toNat ≤ 999
  | .judge, p => ∃ h l mark, p = [h, l, mark] ∧ 1 ≤ h.toNat * 256 + l.toNat ∧ h.toNat * 256 + l.toNat ≤ 999 ∧ mark.toNat ≤ 40
  | .dist, p => ∃ h l x y, p = [h, l, x, y] ∧ 1 ≤ h.toNat * 256 + l.toNat ∧ h.toNat * 256 + l.toNat ≤ 999 ∧
      x.toNat * 256 + y.toNat ≤ 600
  | .light, p => ∃ code, p = [code] ∧ code.toNat ≤ 4
  | .board, _ | .aux, _ => False

/-- The frames a station of a kind may send beside NONE and PASS (Table 2-7). -/
def ownFrames (now : Time) (seg : Seg) (source seq : Byte) (payload : List Byte) : StationKind → List Instr
  | .wind => [.windFrame now seg source seq payload]
  | .gate => [.gateFrame now seg source seq payload]
  | .cellA | .cellB | .takeoff | .landing => [.edgeFrame now seg source seq payload]
  | .coach => [.coachFrame now seg source seq payload]
  | .judge => [.styleFrame now seg source seq payload]
  | .dist => [.distFrame now seg source seq payload]
  | .light => [.lampstatFrame now seg source seq payload]
  | .board | .aux => []

/-- An item of the settings store as a reset takes it: as stored, or in its empty form when it fails its check or was never written
(R198). -/
def TakenFrom {α : Type} (item : StoreItem α) (empty a : α) : Prop :=
  (∀ x, item = .stored x → a = x) ∧ ((∀ x, item ≠ .stored x) → a = empty)

/-- Each of the six items of the settings store is stored and passes its check (R198). -/
def AllStored (x : SettingsStore) : Prop :=
  (∃ a, x.stations = .stored a) ∧ (∃ a, x.schedT = .stored a) ∧ (∃ a, x.schedS = .stored a) ∧ (∃ a, x.hill = .stored a) ∧
    (∃ a, x.distance = .stored a) ∧ ∃ a, x.enables = .stored a

/-- An item of a store write that a reset cuts, by its place in the order of writing: written, being written, or still to be
written (R197; log 4). -/
def CutAt {α : Type} (place written : Nat) (mid : Bool) (copy : α) (old new : StoreItem α) : Prop :=
  (place < written → new = .stored copy) ∧ (place = written → new = if mid then .failing else old) ∧
    (written < place → new = old)

/-- What every reset leaves, whatever its kind: hill time and marks, the line units, LSC, the wind contexts and the live wind, FLU,
the records, DSP, the conditions and the rest of OFU, with STORE_BAD as the store read gives it (Table 12-5; R1, R5, R7, R13, R26,
R33, R77, R78, R123, R172, R178, R185, R186, R192, R197, R198). The empty shifter and the line ahead of it are the model's choice
(log 9). -/
def UnitsReset (s t : State) : Prop :=
  t.ready = false ∧ t.takenReset = none ∧ t.heldInReset = false ∧ t.pending = s.pending ∧ t.store = s.store ∧
    t.hck = ⟨0, []⟩ ∧
    t.lineT = ⟨⟨0, 0, 0, 0, 0⟩, 0, none, .idle, false⟩ ∧ t.lineS = ⟨⟨0, 0, 0, 0, 0⟩, 0, none, .idle, false⟩ ∧
    t.lineO = ⟨⟨0, 0, 0, 0, 0⟩, 0, none, .idle, false⟩ ∧
    t.lsc = ⟨0, ⟨[], [], none, none⟩, ⟨[], [], none, none⟩,
      t.tables.stations.map (fun e => ⟨e.addr, .absent, 0, 0⟩), t.stu.lamp⟩ ∧
    t.wnd.liveWind = none ∧
    (∀ m ∈ t.wnd.means, m.2 = none ∧ ∃ w ∈ windPlaces t.tables.stations, w.index = m.1 ∧ w.startWindow = true) ∧
    (∀ w, windPlaceOf t.tables.stations w.index = some w → w.startWindow = true → (w.index, none) ∈ t.wnd.means) ∧
    (t.wnd.contexts.map (·.index)).Perm ((windPlaces t.tables.stations).map (·.index)) ∧
    (t.wnd.contexts.map (·.index)).Pairwise (· ≤ ·) ∧
    (∀ c ∈ t.wnd.contexts, ∃ w ∈ windPlaces t.tables.stations, c = ⟨w.index, w.bearing, [], 0, [], .lost, 0, 0, 0, 0⟩) ∧
    t.flu = ⟨[], none, none, 0, 0⟩ ∧ t.jtb = .empty ∧ t.dsp = ⟨none, [], .off, 0, none⟩ ∧
    t.office = ⟨[], [], [], none, false⟩ ∧ t.snapshot = none ∧ t.loadBuffer = none ∧ t.engine = none ∧
    (t.conditions.storeBad.v = true ↔ ¬AllStored s.store) ∧ t.conditions.liveWindUnavailable.v = true ∧
    t.conditions.gateFrozen.v = true ∧ t.conditions.lampMismatch.v = false ∧ t.conditions.jumpHeld.v = false ∧
    ∀ c, (t.conditions.get c).i = false ∧ (t.conditions.get c).argument = 0

/-- The six items of the settings store, as a power-on reset and a RESET(CLEAR) make them active (R198). -/
def StoreActive (s t : State) : Prop :=
  TakenFrom s.store.stations [] t.tables.stations ∧ TakenFrom s.store.schedT [] t.tables.schedT ∧
    TakenFrom s.store.schedS [] t.tables.schedS ∧ TakenFrom s.store.hill .defaults t.tables.hill ∧
    TakenFrom s.store.distance [] t.tables.distance ∧ TakenFrom s.store.enables ⟨0xFFFF, true, true, true, true⟩ t.enables

/-- STU after a power-on reset or a RESET(CLEAR) with the HILL table then active (R121, Table 7-3). -/
def startUnitAtPowerOn (h : HillTable) : StartUnit where
  gate := none
  candidate := none
  candidateCount := 0
  coachRequest := none
  pendingReference := none
  roundReference := none
  referenceFixed := false
  windGate := h.windGateAtPowerOn
  lastLiveWind := none
  windWait := none
  greenFlash := none
  greenExpiry := none
  flashing := false
  lamp := .off
  echoRun := 0

/-- What a RESTART of a segment leaves: the slot gone, the silence begun, the frame being sent ended with an abort, the segment's
stations ABSENT with a STATION report and STATION_CHANGE for each that was not, the GATE station's loss and the light station's
(R26, R12, R101, R118, R120). -/
def Restarted (now : Time) (seg : Seg) (s t : State) : Prop :=
  (t.seg seg).slot = none ∧ (t.seg seg).granted = [] ∧ (t.seg seg).silentUntil = some (after now 500) ∧
    (SendsAt now seg s → t.line (portFor seg) = { s.line (portFor seg) with shifter := none, ahead := .abort now }) ∧
    (¬SendsAt now seg s →
      t.line (portFor seg) =
        (if (s.line (portFor seg)).shifter = none then s.line (portFor seg)
          else { s.line (portFor seg) with shifter := none, ahead := .idle })) ∧
    (∀ e l, e ∈ s.tables.stations → e.port = seg → linkAt s.lsc.links e.addr = some l →
      linkAt t.lsc.links e.addr = some ⟨l.addr, .absent, 0, 0⟩) ∧
    (∀ a l, (∀ e ∈ s.tables.stations, e.port = seg → e.addr ≠ a) → linkAt s.lsc.links a = some l →
      linkAt t.lsc.links a = some l) ∧
    (∀ e l, stationAt s.tables.stations e.addr = some e → e.port = seg → linkAt s.lsc.links e.addr = some l →
      l.presence ≠ .absent →
      t.conditions.stationChange.i = true ∧
        (s.enables.station = true → s.office.count + 1 + 4 * s.tables.stations.length < 60 →
          Reported t (.station e.addr l.presence .absent)) ∧
        (e.role.kind = .gate → t.conditions.gateFrozen.v = true) ∧
        (e.role.kind = .light → t.stu.echoRun = 0 ∧ t.conditions.lampMismatch.v = false) ∧
        ∀ k r, e.role.kind = .light → l.presence = .present → OneActive s.jtb → RecordsInRound s →
          s.jtb.get k = some r → r.state = .cleared ∨ r.state = .green →
          t.jtb = s.jtb.set k none ∧ t.startList = r.bib :: s.startList ∧ t.stu.lamp = .red ∧
            (s.enables.jump = true → s.office.count + 1 + 4 * s.tables.stations.length < 60 →
              Reported t (.jump r.bib (some k) none .lightLost .none r.flags))) ∧
    ((∀ e ∈ s.tables.stations, e.port = seg → e.role.kind = .light →
        ∀ l, linkAt s.lsc.links e.addr = some l → l.presence ≠ .present) ∨
        (∀ k r, s.jtb.get k = some r → r.state ≠ .cleared ∧ r.state ≠ .green) →
      t.jtb = s.jtb ∧ t.startList = s.startList) ∧
    t.lsc.cycleCount = s.lsc.cycleCount ∧ t.hck = { s.hck with time := now } ∧ t.wnd = s.wnd ∧ t.tables = s.tables ∧
    t.results = s.results ∧ t.competition = s.competition ∧ t.loadBuffer = s.loadBuffer ∧ t.engine = s.engine ∧
    t.enables = s.enables

/-- A station's presence and runs after a slot, as Table 2-5 gives them. -/
def presenceAfter (limit : Nat) (good : Bool) (l : Link) : Link :=
  match l.presence, good with
  | .absent, true => { l with presence := .present, missRun := 0 }
  | .absent, false => l
  | .present, true => { l with missRun := 0 }
  | .present, false =>
    { l with
      missRun := l.missRun + 1
      presence := if l.missRun + 1 < limit then .present else .missing
      goodRun := if l.missRun + 1 < limit then l.goodRun else 0 }
  | .missing, true =>
    { l with
      goodRun := l.goodRun + 1
      presence := if l.goodRun + 1 < 2 then .missing else .present
      missRun := if l.goodRun + 1 < 2 then l.missRun else 0 }
  | .missing, false => { l with goodRun := 0 }

/-! ### Invariants -/

/-- The office queue within its bounds (R182) with no place left open by a request, and both downstream queues within theirs
(R22). -/
def QueueBounds (s : State) : Prop :=
  s.office.count ≤ 64 ∧ s.office.mirrorCount ≤ 48 ∧ s.office.place = false ∧ s.lsc.segT.queue.length ≤ 32 ∧
    s.lsc.segS.queue.length ≤ 32

/-- A port's counters have not passed 65535 (R5). -/
def CountersFit (c : Counters) : Prop :=
  c.framing ≤ 65535 ∧ c.crc ≤ 65535 ∧ c.address ≤ 65535 ∧ c.source ≤ 65535 ∧ c.slotTimeout ≤ 65535

/-- The counters fit, port O keeps no SOURCE or SLOT_TIMEOUT counter (R5, Table 2-4), and an event condition has no V (R177). -/
def StatusLegal (s : State) : Prop :=
  CountersFit s.lineT.counters ∧ CountersFit s.lineS.counters ∧ CountersFit s.lineO.counters ∧
    s.lineO.counters.source = 0 ∧ s.lineO.counters.slotTimeout = 0 ∧
    ∀ c : CondName, c.isState = false → (s.conditions.get c).v = false

/-- A stored item, when it is stored, is one that may be loaded. -/
def ItemFits {α : Type} (p : α → Prop) : StoreItem α → Prop
  | .unwritten => True
  | .failing => True
  | .stored a => p a

/-- What of the limits of R8 a schedule keeps whatever STATIONS swap follows its load: 48 entries, intervals and phases in their
ranges, a station at most once, and 30 slots in each of the 32 cycle phases. -/
def SchedFits (t : List SchedEntry) : Prop :=
  t.length ≤ 48 ∧ (∀ e ∈ t, e.interval ∈ [1, 2, 4, 8, 16, 32] ∧ e.phase < e.interval) ∧ (t.map (·.addr)).Nodup ∧
    ∀ mark < 32, (t.filter fun e => decide (mark % e.interval = e.phase)).length ≤ 30

/-- The tables in force meet their checks (R8, R15, R43, R124, R195; of R8 what a STATIONS swap keeps), and so do the copies in the
settings store and in a store being written. -/
def TablesFit (s : State) : Prop :=
  stationsValid s.tables.stations = true ∧ SchedFits s.tables.schedT ∧ SchedFits s.tables.schedS ∧
    s.tables.hill.valid = true ∧ distanceValid s.tables.distance = true ∧ competitorsValid s.tables.competitors = true ∧
    ItemFits (fun t => stationsValid t = true) s.store.stations ∧ ItemFits SchedFits s.store.schedT ∧
    ItemFits SchedFits s.store.schedS ∧ ItemFits (fun h => h.valid = true) s.store.hill ∧
    ItemFits (fun t => distanceValid t = true) s.store.distance ∧
    ∀ job, s.engine = some job →
      stationsValid job.items.stations = true ∧ SchedFits job.items.schedT ∧ SchedFits job.items.schedS ∧
        job.items.hill.valid = true ∧ distanceValid job.items.distance = true

/-- The wind law of R91 as the contexts carry it: the bad run is the length of the run of REPEAT and MISSING entries at the newest
end of the ring as far as the ring reaches, and a context that is not LOST has a bad run below the lost threshold and at least
that many entries. -/
def WindLaw (s : State) : Prop :=
  ∀ c ∈ s.wnd.contexts,
    (c.ring.takeWhile fun e => !e.quality.sampled).length = min c.badRun c.ring.length ∧ c.ring.length ≤ 128 ∧
      (c.state ≠ .lost → c.badRun < s.tables.hill.lostThreshold ∧ s.tables.hill.lostThreshold ≤ c.ring.length)

/-- The mark history as R7 and R33 keep it: at most 16 entries, newest first, the mark numbers those of the cycle counts just
before the next one. -/
def HistoryFits (s : State) : Prop :=
  s.hck.marks.length = min 16 s.lsc.cycleCount ∧
    ∀ i m t, s.hck.marks[i]? = some (m, t) → m = BitVec.ofNat 8 (s.lsc.cycleCount - 1 - i)

end Sys2Proof.Claims

open Sys2Proof Sys2Proof.Machine Sys2Proof.Claims

/-! ### The step -/

/-- The command at the front of the queue is what a step runs, with the queue's rest. -/
def Obligations.StepRunsFrontCommand : Prop :=
  ∀ (c : Instr) (rest : List Instr) (s : State), s.pending = c :: rest → step s = exec c { s with pending := rest }

/-- Every step goes on. With no command waiting hill time counts by one and exactly the commands then due are queued, the cycle
start first; held in reset nothing changes. What an empty queue does is the model's choice (log 1). -/
def Obligations.EveryStepGoesOn : Prop :=
  (∀ s : State, ∃ t, step s = .next t) ∧
    (∀ s : State, s.pending = [] → s.heldInReset = true → step s = .next s) ∧
    ∀ s : State, s.pending = [] → s.heldInReset = false →
      ∃ t, step s = .next t ∧
        t = { s with hck := { s.hck with time := s.hck.time + 1 }, pending := t.pending } ∧
        (CycleDue s (s.hck.time + 1) → t.pending.head? = some (.cycleStart (s.hck.time + 1))) ∧
        ∀ c : Instr, c ∈ t.pending ↔ Due s (s.hck.time + 1) c

/-! ### Requests and readings -/

/-- What comes before a request's own rule: nothing while a RESET waits, OFFICE_OVERRUN and no reply on a full office queue,
BAD_REQUEST for a form that is not in Table 2-17, NOT_READY before READY but for IDENTIFY (R183, R188, R189, R199). -/
def Obligations.RequestsAreGated : Prop :=
  (∀ (c : Instr) (now : Time) (seq code : Byte) (s : State), requestOf c = some (now, seq, code) → s.heldInReset = false →
    (s.takenReset ≠ none → exec c s = .next (s.setNow now).pumpOffice) ∧
      (s.takenReset = none → 64 ≤ s.office.count →
        exec c s = .next ((s.setNow now).raise .officeOverrun 0x20).pumpOffice) ∧
      (Takes s → s.ready = false → code ≠ 0x01 → exec c s = refused now seq code .notReady s)) ∧
  ∀ (c : Instr) (now : Time) (seq code : Byte) (s : State), Malformed c now seq code → s.heldInReset = false →
    (s.takenReset ≠ none → exec c s = .next (s.setNow now).pumpOffice) ∧
      (s.takenReset = none → 64 ≤ s.office.count →
        exec c s = .next ((s.setNow now).raise .officeOverrun 0x20).pumpOffice) ∧
      (Takes s → exec c s = refused now seq code .badRequest s)

/-- R191: IDENTIFY is taken before and after READY and changes nothing. -/
def Obligations.IdentifyAnswers : Prop :=
  ∀ (now : Time) (seq : Byte) (s : State), Takes s →
    exec (.identify now seq) s = .next (replied now seq 0x01 .ok (.identity 0x2100 1 s.ready) s)

/-- R75, R187, R196: READ_JUMP, SNAPSHOT_PART and READ_TABLE give a part of what is held and change nothing. -/
def Obligations.PartReadsChangeNothing : Prop :=
  ∀ (now : Time) (seq : Byte) (s : State), Listens s →
    (∀ slot part : Byte, 3 < slot.toNat ∨ 1 < part.toNat →
      exec (.readJump now seq slot part) s = refused now seq 0x39 .badValue s) ∧
    (∀ (slot part : Byte) (k : Fin 4), slot.toNat = k.val → part.toNat ≤ 1 →
      exec (.readJump now seq slot part) s =
        .next (replied now seq 0x39 .ok
          (match s.jtb.get k with
            | none => .slotFree k
            | some r => if part.toNat = 0 then .jumpPart0 k r else .jumpPart1 k r) s)) ∧
    (∀ part : Byte, 3 < part.toNat → exec (.snapshotPart now seq part) s = refused now seq 0x15 .badValue s) ∧
    (∀ part : Byte, part.toNat ≤ 3 → s.snapshot = none →
      exec (.snapshotPart now seq part) s = refused now seq 0x15 .wrongState s) ∧
    (∀ (part : Byte) (c : Snapshot), part.toNat ≤ 3 → s.snapshot = some c →
      exec (.snapshotPart now seq part) s =
        .next (replied now seq 0x15 .ok
          (if part.toNat = 0 then .snapshotHead c.time c.head
            else if part.toNat = 1 then .snapshotJump c.time c.jump
            else if part.toNat = 2 then .snapshotMeans c.time c.means
            else .snapshotPresences c.time c.presences) s)) ∧
    (∀ table : Byte, ∀ offset : Half, ¬(1 ≤ table.toNat ∧ table.toNat ≤ 6) →
      exec (.readTable now seq table offset) s = refused now seq 0x08 .badValue s) ∧
    ∀ (table : Byte) (offset : Half) (code : TableCode) (o : Option Status), table.toNat = code.code →
      FirstOf [((s.tables.image code).length < offset.toNat, .badValue)] o →
      exec (.readTable now seq table offset) s =
        answered now seq 0x08 o
          (.tablePiece table.toNat (s.tables.image code).length offset.toNat
            (((s.tables.image code).drop offset.toNat).take 112)) s s

/-- R6: READ_COUNTERS returns the five counters of a port and clears them; on port O the last two read 0. -/
def Obligations.ReadCountersClears : Prop :=
  ∀ (now : Time) (seq port : Byte) (s : State), Listens s → StatusLegal s →
    (port.toNat = 1 →
      exec (.readCounters now seq port) s =
        .next (replied now seq 0x10 .ok (.counters s.lineT.counters)
          { s with lineT := { s.lineT with counters := ⟨0, 0, 0, 0, 0⟩ } })) ∧
    (port.toNat = 2 →
      exec (.readCounters now seq port) s =
        .next (replied now seq 0x10 .ok (.counters s.lineS.counters)
          { s with lineS := { s.lineS with counters := ⟨0, 0, 0, 0, 0⟩ } })) ∧
    (port.toNat = 3 →
      exec (.readCounters now seq port) s =
        .next (replied now seq 0x10 .ok
          (.counters ⟨s.lineO.counters.framing, s.lineO.counters.crc, s.lineO.counters.address, 0, 0⟩)
          { s with lineO := { s.lineO with counters := ⟨0, 0, 0, 0, 0⟩ } })) ∧
    (¬(1 ≤ port.toNat ∧ port.toNat ≤ 3) →
      exec (.readCounters now seq port) s = refused now seq 0x10 .badValue s)

/-- READ_STATION: its refusals, and the fields of a station, a WIND station's slip counters cleared at clear = 1 (R27). -/
def Obligations.ReadStationAnswers : Prop :=
  ∀ (now : Time) (seq address clear : Byte) (s : State) (o : Option Status), Listens s →
    FirstOf
      [(¬(0x10 ≤ address.toNat ∧ address.toNat ≤ 0xEF) ∨ ¬(clear.toNat = 0 ∨ clear.toNat = 1), .badValue),
        (stationAt s.tables.stations address.toNat = none, .notFound)] o →
    (∀ status, o = some status → exec (.readStation now seq address clear) s = refused now seq 0x11 status s) ∧
    ∀ e l, o = none → stationAt s.tables.stations address.toNat = some e → linkAt s.lsc.links e.addr = some l →
      (∀ w c, e.role = .wind w → s.wnd.contexts.find? (fun x => decide (x.index = w.index)) = some c →
        exec (.readStation now seq address clear) s =
          .next (replied now seq 0x11 .ok
            (.station .wind e.port l.presence l.missRun l.goodRun
              (some ⟨c.state, c.buffer.length, c.drops, c.repeats, c.ring.head?⟩))
            (if clear.toNat = 1 then
              { s with wnd := { s.wnd with
                  contexts := s.wnd.contexts.map fun x =>
                    if x.index = w.index then { x with drops := 0, repeats := 0 } else x } }
            else s))) ∧
      ((∀ w, e.role ≠ .wind w) →
        exec (.readStation now seq address clear) s =
          .next (replied now seq 0x11 .ok (.station e.role.kind e.port l.presence l.missRun l.goodRun none) s))

/-- R179, R180: READ_CONDITIONS reads all sixteen in number order and then clears I and the argument of each that has no V at 1;
SET_REPORT_ENABLES sets every enable as the request gives it, and nothing else. -/
def Obligations.ConditionsReadAndEnabled : Prop :=
  (∀ (now : Time) (seq : Byte) (s : State), Listens s → StatusLegal s →
    ∃ u, exec (.readConditions now seq) s =
        .next (replied now seq 0x12 .ok
          (.conditions
            [s.conditions.restarted, s.conditions.storeBad, s.conditions.storeResult, s.conditions.stationChange,
              s.conditions.windChange, s.conditions.liveWindUnavailable, s.conditions.lampMismatch,
              s.conditions.gateFrozen, s.conditions.gateChanged, s.conditions.gateMoved, s.conditions.lateData,
              s.conditions.stationDataBad, s.conditions.lineErrors, s.conditions.officeOverrun,
              s.conditions.reportLost, s.conditions.jumpHeld]) { s with conditions := u }) ∧
      ∀ c : CondName,
        ((c.isState = false ∨ (s.conditions.get c).v = false) →
          u.get c = { s.conditions.get c with i := false, argument := 0 }) ∧
        (c.isState = true → (s.conditions.get c).v = true → u.get c = s.conditions.get c)) ∧
  (∀ (now : Time) (seq : Byte) (conditions : Half) (kinds : Byte) (s : State), Listens s →
    exec (.setReportEnables now seq conditions kinds) s =
        .next (replied now seq 0x13 .ok
          (.enables conditions (kinds.getLsbD 0) (kinds.getLsbD 1) (kinds.getLsbD 2) (kinds.getLsbD 3))
          { s with enables :=
              ⟨conditions, kinds.getLsbD 0, kinds.getLsbD 1, kinds.getLsbD 2, kinds.getLsbD 3⟩ }) ∧
      ∀ c : CondName, (⟨conditions, true, true, true, true⟩ : Enables).of c = conditions.getLsbD (c.number - 1))

/-- SNAPSHOT copies the values of Table 11-8 and answers with part 0 (R186). -/
def Obligations.SnapshotCopies : Prop :=
  ∀ (now : Time) (seq : Byte) (s : State), Listens s → OneActive s.jtb →
    ∃ c, exec (.snapshot now seq) s =
        .next (replied now seq 0x14 .ok (.snapshotHead now c.head) { s with snapshot := some c }) ∧
      c.time = now ∧ c.head.lamp = s.stu.lamp ∧ c.head.gate = s.stu.gate ∧ c.head.liveWind = s.wnd.liveWind ∧
      c.head.competition = s.competition ∧ c.means = s.wnd.means ∧
      ((∀ k r, s.jtb.get k = some r → r.state ≠ .green) → c.head.remaining = 0) ∧
      (∀ k r x, s.jtb.get k = some r → r.state = .green → r.greenExpiryTime = some x →
        c.head.remaining = ((x - now).toNat + 999) / 1000) ∧
      (∀ g, s.stu.referenceFixed = true → s.stu.roundReference = some g → c.head.reference = .fixed g) ∧
      (∀ g, s.stu.referenceFixed = false → s.stu.pendingReference = some g → c.head.reference = .pending g) ∧
      (s.stu.referenceFixed = false → s.stu.pendingReference = none → c.head.reference = .unset) ∧
      (∀ k r, s.jtb.get k = some r → r.state.active = true → c.jump = some (k, r)) ∧
      ((∀ k r, s.jtb.get k = some r → r.state.active = false) → c.jump = none) ∧
      c.presences.length = s.tables.stations.length ∧
      ∀ (i : Nat) (e : StationEntry) (l : Link), s.tables.stations[i]? = some e → linkAt s.lsc.links e.addr = some l → c.presences[i]? = some l.presence

/-! ### Lists and rounds -/

/-- LIST_INSERT: its nine refusals in order, and the list with the bib at its place (R45). -/
def Obligations.ListInsertPlacesBib : Prop :=
  ∀ (now : Time) (seq : Byte) (bib position : Half) (s : State) (o : Option Status), Listens s →
    FirstOf
      [(¬(1 ≤ bib.toNat ∧ bib.toNat ≤ 999), .badValue),
        (s.competition = .r1Closed ∨ s.competition = .final, .wrongState),
        (∀ c ∈ s.tables.competitors, c.bib ≠ bib.toNat, .notFound),
        (bib.toNat ∈ s.startList, .wrongState),
        (∃ k r, s.jtb.get k = some r ∧ r.bib = bib.toNat, .wrongState),
        (∃ e, entryOf s.results bib.toNat = some e ∧
          ((s.competition = .r1Open ∧ e.round1 ≠ none) ∨ (s.competition = .r2Open ∧ e.round2 ≠ none)), .wrongState),
        (∃ e, entryOf s.results bib.toNat = some e ∧ e.status = .dsq, .wrongState),
        (96 ≤ s.startList.length, .full),
        (s.startList.length < position.toNat, .badValue)] o →
    exec (.listInsert now seq bib position) s =
      answered now seq 0x23 o (.listLength (s.startList.length + 1)) s
        { s with startList := s.startList.take position.toNat ++ bib.toNat :: s.startList.drop position.toNat }

/-- R46, R47: LIST_REMOVE takes a bib out and the bibs behind it keep their order; LIST_MOVE takes a bib out and places it so that it
stands at the index of the list it rejoins. -/
def Obligations.StartListEdits : Prop :=
  (∀ (now : Time) (seq : Byte) (bib : Half) (s : State) (o : Option Status), Listens s →
    FirstOf
      [(¬(1 ≤ bib.toNat ∧ bib.toNat ≤ 999), .badValue),
        (s.competition = .r1Closed ∨ s.competition = .final, .wrongState),
        (bib.toNat ∉ s.startList, .notFound)] o →
    exec (.listRemove now seq bib) s =
      answered now seq 0x24 o (.listLength (s.startList.length - 1)) s
        { s with startList := s.startList.erase bib.toNat }) ∧
  (∀ (now : Time) (seq : Byte) (bib position : Half) (s : State) (o : Option Status), Listens s →
    FirstOf
      [(¬(1 ≤ bib.toNat ∧ bib.toNat ≤ 999), .badValue),
        (s.competition = .r1Closed ∨ s.competition = .final, .wrongState),
        (bib.toNat ∉ s.startList, .notFound),
        (s.startList.length - 1 < position.toNat, .badValue)] o →
    ∃ l,
      exec (.listMove now seq bib position) s = answered now seq 0x25 o .nothing s { s with startList := l } ∧
        (o = none → l.Perm s.startList ∧ l[position.toNat]? = some bib.toNat ∧
          (s.startList.Nodup → l.erase bib.toNat = s.startList.erase bib.toNat)))

/-- LIST_READ gives the length, the competition state and up to 40 bibs; RESULTS_READ gives the entries from an index with their
ranks, up to 8 without and 4 with their detail, as many of them as fit into the 118 result bytes of a reply, and one at least
where there is one. Neither changes anything (R48, R168, R170). That the entries are cut to the reply's room is the model's
choice (log 13). -/
def Obligations.ListsAreRead : Prop :=
  (∀ (now : Time) (seq : Byte) (index : Half) (s : State) (o : Option Status), Listens s →
    FirstOf [(s.startList.length < index.toNat, .badValue)] o →
    exec (.listRead now seq index) s =
      answered now seq 0x26 o
        (.listView s.startList.length s.competition ((s.startList.drop index.toNat).take 40)) s s) ∧
  (∀ (now : Time) (seq : Byte) (index : Half) (detail : Byte) (s : State) (o : Option Status) (most : List RankedEntry),
    Listens s →
    FirstOf [(¬(detail.toNat = 0 ∨ detail.toNat = 1) ∨ s.results.length < index.toNat, .badValue)] o →
    most = ((s.results.drop index.toNat).take (if detail.toNat = 0 then 8 else 4)).map
      (fun e => ⟨e, rankAmong s.results e⟩) →
    ∃ shown : List RankedEntry,
      exec (.resultsRead now seq index detail) s =
        answered now seq 0x27 o
          (.resultsView s.results.length s.competition shown (decide (detail.toNat = 1))) s s ∧
      shown <+: most ∧ (most ≠ [] → shown ≠ []) ∧
      (Results.resultsView s.results.length s.competition shown (decide (detail.toNat = 1))).bytes.length ≤ 118 ∧
      ∀ longer, longer <+: most → shown.length < longer.length →
        118 < (Results.resultsView s.results.length s.competition longer (decide (detail.toNat = 1))).bytes.length)

/-- ROUND_OPEN(1), RESULTS_CLEAR and ROUND_CLOSE: their refusals, the new state, the lists, the lamp, the LEADERS image and its page,
the reference gate, and the non-starter reports (R51, R54, R55, R56, R175). That a non-starter report carries a flags field, with no flag set,
is the model's choice (log 29). -/
def Obligations.RoundsOpenAndClose : Prop :=
  (∀ (now : Time) (seq : Byte) (s : State), Listens s → RecordsInRound s →
    (∀ round : Byte, ¬(round.toNat = 1 ∨ round.toNat = 2) →
      exec (.roundOpen now seq round) s = refused now seq 0x20 .badValue s) ∧
    (∀ (round : Byte) (o : Option Status), round.toNat = 1 →
      FirstOf [(s.competition ≠ .prepare, .wrongState), (s.startList = [], .notFound)] o →
      ∀ d, d = { s.dsp with leaders := leadersOf s.tables.competitors s.results } →
        exec (.roundOpen now seq round) s =
          answered now seq 0x20 o (.roundOpened .r1Open s.startList.length) s
            { s with
              competition := .r1Open
              stu := { s.stu with lamp := .red }
              lsc := { s.lsc with
                lampSlot := .red
                segS := { s.lsc.segS with queue := pageShown d s.tables.stations .leaders s.lsc.segS.queue } }
              dsp := d }) ∧
    ∀ o : Option Status, FirstOf [(RoundOpen s, .wrongState)] o → ∀ d, d = { s.dsp with leaders := [] } →
      exec (.resultsClear now seq) s =
        answered now seq 0x22 o .nothing s
          { s with
            results := []
            startList := []
            competition := .prepare
            stu := { s.stu with lamp := .off }
            lsc := { s.lsc with
              lampSlot := .off
              segS := { s.lsc.segS with queue := pageShown d s.tables.stations .leaders s.lsc.segS.queue } }
            dsp := d }) ∧
  (∀ (now : Time) (seq : Byte) (s : State) (o : Option Status), Listens s →
    FirstOf [(¬RoundOpen s, .wrongState), (∃ k r, s.jtb.get k = some r, .wrongState)] o →
    (∀ status, o = some status → exec (.roundClose now seq) s = refused now seq 0x21 status s) ∧
    (o = none →
      ∃ t, exec (.roundClose now seq) s = .next t ∧
        Answered t seq 0x21 (.roundClosed t.competition s.startList.length) ∧
        ButReports
          { s with
            hck := { s.hck with time := now }
            startList := []
            competition := if s.competition = .r1Open then .r1Closed else .final
            stu := { s.stu with
              coachRequest := none, pendingReference := none, roundReference := none, referenceFixed := false, lamp := .off }
            lsc := { s.lsc with lampSlot := .off } } t ∧
        (s.enables.jump = true → s.office.count + 1 + s.startList.length ≤ 60 →
          ∀ b ∈ s.startList, Reported t (.jump b none none .dns .none .none))))

/-- ROUND_OPEN(2): refused outside R1_CLOSED; otherwise the start list is the round-2 order, made of the first Q OK entries and
the ties with the last of them, reversed, and the LEADERS page is sent (R52, R53, R175). -/
def Obligations.RoundTwoOrder : Prop :=
  ∀ (now : Time) (seq round : Byte) (s : State), Listens s → RecordsInRound s → round.toNat = 2 →
    (s.competition ≠ .r1Closed → exec (.roundOpen now seq round) s = refused now seq 0x20 .wrongState s) ∧
    (s.competition = .r1Closed → ResultsOrdered s → 1 ≤ s.tables.hill.q →
      (∀ e ∈ s.results, e.status = .ok → e.rounds = 1) →
      ∃ chosen d, d = { s.dsp with leaders := leadersOf s.tables.competitors s.results } ∧
        exec (.roundOpen now seq round) s =
          .next (replied now seq 0x20 .ok
            (.round2Opened .r2Open chosen.length ((chosen.getLast?.map (·.total)).getD 0)
              (chosen.length - s.tables.hill.q))
            { s with
              competition := .r2Open
              startList := (chosen.map (·.bib)).reverse
              stu := { s.stu with lamp := .red }
              lsc := { s.lsc with
                lampSlot := .red
                segS := { s.lsc.segS with queue := pageShown d s.tables.stations .leaders s.lsc.segS.queue } }
              dsp := d }) ∧
        chosen <+: s.results.filter (fun e => decide (e.status = .ok)) ∧
        ∀ e ∈ s.results, e.status = .ok →
          (e ∈ chosen ↔
            ((s.results.filter fun e => decide (e.status = .ok)).length ≤ s.tables.hill.q ∨
              ∃ last, (s.results.filter fun e => decide (e.status = .ok))[s.tables.hill.q - 1]? = some last ∧
                last.total ≤ e.total)))

/-! ### The start -/

/-- CLEAR is refused with the first status of Table 7-1 that applies; with none, the jumper at the head of the start list is
cleared (R107). -/
def Obligations.ClearIsJudged : Prop :=
  ∀ (now : Time) (seq : Byte) (s : State) (o : Option Status), Listens s → FirstOf (clearRefusals s) o →
    (∀ status, o = some status → exec (.clear now seq) s = refused now seq 0x30 status s) ∧
      (o = none →
        ∃ t k r, exec (.clear now seq) s = .next t ∧ s.jtb.get k = none ∧ t.jtb.get k = some r ∧
          s.startList = r.bib :: t.startList)

/-- What CLEAR does when it is taken: the record in the lowest free slot, the pending coach request applied, YELLOW and the wind wait
with the wind-gate switch ON, GREEN at once with it OFF; and WIND_GATE, which switched OFF sends a CLEARED record to GREEN (R61,
R104, R108, R111, R112). That a record's serial stands above those of the records before it is the model's own (log 32). -/
def Obligations.GreenIsEntered : Prop :=
  (∀ (now : Time) (seq : Byte) (s : State) (bib : Nat) (rest : List Nat) (k : Fin 4), Listens s →
    FirstOf (clearRefusals s) none → s.startList = bib :: rest → s.jtb.get k = none → (∀ j < k, s.jtb.get j ≠ none) →
    (∀ j r, s.jtb.get j = some r → r.serial < (clearedRecord s now bib).serial) ∧
    (s.stu.windGate = true →
      ∃ t, exec (.clear now seq) s = .next t ∧ Answered t seq 0x30 (.jumpAt bib k .cleared) ∧
        ButShown
          { s with
            hck := { s.hck with time := now }
            startList := rest
            jtb := s.jtb.set k (some (clearedRecord s now bib))
            stu := { s.stu with
              lamp := .yellow
              coachRequest := if s.stu.coachRequest = some bib then none else s.stu.coachRequest
              windWait := some (after now (s.tables.hill.windWait * 10000)) }
            lsc := { s.lsc with lampSlot := .yellow } } t ∧
        t.dsp.current = some (recordPage s.tables.competitors s.stu.gate (clearedRecord s now bib)) ∧
        (s.enables.jump = true → s.office.count + 1 < 60 →
          Reported t (.jump bib (some k) (some .cleared) .advance .none .none))) ∧
    (s.stu.windGate = false →
      ∃ t, exec (.clear now seq) s = .next t ∧ Answered t seq 0x30 (.jumpAt bib k .green) ∧
        EnteredGreen now k (clearedRecord s now bib)
          { s with
            startList := rest
            stu := { s.stu with
              coachRequest := if s.stu.coachRequest = some bib then none else s.stu.coachRequest } } t ∧
        (s.enables.jump = true → s.office.count + 2 < 60 →
          Reported t (.jump bib (some k) (some .cleared) .advance .none .none) ∧
            Reported t (.jump bib (some k) (some .green) .advance .none .none)))) ∧
  (∀ (now : Time) (seq on : Byte) (s : State), Listens s → OneActive s.jtb → RecordsInRound s →
    (1 < on.toNat → exec (.windGate now seq on) s = refused now seq 0x32 .badValue s) ∧
    (on.toNat = 1 →
      exec (.windGate now seq on) s =
        .next (replied now seq 0x32 .ok (.windGate true) { s with stu := { s.stu with windGate := true } })) ∧
    (on.toNat = 0 → (∀ k r, s.jtb.get k = some r → r.state ≠ .cleared) →
      exec (.windGate now seq on) s =
        .next (replied now seq 0x32 .ok (.windGate false) { s with stu := { s.stu with windGate := false } })) ∧
    ∀ k r, on.toNat = 0 → s.jtb.get k = some r → r.state = .cleared →
      ∃ t, exec (.windGate now seq on) s = .next t ∧ Answered t seq 0x32 (.windGate false) ∧
        EnteredGreen now k r { s with stu := { s.stu with windGate := false } } t)

/-- R105: SET_REFERENCE_GATE stores the pending reference gate until the round's reference is fixed; RESULTS_CLEAR keeps it. -/
def Obligations.ReferenceGateSet : Prop :=
  ∀ (now : Time) (seq gate : Byte) (s : State), Listens s →
    (∀ o : Option Status,
      FirstOf [(40 < gate.toNat, .badValue), (RoundOpen s ∧ s.stu.referenceFixed = true, .wrongState)] o →
      exec (.setReferenceGate now seq gate) s =
        answered now seq 0x33 o (.referenceGate (if gate.toNat = 0 then none else some gate.toNat)) s
          { s with stu := { s.stu with pendingReference := if gate.toNat = 0 then none else some gate.toNat } }) ∧
    ∀ t, exec (.resultsClear now seq) s = .next t → t.stu.pendingReference = s.stu.pendingReference

/-- HOLD, ANNUL and the wind wait expiry: their refusals, and the record freed with its bib at the head of the start list and the
reason in its report (R49, R66, R72, R110, R117). -/
def Obligations.BarIsLeft : Prop :=
  (∀ (now : Time) (seq : Byte) (s : State), Listens s → OneActive s.jtb → RecordsInRound s →
    ((∀ k r, s.jtb.get k = some r → r.state ≠ .cleared ∧ r.state ≠ .green ∧ r.state ≠ .late) →
      exec (.hold now seq) s = refused now seq 0x31 .wrongState s) ∧
    (∀ k r, s.jtb.get k = some r → r.state = .cleared ∨ r.state = .green ∨ r.state = .late →
      ∃ t, exec (.hold now seq) s = .next t ∧ Answered t seq 0x31 (.jumpAt r.bib k r.state) ∧ Withdrawn now k r s t ∧
        (s.enables.jump = true → s.office.count + 1 < 60 → Reported t (.jump r.bib (some k) none .hold .none r.flags))) ∧
    (∀ (bib : Half) (o : Option Status),
      FirstOf
        [(¬(1 ≤ bib.toNat ∧ bib.toNat ≤ 999), .badValue),
          (∀ k r, s.jtb.get k = some r → r.bib ≠ bib.toNat, .notFound)] o →
      (∀ status, o = some status → exec (.annul now seq bib) s = refused now seq 0x36 status s) ∧
        ∀ k r, o = none → s.jtb.holding bib.toNat = some (k, r) →
          ∃ t, exec (.annul now seq bib) s = .next t ∧ Answered t seq 0x36 (.annulled k r.state) ∧
            Withdrawn now k r s t ∧
            (s.enables.jump = true → s.office.count + 1 < 60 →
              Reported t (.jump r.bib (some k) none .annulled .none r.flags)))) ∧
  (∀ (now : Time) (s : State) (k : Fin 4) (r : JumpRecord), s.heldInReset = false → OneActive s.jtb → RecordsInRound s →
    s.stu.windWait = some now → s.jtb.get k = some r → r.state = .cleared →
    ∃ t, exec (.windWaitExpiry now) s = .next t ∧ Withdrawn now k r s t ∧
      (s.enables.jump = true → s.office.count < 60 →
        Reported t (.jump r.bib (some k) none
          (if s.stu.lastLiveWind = none then .liveWindUnavailable else .windTimeout) .none r.flags)))

/-- The green flash expiry, the countdown second and the green expiry of a GREEN record (R113, R114, R176). -/
def Obligations.GreenTimesOut : Prop :=
  ∀ (now : Time) (s : State) (k : Fin 4) (r : JumpRecord) (green : Time), s.heldInReset = false → OneActive s.jtb →
    RecordsInRound s → s.jtb.get k = some r → r.state = .green → r.greenTime = some green →
    (s.stu.greenFlash = some now →
      ∃ t, exec (.greenFlashExpiry now) s = .next t ∧
        ButShown
          { s with
            hck := { s.hck with time := now }
            stu := { s.stu with greenFlash := none, flashing := true, lamp := .greenFlash }
            lsc := { s.lsc with lampSlot := .greenFlash } } t ∧
        t.dsp.countdownLamp = .greenFlash ∧
        t.dsp.countdownSeconds = s.tables.hill.startTime - (now - green).toNat / 10000) ∧
    (s.dsp.countdownExpiry = some now →
      ∃ t, exec (.countdownSecondExpiry now) s = .next t ∧
        ButShown { s with hck := { s.hck with time := now } } t ∧ t.dsp.countdownLamp = s.stu.lamp ∧
        t.dsp.countdownSeconds = s.tables.hill.startTime - (now - green).toNat / 10000 ∧
        t.dsp.countdownExpiry = (if 1 < t.dsp.countdownSeconds then some (after now 10000) else none)) ∧
    (s.stu.greenExpiry = some now →
      ∃ t, exec (.greenExpiry now) s = .next t ∧
        ButShown
          { s with
            hck := { s.hck with time := now }
            jtb := s.jtb.set k (some (entered .late r))
            stu := { barLeft s.stu with lamp := .red }
            lsc := { s.lsc with lampSlot := .red } } t ∧
        t.dsp.countdownExpiry = none ∧ t.dsp.countdownSeconds = 0 ∧ t.dsp.countdownLamp = .red ∧
        (s.enables.jump = true → s.office.count < 60 →
          Reported t (.jump r.bib (some k) (some .late) .advance .none r.flags)))

/-- A gate report of a GATE frame: nothing while the GATE station is not PRESENT; otherwise the candidate and its count, and with a
count of 3 the debounced gate, GATE_CHANGED and GATE_MOVED (R100, R101, R102). -/
def Obligations.GateIsDebounced : Prop :=
  ∀ (now : Time) (seg : Seg) (source seq report : Byte) (s u : State) (slot : Slot) (n : Nat),
    Slotted s seg source .gate slot → report.toNat ≤ 40 → u = slotEnded seg now s →
    n = (if u.stu.candidate = some report.toNat then min 3 (u.stu.candidateCount + 1) else 1) →
    (¬StationPresent u .gate →
      exec (.gateFrame now seg source seq [report, 0]) s = mirrored slot seg 0x13 seq [report, 0] u) ∧
    (StationPresent u .gate → ¬(n = 3 ∧ report.toNat ≠ 0 ∧ u.stu.gate ≠ some report.toNat) →
      exec (.gateFrame now seg source seq [report, 0]) s =
        mirrored slot seg 0x13 seq [report, 0]
          { u with stu := { u.stu with candidate := some report.toNat, candidateCount := n } }) ∧
    (StationPresent u .gate → n = 3 → report.toNat ≠ 0 → u.stu.gate ≠ some report.toNat →
      ∃ v, v = State.raise .gateChanged report.toNat
          { u with stu := { u.stu with candidate := some report.toNat, candidateCount := 3, gate := some report.toNat } } ∧
        ((∀ k r, u.jtb.get k = some r → r.state ≠ .green ∧ r.state ≠ .late ∧ r.state ≠ .inRun) →
          exec (.gateFrame now seg source seq [report, 0]) s = mirrored slot seg 0x13 seq [report, 0] v) ∧
        ∀ k r, OneActive u.jtb → u.jtb.get k = some r → r.state = .green ∨ r.state = .late ∨ r.state = .inRun →
          exec (.gateFrame now seg source seq [report, 0]) s =
            mirrored slot seg 0x13 seq [report, 0]
              { v.raise .gateMoved r.bib with
                jtb := u.jtb.set k (some { r with flags := { r.flags with gateMoved := true } }) })

/-- A GATE_LEFT item after the frame's report: LATE_DATA with no record on the bar or an edge before its clear time; otherwise
IN_RUN with the flags of Table 7-2, the gate, the reference gate, and the in-run expiry armed or taken (R115, R116, R130). -/
def Obligations.GateLeftStartsRun : Prop :=
  ∀ (now : Time) (seg : Seg) (source seq report sensor mark high low : Byte) (s v : State) (slot : Slot) (e : EdgeTime),
    Slotted s seg source .gate slot → report.toNat ≤ 40 → high.toNat * 256 + low.toNat ≤ 9999 →
    v = State.takeGateReport report.toNat (slotEnded seg now s) → e = v.convert mark (high.toNat * 256 + low.toNat) →
    ((∀ k r, v.jtb.get k = some r → r.state.onBar = true → atOrAfter e.time r.clearTime = false) →
      exec (.gateFrame now seg source seq ([report, 1] ++ itemBytes 2 sensor mark high low)) s =
        mirrored slot seg 0x13 seq ([report, 1] ++ itemBytes 2 sensor mark high low)
          (v.raise .lateData slot.entry.addr)) ∧
    ∀ k r, OneActive v.jtb → RecordsInRound v → v.jtb.get k = some r → r.state.onBar = true →
      atOrAfter e.time r.clearTime = true →
      ∃ t x, exec (.gateFrame now seg source seq ([report, 1] ++ itemBytes 2 sensor mark high low)) s = .next t ∧
        t.jtb = v.jtb.set k (some x) ∧
        ButShown
          { v with
            jtb := t.jtb
            stu := { barLeft (referenceSet v.stu) with lamp := .red }
            flu :=
              if laterThan (after e.time (v.tables.hill.inRunMax * 10000)) now then
                ⟨[], some (after e.time (v.tables.hill.inRunMax * 10000)), none, 0, 0⟩
              else .idle
            lsc := { v.lsc with lampSlot := .red } } t ∧
        x.state = (if laterThan (after e.time (v.tables.hill.inRunMax * 10000)) now then .inRun else .held) ∧
        x.bib = r.bib ∧ x.gateLeftTime = some e.time ∧ x.greenTime = r.greenTime ∧ x.marks = r.marks ∧
        x.flags.timeEstimated = (r.flags.timeEstimated || e.estimated) ∧
        (r.state = .cleared → x.flags.early = true ∧ x.flags.late = r.flags.late ∧ x.gate = v.stu.gate) ∧
        (r.state = .green →
          (x.flags.early = true ↔ r.flags.early = true ∨ ∃ g, r.greenTime = some g ∧ earlierThan e.time g = true) ∧
            x.flags.late = r.flags.late ∧ x.gate = r.gate) ∧
        (r.state = .late →
          (x.flags.late = true ↔ r.flags.late = true ∨ ∃ g, r.greenExpiryTime = some g ∧ laterThan e.time g = true) ∧
            x.flags.early = r.flags.early ∧ x.gate = r.gate)

/-- A COACH frame by where its bib stands, and a LAMPSTAT echo compared with the lamp command of its slot's opener, with no echo run
while the light station is ABSENT (R103, R120). -/
def Obligations.CoachAndEchoFrames : Prop :=
  (∀ (now : Time) (seg : Seg) (source seq high low : Byte) (s u : State) (slot : Slot) (bib : Nat),
    Slotted s seg source .coach slot → bib = high.toNat * 256 + low.toNat → 1 ≤ bib → bib ≤ 999 →
    u = slotEnded seg now s →
    (∀ k r, u.jtb.holding bib = some (k, r) → r.state = .cleared →
      exec (.coachFrame now seg source seq [high, low]) s =
        mirrored slot seg 0x14 seq [high, low]
          { u with jtb := u.jtb.set k (some { r with coachRequest := true, juryGate := u.stu.gate }) }) ∧
    (∀ k r, u.jtb.holding bib = some (k, r) → r.state ≠ .cleared →
      exec (.coachFrame now seg source seq [high, low]) s =
        mirrored slot seg 0x14 seq [high, low] (u.raise .lateData slot.entry.addr)) ∧
    ((∀ k r, u.jtb.get k = some r → r.bib ≠ bib) →
      exec (.coachFrame now seg source seq [high, low]) s =
        mirrored slot seg 0x14 seq [high, low] { u with stu := { u.stu with coachRequest := some bib } })) ∧
  (∀ (now : Time) (seg : Seg) (source seq code : Byte) (s u : State) (slot : Slot) (lamp : Lamp),
    Slotted s seg source .light slot → code.toNat = lamp.code → u = slotEnded seg now s →
    (slot.lampSent = some lamp ∨ LightAway u →
      exec (.lampstatFrame now seg source seq [code]) s =
        mirrored slot seg 0x17 seq [code] { u with stu := noEcho u.stu, conditions := noMismatch u.conditions }) ∧
    (slot.lampSent ≠ some lamp → ¬LightAway u → u.stu.echoRun = 0 →
      exec (.lampstatFrame now seg source seq [code]) s =
        mirrored slot seg 0x17 seq [code] { u with stu := { u.stu with echoRun := 1 } }) ∧
    (slot.lampSent ≠ some lamp → ¬LightAway u → 1 ≤ u.stu.echoRun →
      exec (.lampstatFrame now seg source seq [code]) s =
        mirrored slot seg 0x17 seq [code]
          (State.setV .lampMismatch true { u with stu := { u.stu with echoRun := 2 } })))

/-! ### The jump -/

/-- R34, R35: a stamp whose mark stands in the history gives that time plus the offset, clamped to the arrival; any other gives the
arrival time, estimated. -/
def Obligations.StampsConvert : Prop :=
  ∀ (s : State) (mark : Byte) (offset : Nat),
    (∀ t, (mark, t) ∈ s.hck.marks → (∀ x, (mark, x) ∈ s.hck.marks → x = t) →
      s.convert mark offset =
        (if laterThan (t + BitVec.ofNat 32 offset) s.hck.time then ⟨s.hck.time, false⟩
          else ⟨t + BitVec.ofNat 32 offset, false⟩)) ∧
      ((∀ t, (mark, t) ∉ s.hck.marks) → s.convert mark offset = ⟨s.hck.time, true⟩)

/-- BEAM items of the two speed cells: the cell times, the held list with the earliest held time that is later than the cell A time,
and the speed (R126, R127, R128). Of two equal held times the one held first is the model's choice (log 31). -/
def Obligations.SpeedCellsMeasure : Prop :=
  ∀ (now : Time) (seg : Seg) (source seq sensor mark high low : Byte) (s u : State) (slot : Slot) (e : EdgeTime)
    (k : Fin 4) (r : JumpRecord),
    high.toNat * 256 + low.toNat ≤ 9999 → u = slotEnded seg now s → e = u.convert mark (high.toNat * 256 + low.toNat) →
    OneActive u.jtb → u.jtb.get k = some r → r.state = .inRun →
    (Slotted s seg source .cellA slot →
      (¬(r.cellATime = none ∧ ∃ g, r.gateLeftTime = some g ∧ atOrAfter e.time g = true) →
        exec (.edgeFrame now seg source seq (1 :: itemBytes 1 sensor mark high low)) s =
          mirrored slot seg 0x12 seq (1 :: itemBytes 1 sensor mark high low) u) ∧
      (∀ g, r.cellATime = none → r.gateLeftTime = some g → atOrAfter e.time g = true →
        (∀ b ∈ u.flu.heldB, earlierThan e.time b.time = false) →
        exec (.edgeFrame now seg source seq (1 :: itemBytes 1 sensor mark high low)) s =
          mirrored slot seg 0x12 seq (1 :: itemBytes 1 sensor mark high low)
            { u with
              flu := { u.flu with heldB := [] }
              jtb := u.jtb.set k (some (noted e { r with cellATime := some e.time })) }) ∧
      ∀ g before b behind, r.cellATime = none → r.gateLeftTime = some g → atOrAfter e.time g = true →
        u.flu.heldB = before ++ b :: behind → earlierThan e.time b.time = true →
        (∀ y ∈ before, earlierThan e.time y.time = true → (b.time - e.time).toNat < (y.time - e.time).toNat) →
        (∀ y ∈ behind, earlierThan e.time y.time = true → (b.time - e.time).toNat ≤ (y.time - e.time).toNat) →
        ∃ t, exec (.edgeFrame now seg source seq (1 :: itemBytes 1 sensor mark high low)) s = .next t ∧
          ButShown
            { u with
              flu := { u.flu with heldB := [] }
              jtb := u.jtb.set k (some (noted b { noted e { r with cellATime := some e.time } with
                cellBTime := some b.time, speed := speedBetween u.tables.hill e.time b.time })) } t ∧
          ∀ v, speedBetween u.tables.hill e.time b.time = some v →
            t.dsp.current = some (recordPage u.tables.competitors u.stu.gate { r with speed := some v })) ∧
    (Slotted s seg source .cellB slot →
      (∀ a, r.cellBTime = none → r.cellATime = some a → laterThan e.time a = true →
        ∃ t, exec (.edgeFrame now seg source seq (1 :: itemBytes 1 sensor mark high low)) s = .next t ∧
          ButShown
            { u with
              flu := { u.flu with heldB := [] }
              jtb := u.jtb.set k (some (noted e { r with
                cellBTime := some e.time, speed := speedBetween u.tables.hill a e.time })) } t ∧
          ∀ v, speedBetween u.tables.hill a e.time = some v →
            t.dsp.current = some (recordPage u.tables.competitors u.stu.gate { r with speed := some v })) ∧
      (∀ g, r.cellBTime = none → r.cellATime = none → r.gateLeftTime = some g → atOrAfter e.time g = true →
        u.flu.heldB.length < 4 →
        exec (.edgeFrame now seg source seq (1 :: itemBytes 1 sensor mark high low)) s =
          mirrored slot seg 0x12 seq (1 :: itemBytes 1 sensor mark high low)
            { u with flu := { u.flu with heldB := u.flu.heldB ++ [e] } }) ∧
      (r.cellBTime ≠ none ∨ (∃ a, r.cellATime = some a ∧ laterThan e.time a = false) ∨
          (r.cellATime = none ∧ (4 ≤ u.flu.heldB.length ∨ ∀ g, r.gateLeftTime = some g → atOrAfter e.time g = false)) →
        exec (.edgeFrame now seg source seq (1 :: itemBytes 1 sensor mark high low)) s =
          mirrored slot seg 0x12 seq (1 :: itemBytes 1 sensor mark high low) u))

/-- A BEAM item of the TAKEOFF station: FLIGHT, or ignored, with LATE_DATA only for a jump already given up (R129, R130). -/
def Obligations.TakeoffStartsFlight : Prop :=
  ∀ (now : Time) (seg : Seg) (source seq sensor mark high low : Byte) (s u : State) (slot : Slot) (e : EdgeTime),
    Slotted s seg source .takeoff slot → high.toNat * 256 + low.toNat ≤ 9999 → u = slotEnded seg now s →
    e = u.convert mark (high.toNat * 256 + low.toNat) → OneActive u.jtb → RecordsInRound u →
    (∀ k r g, u.jtb.get k = some r → r.state = .inRun → r.gateLeftTime = some g →
      (atOrAfter e.time g = true ∧ (∀ b, r.cellBTime = some b → atOrAfter e.time b = true) →
        ∃ t, exec (.edgeFrame now seg source seq (1 :: itemBytes 1 sensor mark high low)) s = .next t ∧
          ButShown
            { u with
              jtb := u.jtb.set k (some (entered .flight (noted e { r with takeoffTime := some e.time })))
              flu := ⟨[], none, none, 0, 0⟩
              stu := { u.stu with lamp := .red }
              lsc := { u.lsc with lampSlot := .red } } t) ∧
      (¬(atOrAfter e.time g = true ∧ ∀ b, r.cellBTime = some b → atOrAfter e.time b = true) →
        exec (.edgeFrame now seg source seq (1 :: itemBytes 1 sensor mark high low)) s =
          mirrored slot seg 0x12 seq (1 :: itemBytes 1 sensor mark high low) u)) ∧
    ((∀ k r, u.jtb.get k = some r → r.state ≠ .inRun) →
      ((∃ k r, u.jtb.get k = some r ∧ r.takeoffTime = none ∧
          (r.state = .measuring ∨ r.state = .marking ∨ r.state = .held)) →
        exec (.edgeFrame now seg source seq (1 :: itemBytes 1 sensor mark high low)) s =
          mirrored slot seg 0x12 seq (1 :: itemBytes 1 sensor mark high low) (u.raise .lateData slot.entry.addr)) ∧
      ((∀ k r, u.jtb.get k = some r → r.state = .measuring ∨ r.state = .marking ∨ r.state = .held →
          r.takeoffTime ≠ none) →
        exec (.edgeFrame now seg source seq (1 :: itemBytes 1 sensor mark high low)) s =
          mirrored slot seg 0x12 seq (1 :: itemBytes 1 sensor mark high low) u))

/-- CONTACT items: unfit, outside the landing window, the first counting contact, and a replacement of the candidate (R125, R131,
R132, R133). -/
def Obligations.ContactsLand : Prop :=
  ∀ (now : Time) (seg : Seg) (source seq sensor mark high low : Byte) (s u : State) (slot : Slot) (e : EdgeTime)
    (m n : Nat),
    Slotted s seg source .landing slot → high.toNat * 256 + low.toNat ≤ 9999 → u = slotEnded seg now s →
    e = u.convert mark (high.toNat * 256 + low.toNat) → OneActive u.jtb → RecordsInRound u →
    (∃ x, stationAt u.tables.stations slot.entry.addr = some x ∧ x.role = .landing m n) →
    ((n ≤ sensor.toNat ∨ ∀ x ∈ u.tables.distance, ¬(x.moduleIndex = m ∧ x.sensor = sensor.toNat)) →
      exec (.edgeFrame now seg source seq (1 :: itemBytes 3 sensor mark high low)) s =
        mirrored slot seg 0x12 seq (1 :: itemBytes 3 sensor mark high low)
          (u.raise .stationDataBad slot.entry.addr)) ∧
    ∀ d, sensor.toNat < n →
      u.tables.distance.find? (fun x => decide (x.moduleIndex = m ∧ x.sensor = sensor.toNat)) = some d →
      ((∀ k r t0, u.jtb.get k = some r → r.state = .flight ∨ r.state = .landing → r.takeoffTime = some t0 →
          inWindow e.time (after t0 (u.tables.hill.flightMin * 10)) (after t0 (u.tables.hill.flightMax * 10)) = false) →
        exec (.edgeFrame now seg source seq (1 :: itemBytes 3 sensor mark high low)) s =
          mirrored slot seg 0x12 seq (1 :: itemBytes 3 sensor mark high low) u) ∧
      ∀ k r t0, u.jtb.get k = some r → r.takeoffTime = some t0 →
        inWindow e.time (after t0 (u.tables.hill.flightMin * 10)) (after t0 (u.tables.hill.flightMax * 10)) = true →
        (r.state = .flight →
          ∃ t, exec (.edgeFrame now seg source seq (1 :: itemBytes 3 sensor mark high low)) s = .next t ∧
            ButShown
              { u with
                jtb := u.jtb.set k (some (entered .landing (noted e r)))
                flu := ⟨[], none, some ⟨e.time, d.distance⟩, now, 0⟩
                stu := { u.stu with lamp := .red }
                lsc := { u.lsc with lampSlot := .red } } t) ∧
        ∀ c, r.state = .landing → u.flu.candidate = some c →
          (earlierThan e.time c.time = true ∨ (e.time = c.time ∧ d.distance < c.distance) →
            exec (.edgeFrame now seg source seq (1 :: itemBytes 3 sensor mark high low)) s =
              mirrored slot seg 0x12 seq (1 :: itemBytes 3 sensor mark high low)
                { u with
                  jtb := u.jtb.set k (some (noted e r))
                  flu := { u.flu with candidate := some ⟨e.time, d.distance⟩ } }) ∧
          (¬(earlierThan e.time c.time = true ∨ (e.time = c.time ∧ d.distance < c.distance)) →
            exec (.edgeFrame now seg source seq (1 :: itemBytes 3 sensor mark high low)) s =
              mirrored slot seg 0x12 seq (1 :: itemBytes 3 sensor mark high low) u)

/-- The in-run expiry gives a record up: HELD for its distance, NO_WIND, wind close done, the marks window from this hill time
(R130, R157). -/
def Obligations.InRunExpiryHolds : Prop :=
  ∀ (now : Time) (s : State) (k : Fin 4) (r : JumpRecord), s.heldInReset = false → OneActive s.jtb → RecordsInRound s →
    s.flu.inRunExpiry = some now → s.jtb.get k = some r → r.state = .inRun →
    1 ≤ s.tables.hill.marksWindow → s.tables.hill.marksWindow ≤ 120 →
    r.finalDistance = none → r.marksLocked = false → r.marksOverdue = false →
    ∃ t, exec (.inRunExpiry now) s = .next t ∧
      ButShown
        { s with
          hck := { s.hck with time := now }
          jtb := s.jtb.set k (some { r with
            state := .held
            needs := ⟨true, false⟩
            windCloseDone := true
            flags := { r.flags with noWind := true }
            confirmExpiry := none
            marksExpiry := some (after now (s.tables.hill.marksWindow * 10000)) })
          flu := ⟨[], none, none, 0, 0⟩
          stu := { s.stu with lamp := .red }
          lsc := { s.lsc with lampSlot := .red } } t ∧
      t.conditions.jumpHeld.v = true ∧
      (s.enables.jump = true → s.office.count < 60 →
        Reported t (.jump r.bib (some k) (some .held) .advance ⟨true, false⟩ { r.flags with noWind := true }))

/-- The settle of a landing and the flight expiry, each at a cycle start, take the record to MEASURING, with its wind close taken
when due, and on from there with confirm window 0 (R134, R135, R136, R144, R145, R157). -/
def Obligations.MeasuringIsEntered : Prop :=
  ∀ (now : Time) (s : State) (k : Fin 4) (r : JumpRecord) (t0 first : Time) (mark : Byte) (older : List (Byte × Time)),
    s.heldInReset = false → OneActive s.jtb → RecordsInRound s → s.jtb.get k = some r → r.takeoffTime = some t0 →
    s.hck.marks = (mark, now) :: older → r.windCloseDone = false →
    r.finalDistance = none → r.landingTime = none → first = t0 - BitVec.ofNat 32 (s.tables.hill.lead * 10) →
    (∀ c, r.state = .landing → s.flu.candidate = some c →
      (s.flu.settleCount ≠ 2 → exec (.landingSettle now) s = .next (s.setNow now).pumpOffice) ∧
      (s.flu.settleCount = 2 →
        ∃ t x, exec (.landingSettle now) s = .next t ∧
          AtMeasuring now first c.time c.time s
            { r with landingTime := some c.time, preliminary := some c.distance, landingSource := .array } x ∧
          EnteredMeasuring now k x s t ∧
          (1 ≤ s.tables.hill.confirmWindow →
            t.dsp.current =
              some (recordPage s.tables.competitors s.stu.gate { r with preliminary := some c.distance })))) ∧
    (r.state = .flight →
      (atOrAfter now (after t0 (s.tables.hill.flightMax * 10 + 2000)) = false →
        exec (.flightExpiry now) s = .next (s.setNow now).pumpOffice) ∧
      (atOrAfter now (after t0 (s.tables.hill.flightMax * 10 + 2000)) = true →
        ∃ t x, exec (.flightExpiry now) s = .next t ∧
          AtMeasuring now first (after t0 (s.tables.hill.flightMax * 10)) now s
            { r with flags := { r.flags with landingEstimated := true } } x ∧
          EnteredMeasuring now k x s t))

/-- Wind close at a cycle start: not before the deadline; then the wind means of the stations with a weight and an entry in the
window, and the wind close done flag; with its final distance set the record is complete (R143, R144, R145, R147, R148, R149). -/
def Obligations.WindCloseListsMeans : Prop :=
  ∀ (now : Time) (s : State) (k : Fin 4) (r : JumpRecord) (t0 : Time) (mark : Byte) (older : List (Byte × Time))
    (first last : Time),
    s.heldInReset = false → s.jtb.get k = some r → r.state = .measuring → r.takeoffTime = some t0 →
    r.windCloseDone = false → s.hck.marks = (mark, now) :: older →
    first = t0 - BitVec.ofNat 32 (s.tables.hill.lead * 10) →
    last = r.landingTime.getD (after t0 (s.tables.hill.flightMax * 10)) →
    (atOrAfter now (after last 1000) = false → exec (.windClose now k) s = .next (s.setNow now).pumpOffice) ∧
    (atOrAfter now (after last 1000) = true →
      ∃ means, WindMeansOver s first last means ∧
        (r.finalDistance = none →
          exec (.windClose now k) s =
            .next (State.pumpOffice
              { s with
                hck := { s.hck with time := now }
                jtb := s.jtb.set k (some { r with windMeans := means, windCloseDone := true }) })) ∧
        ∀ d, r.finalDistance = some d →
          ∃ t, exec (.windClose now k) s = .next t ∧ OnRecord now k s t ∧
            Completed k (withWind s.tables.stations d { r with windMeans := means, windCloseDone := true }) s t)

/-- The final distance from the console and from the office (R138, R140, and by way of them R137, R147, R148, R149, R70). -/
def Obligations.FinalDistanceTaken : Prop :=
  (∀ (now : Time) (seq : Byte) (bib distance : Half) (s : State) (o : Option Status), Listens s →
    FirstOf
      [(¬(1 ≤ bib.toNat ∧ bib.toNat ≤ 999) ∨ 600 < distance.toNat, .badValue),
        (∀ k r, s.jtb.get k = some r → r.bib ≠ bib.toNat, .notFound),
        (∀ k r, s.jtb.holding bib.toNat = some (k, r) →
          ¬((r.state = .measuring ∧ r.finalDistance = none) ∨ (r.state = .held ∧ r.needs.distance = true)),
          .wrongState)] o →
    (∀ status, o = some status → exec (.enterDistance now seq bib distance) s = refused now seq 0x34 status s) ∧
      ∀ k r, o = none → s.jtb.holding bib.toNat = some (k, r) →
        ∃ t, exec (.enterDistance now seq bib distance) s = .next t ∧
          Answered t seq 0x34 (.distanceSet k ((t.jtb.get k).map (·.state))) ∧
          TookDistance now k r distance.toNat .office s t) ∧
  ∀ (now : Time) (seg : Seg) (source seq bh bl dh dl : Byte) (s u : State) (slot : Slot) (bib d : Nat),
    Slotted s seg source .dist slot → bib = bh.toNat * 256 + bl.toNat → d = dh.toNat * 256 + dl.toNat →
    1 ≤ bib → bib ≤ 999 → d ≤ 600 → u = slotEnded seg now s →
    ((∀ k r, u.jtb.holding bib = some (k, r) →
        ¬((r.state = .measuring ∧ r.finalDistance = none) ∨ (r.state = .held ∧ r.needs.distance = true))) →
      exec (.distFrame now seg source seq [bh, bl, dh, dl]) s =
        mirrored slot seg 0x16 seq [bh, bl, dh, dl] (u.raise .lateData slot.entry.addr)) ∧
    ∀ k r, u.jtb.holding bib = some (k, r) →
      ((r.state = .measuring ∧ r.finalDistance = none) ∨ (r.state = .held ∧ r.needs.distance = true)) →
      ∃ t, exec (.distFrame now seg source seq [bh, bl, dh, dl]) s = .next t ∧ TookDistance now k r d .console u t

/-- The confirm expiry: the preliminary distance becomes final with auto-confirm, and otherwise the record is held. The marks window
expiry: the marks overdue flag, MARKING to HELD, and MARKS among the needs of a HELD record (R68, R139, R158). -/
def Obligations.WindowsEnd : Prop :=
  (∀ (now : Time) (s : State) (k : Fin 4) (r : JumpRecord), s.heldInReset = false → s.jtb.get k = some r →
    r.state = .measuring → r.confirmExpiry = some now → r.finalDistance = none →
    (∀ d, s.tables.hill.autoConfirm = true → r.preliminary = some d →
      ∃ t, exec (.confirmExpiry now k) s = .next t ∧ TookDistance now k r d .array s t) ∧
    (s.tables.hill.autoConfirm = false ∨ r.preliminary = none →
      ∃ t, exec (.confirmExpiry now k) s = .next t ∧ OnRecord now k s t ∧
        t.jtb = s.jtb.set k (some { r with
          state := .held, needs := ⟨true, r.marksOverdue && !r.marksLocked⟩, confirmExpiry := none }) ∧
        t.results = s.results ∧ t.startList = s.startList ∧ t.conditions.jumpHeld.v = true ∧
        (s.enables.jump = true → s.office.count < 60 →
          Reported t (.jump r.bib (some k) (some .held) .advance ⟨true, r.marksOverdue && !r.marksLocked⟩ r.flags)))) ∧
  (∀ (now : Time) (s : State) (k : Fin 4) (r : JumpRecord), s.heldInReset = false → s.jtb.get k = some r →
    r.marksExpiry = some now → r.marksLocked = false →
    ∃ t, exec (.marksWindowExpiry now k) s = .next t ∧ OnRecord now k s t ∧
      t.results = s.results ∧ t.startList = s.startList ∧
      (r.state = .marking →
        t.jtb = s.jtb.set k (some { r with
          state := .held, needs := ⟨decide (r.finalDistance = none), true⟩, marksOverdue := true, marksExpiry := none,
          confirmExpiry := none }) ∧
        (s.enables.jump = true → s.office.count < 60 →
          Reported t (.jump r.bib (some k) (some .held) .advance ⟨decide (r.finalDistance = none), true⟩ r.flags))) ∧
      (r.state = .held →
        t.jtb = s.jtb.set k (some { r with
          needs := ⟨decide (r.finalDistance = none), true⟩, marksOverdue := true, marksExpiry := none }) ∧
        (r.needs.marks = false → s.enables.jump = true → s.office.count < 60 →
          Reported t (.jump r.bib (some k) (some .held) .needs ⟨decide (r.finalDistance = none), true⟩ r.flags))) ∧
      (r.state ≠ .marking → r.state ≠ .held →
        t.jtb = s.jtb.set k (some { r with marksOverdue := true, marksExpiry := none })))

/-! ### Marks, points and results -/

/-- A mark from a judge console and from the office: its refusals, the seat it fills, and the lock at the fifth (R154, R155,
R156). -/
def Obligations.MarksAreTaken : Prop :=
  (∀ (now : Time) (seq : Byte) (bib : Half) (seat mark : Byte) (s : State) (o : Option Status), Listens s →
    FirstOf
      [(¬(1 ≤ bib.toNat ∧ bib.toNat ≤ 999) ∨ ¬(1 ≤ seat.toNat ∧ seat.toNat ≤ 5) ∨ 40 < mark.toNat, .badValue),
        (∀ k r, s.jtb.get k = some r → r.bib ≠ bib.toNat, .notFound),
        (∀ k r, s.jtb.holding bib.toNat = some (k, r) →
          r.marksLocked = true ∨
            ¬(r.state = .landing ∨ r.state = .measuring ∨ r.state = .marking ∨ r.state = .held), .wrongState)] o →
    (∀ status, o = some status → exec (.enterMark now seq bib seat mark) s = refused now seq 0x35 status s) ∧
      ∀ k r n, o = none → s.jtb.holding bib.toNat = some (k, r) →
        n = ((r.marks.set seat.toNat mark.toNat).toList.filter (·.isSome)).length →
        ∃ t, exec (.enterMark now seq bib seat mark) s = .next t ∧
          Answered t seq 0x35 (.markSet k n (decide (n = 5)) ((t.jtb.get k).map (·.state))) ∧
          TookMark now k r seat.toNat mark.toNat s t) ∧
  ∀ (now : Time) (seg : Seg) (source seq bh bl mark : Byte) (s u : State) (slot : Slot) (bib seat : Nat),
    Slotted s seg source (.judge) slot → bib = bh.toNat * 256 + bl.toNat → 1 ≤ bib → bib ≤ 999 → mark.toNat ≤ 40 →
    u = slotEnded seg now s →
    (∃ x, stationAt u.tables.stations slot.entry.addr = some x ∧ x.role = .judge seat) → 1 ≤ seat → seat ≤ 5 →
    ((∀ k r, u.jtb.holding bib = some (k, r) →
        r.marksLocked = true ∨ ¬(r.state = .landing ∨ r.state = .measuring ∨ r.state = .marking ∨ r.state = .held)) →
      exec (.styleFrame now seg source seq [bh, bl, mark]) s =
        mirrored slot seg 0x15 seq [bh, bl, mark] (u.raise .lateData slot.entry.addr)) ∧
    ∀ k r, u.jtb.holding bib = some (k, r) → r.marksLocked = false →
      (r.state = .landing ∨ r.state = .measuring ∨ r.state = .marking ∨ r.state = .held) →
      ∃ t, exec (.styleFrame now seg source seq [bh, bl, mark]) s = .next t ∧ TookMark now k r seat mark.toNat u t

/-- The fifth mark of a measured record in MARKING scores it: the result entry and its totals, at their place in the results list,
with the jump and result reports, and the CURRENT and the LEADERS page of the result to every board that shows them (R155, R159, R160,
R165, R166, R167, R169, R172, R174, R175). -/
def Obligations.FifthMarkScores : Prop :=
  ∀ (now : Time) (seq : Byte) (bib : Half) (seat mark : Byte) (s : State) (k : Fin 4) (r : JumpRecord) (d g : Nat)
    (old : ResultEntry) (p : Points),
    Listens s → 1 ≤ bib.toNat → bib.toNat ≤ 999 → 1 ≤ seat.toNat → seat.toNat ≤ 5 → mark.toNat ≤ 40 →
    s.jtb.holding bib.toNat = some (k, r) → r.state = .marking → r.marksLocked = false → r.finalDistance = some d →
    (r.marks.set seat.toNat mark.toNat).held = 5 → s.stu.roundReference = some g →
    old = (entryOf s.results bib.toNat).getD ⟨bib.toNat, none, none, .ok, none⟩ →
    p = pointsOf s.tables.hill g { r with marks := r.marks.set seat.toNat mark.toNat } d →
    ∃ t e, exec (.enterMark now seq bib seat mark) s = .next t ∧
      Answered t seq 0x35 (.markSet k 5 true none) ∧ OnRecord now k s t ∧ t.jtb = s.jtb.set k none ∧
      t.dsp = { s.dsp with
        current := some (entryPage s.tables.competitors t.results e)
        leaders := leadersOf s.tables.competitors t.results } ∧
      t.lsc.segS.queue =
        pageShown t.dsp s.tables.stations .leaders (pageShown t.dsp s.tables.stations .current s.lsc.segS.queue) ∧
      (∀ x, x ∈ t.results ↔ x = e ∨ (x ∈ s.results ∧ x.bib ≠ bib.toNat)) ∧
      (s.results.Pairwise StandsBefore → t.results.Pairwise StandsBefore) ∧
      t.results.filter (fun x => decide (x.bib ≠ bib.toNat)) = s.results.filter (fun x => decide (x.bib ≠ bib.toNat)) ∧
      (((r.flags.early = true ∨ r.flags.late = true) ∧ r.flags.reinstated = false) →
        e = { old with status := .dsq, detail := some ⟨r.round, d, r.speed, r.gate, none⟩ } ∧
          t.startList = s.startList.erase bib.toNat) ∧
      (¬((r.flags.early = true ∨ r.flags.late = true) ∧ r.flags.reinstated = false) →
        e = { old with
            round1 := if r.round = 1 then some p.roundTotal else old.round1
            round2 := if r.round = 1 then old.round2 else some p.roundTotal
            detail := some ⟨r.round, d, r.speed, r.gate, some p⟩ } ∧
          t.startList = s.startList) ∧
      (s.enables.jump = true → s.enables.result = true → s.office.count + 3 < 60 →
        Reported t (.jump r.bib (some k) none .scored .none r.flags) ∧
          Reported t (.result e (rankAmong t.results e) (some r.flags)))

/-- The parts of a score: distance points, gate compensation, style, wind compensation and the clamped total; and the stations a
wind value is formed from, and the value (R146, R147, R150, R151, R161, R162, R163, R164). -/
def Obligations.ScorePartsAndWind : Prop :=
  (∀ (h : HillTable) (reference : Nat) (r : JumpRecord) (d gate m1 m2 m3 m4 m5 : Nat) (p : Points),
    h.m % 2 = 0 → r.gate = some gate →
    r.marks = ⟨some m1, some m2, some m3, some m4, some m5⟩ → m1 ≤ 40 → m2 ≤ 40 → m3 ≤ 40 → m4 ≤ 40 → m5 ≤ 40 →
    p = pointsOf h reference r d →
    (p.distancePoints : Int) = max 0 ((h.b : Int) + ((d : Int) - h.k) * (h.m / 2 : Nat)) ∧
    p.style = (m1 + m2 + m3 + m4 + m5 - max m1 (max m2 (max m3 (max m4 m5))) -
      min m1 (min m2 (min m3 (min m4 m5)))) * 5 ∧ p.style ≤ 600 ∧
    (∀ used, (if r.coachRequest = true ∧ d < h.coachThreshold then r.juryGate else some gate) = some used →
      p.gateComp = max (-2000) (min 2000 (roundDiv (((reference : Int) - used) * h.g) 10))) ∧
    (r.windValue = none → p.windComp = 0) ∧
    (∀ w, r.windValue = some w → 0 ≤ w →
      p.windComp = max (-2000) (min 2000 (roundDiv (-(w * h.headFactor)) 1000))) ∧
    (∀ w, r.windValue = some w → w < 0 →
      p.windComp = max (-2000) (min 2000 (roundDiv (-(w * h.tailFactor)) 1000))) ∧
    (p.roundTotal : Int) = max 0 (min 30000 ((p.distancePoints : Int) + p.style + p.gateComp + p.windComp))) ∧
  (∀ (stations : List StationEntry) (items : List WindMean) (d : Nat),
    (∀ m w, (m, w) ∈ included stations items d ↔
      m ∈ items ∧ windPlaceOf stations m.index = some w ∧
        (w.slope ≤ d ∨
          ∀ x y, x ∈ items → windPlaceOf stations x.index = some y → d < y.slope → w.slope ≤ y.slope)) ∧
    (included stations items d = [] ↔ ∀ m ∈ items, windPlaceOf stations m.index = none) ∧
    (included stations items d = [] → windValueOf (included stations items d) = none) ∧
    (included stations items d ≠ [] →
      windValueOf (included stations items d) =
        some (roundDiv ((included stations items d).map fun x => (x.2.weight : Int) * x.1.mean).sum
          ((included stations items d).map fun x => x.2.weight).sum)))

/-- A division rounded half away from zero gives the nearest integer, and of two as near the one farther from zero (R142). -/
def Obligations.DivisionRounds : Prop :=
  ∀ (n : Int) (d : Nat) (q : Int), 0 < d → q = roundDiv n d →
    (∀ z : Int, (n - q * d).natAbs ≤ (n - z * d).natAbs) ∧
      ∀ z : Int, (n - q * d).natAbs = (n - z * d).natAbs → z.natAbs ≤ q.natAbs

/-- DISQUALIFY: its refusals, the record freed without a return, the result entry at DSQ, and the CURRENT and LEADERS images and pages
of a changed entry, with the COUNTDOWN page of an on-bar record (R58, R73, R166, R172, R174, R175, R176). That the COUNTDOWN page is
offered after the two others is the model's choice (log 18). -/
def Obligations.DisqualifyMarksEntry : Prop :=
  ∀ (now : Time) (seq : Byte) (bib : Half) (s : State) (o : Option Status), Listens s →
    FirstOf
      [(¬(1 ≤ bib.toNat ∧ bib.toNat ≤ 999), .badValue),
        ((∀ k r, s.jtb.get k = some r → r.bib ≠ bib.toNat) ∧ ∀ e ∈ s.results, e.bib ≠ bib.toNat, .notFound)] o →
    (∀ status, o = some status → exec (.disqualify now seq bib) s = refused now seq 0x37 status s) ∧
    (o = none →
      ∃ t e, exec (.disqualify now seq bib) s = .next t ∧ entryOf t.results bib.toNat = some e ∧ e.status = .dsq ∧
        (∀ x, x.bib ≠ bib.toNat → (x ∈ t.results ↔ x ∈ s.results)) ∧
        (∀ old, entryOf s.results bib.toNat = some old →
          e = { old with status := .dsq } ∧
            (old.status = .dsq → t.results = s.results ∧ t.startList = s.startList)) ∧
        (entryOf s.results bib.toNat = none → e = ⟨bib.toNat, none, none, .dsq, none⟩) ∧
        (e ∉ s.results →
          t.startList = s.startList.erase bib.toNat ∧
            t.dsp.current = some (entryPage s.tables.competitors t.results e) ∧
            t.dsp.leaders = leadersOf s.tables.competitors t.results ∧
            ∀ q, q = pageShown t.dsp s.tables.stations .leaders (pageShown t.dsp s.tables.stations .current s.lsc.segS.queue) →
              ((∀ k r, s.jtb.holding bib.toNat = some (k, r) → r.state.onBar = false) → t.lsc.segS.queue = q) ∧
                ∀ k r, s.jtb.holding bib.toNat = some (k, r) → r.state.onBar = true →
                  t.lsc.segS.queue = pageShown t.dsp s.tables.stations .countdown q) ∧
        (∀ old, entryOf s.results bib.toNat = some old → old.status = .dsq →
          t.dsp.current = s.dsp.current ∧ t.dsp.leaders = s.dsp.leaders) ∧
        (∀ k r, s.jtb.holding bib.toNat = some (k, r) → r.state.onBar = true →
          t.dsp.countdownSeconds = 0 ∧ t.dsp.countdownLamp = t.stu.lamp ∧ t.dsp.countdownExpiry = none) ∧
        (∀ k r, s.jtb.holding bib.toNat = some (k, r) →
          Answered t seq 0x37
              (.disqualified (some k)
                (match entryOf s.results bib.toNat with
                  | none => .created
                  | some x => if x.status = .dsq then .unchanged else .changed)) ∧
            (s.enables.jump = true → s.office.count + 1 < 60 →
              Reported t (.jump r.bib (some k) none .disqualified .none r.flags)) ∧
            ButShown
              { s with
                hck := { s.hck with time := now }
                jtb := s.jtb.set k none
                results := t.results
                startList := t.startList
                stu := { (if r.state.onBar then barLeft s.stu else s.stu) with lamp := t.stu.lamp }
                lsc := { s.lsc with lampSlot := t.stu.lamp }
                flu := if r.state.onCourse then .idle else s.flu } t) ∧
        ((∀ k r, s.jtb.get k = some r → r.bib ≠ bib.toNat) →
          Answered t seq 0x37
              (.disqualified none
                (match entryOf s.results bib.toNat with
                  | none => .created
                  | some x => if x.status = .dsq then .unchanged else .changed)) ∧
            ButShown
              { s with
                hck := { s.hck with time := now }
                results := t.results
                startList := t.startList } t))

/-- R74: REINSTATE sets the REINSTATED flag of a record with EARLY or LATE, and nothing else; such a record is not scored DSQ. -/
def Obligations.ReinstateSetsFlag : Prop :=
  (∀ (now : Time) (seq : Byte) (bib : Half) (s : State) (o : Option Status), Listens s →
    FirstOf
      [(¬(1 ≤ bib.toNat ∧ bib.toNat ≤ 999), .badValue),
        (∀ k r, s.jtb.get k = some r → r.bib ≠ bib.toNat, .notFound),
        (∀ k r, s.jtb.holding bib.toNat = some (k, r) → r.flags.early = false ∧ r.flags.late = false, .wrongState)] o →
    (∀ status, o = some status → exec (.reinstate now seq bib) s = refused now seq 0x38 status s) ∧
      ∀ k r, o = none → s.jtb.holding bib.toNat = some (k, r) →
        exec (.reinstate now seq bib) s =
          .next (replied now seq 0x38 .ok (.reinstated k r.state { r.flags with reinstated := true })
            { s with jtb := s.jtb.set k (some { r with flags := { r.flags with reinstated := true } }) })) ∧
    ∀ r : JumpRecord, r.flags.reinstated = true → r.isDsq = false

/-! ### Tables and stored settings -/

/-- LOAD_BEGIN opens the load buffer and LOAD_DATA fills it, each with its refusals (R192). -/
def Obligations.LoadBufferFills : Prop :=
  ∀ (now : Time) (seq : Byte) (s : State), Listens s →
    (∀ (table : Byte) (length : Half) (o : Option Status),
      FirstOf [(¬(1 ≤ table.toNat ∧ table.toNat ≤ 6) ∨ ¬(1 ≤ length.toNat ∧ length.toNat ≤ 4098), .badValue)] o →
      ∃ code : TableCode, (o = none → code.code = table.toNat) ∧
        exec (.loadBegin now seq table length) s =
          answered now seq 0x05 o (.loadOpened table.toNat length.toNat) s
            { s with loadBuffer := some ⟨code, length.toNat, []⟩ }) ∧
    ∀ (offset : Half) (data : List Byte), 1 ≤ data.length → data.length ≤ 117 →
      (s.loadBuffer = none → exec (.loadData now seq offset data) s = refused now seq 0x06 .wrongState s) ∧
      ∀ (b : LoadBuffer) (o : Option Status), s.loadBuffer = some b →
        FirstOf
          [(b.content.length < offset.toNat, .badValue), (b.length < offset.toNat + data.length, .badValue)] o →
        ∃ content, exec (.loadData now seq offset data) s =
            answered now seq 0x06 o (.loadFill (max b.content.length (offset.toNat + data.length))) s
              { s with loadBuffer := some ⟨b.table, b.length, content⟩ } ∧
          (o = none →
            content.length = max b.content.length (offset.toNat + data.length) ∧
              ∀ i, content[i]? =
                if offset.toNat ≤ i ∧ i < offset.toNat + data.length then data[i - offset.toNat]? else b.content[i]?)

/-- LOAD_END: the checks in order, the buffer closed from the third on, and the table that becomes active; what a HILL swap does to
the wind states and a STATIONS swap to presence, both downstream queues, the open slots, the wind contexts, GATE_FROZEN, the light,
its echo run and the dropped stations besides (R9, R13, R25, R43, R79, R91, R92, R101, R118, R120, R193). Which of several
contexts that a HILL swap changes is named first is the model's choice (log 30). -/
def Obligations.LoadEndSwapsTable : Prop :=
  ∀ (now : Time) (seq : Byte) (s : State), Listens s →
    (s.loadBuffer = none → exec (.loadEnd now seq) s = refused now seq 0x07 .wrongState s) ∧
    ∀ b : LoadBuffer, s.loadBuffer = some b →
      (s.engine ≠ none → exec (.loadEnd now seq) s = refused now seq 0x07 .busy s) ∧
      (s.engine = none →
        (b.content.length < b.length ∨ tableOfImage s.tables.stations b.table b.content = none →
          exec (.loadEnd now seq) s = refused now seq 0x07 .badValue { s with loadBuffer := none }) ∧
        ∀ (x : LoadedTable) (o : Option Status), b.length ≤ b.content.length →
          tableOfImage s.tables.stations b.table b.content = some x →
          FirstOf
            [(RoundOpen s ∧ ((∃ h, x = .hill h) ∨ ∃ d, x = .distance d), .locked),
              (RoundOpen s ∧ ∃ n, x = .stations n ∧
                ¬∀ w, w ∈ windPlaces n ↔ w ∈ windPlaces s.tables.stations, .locked),
              (∃ c, x = .competitors c ∧
                ∃ bib, (bib ∈ s.startList ∨ bib ∈ recordBibs s ∨ ∃ e ∈ s.results, e.bib = bib) ∧
                  ∀ y ∈ c, y.bib ≠ bib, .wrongState)] o →
          (∀ status, o = some status →
            exec (.loadEnd now seq) s = refused now seq 0x07 status { s with loadBuffer := none }) ∧
          (o = none →
            (∀ n, x = .schedT n →
              exec (.loadEnd now seq) s =
                .next (replied now seq 0x07 .ok (.tableLoaded b.table.code b.length)
                  { s with loadBuffer := none, tables := { s.tables with schedT := n } })) ∧
            (∀ n, x = .schedS n →
              exec (.loadEnd now seq) s =
                .next (replied now seq 0x07 .ok (.tableLoaded b.table.code b.length)
                  { s with loadBuffer := none, tables := { s.tables with schedS := n } })) ∧
            (∀ n, x = .distance n →
              exec (.loadEnd now seq) s =
                .next (replied now seq 0x07 .ok (.tableLoaded b.table.code b.length)
                  { s with loadBuffer := none, tables := { s.tables with distance := n } })) ∧
            (∀ n, x = .competitors n →
              exec (.loadEnd now seq) s =
                .next (replied now seq 0x07 .ok (.tableLoaded b.table.code b.length)
                  { s with loadBuffer := none, tables := { s.tables with competitors := n } })) ∧
            (∀ n, x = .hill n →
              ∃ t, exec (.loadEnd now seq) s = .next t ∧ Answered t seq 0x07 (.tableLoaded b.table.code b.length) ∧
                t.loadBuffer = none ∧ t.tables = { s.tables with hill := n } ∧
                t.wnd.contexts = s.wnd.contexts.map (fun c =>
                  if n.lostThreshold ≤ c.badRun ∨ c.ring.length < n.lostThreshold then { c with state := .lost } else c) ∧
                WindChanged ((s.wnd.contexts.filter fun c =>
                    decide (c.state ≠ .lost ∧ (n.lostThreshold ≤ c.badRun ∨ c.ring.length < n.lostThreshold))).map
                      (·.index))
                  s.conditions.windChange t.conditions.windChange ∧
                t.wnd.liveWind = s.wnd.liveWind ∧ t.stu = s.stu ∧ t.jtb = s.jtb ∧ t.startList = s.startList ∧
                t.results = s.results ∧ t.competition = s.competition ∧ t.lsc = s.lsc ∧ t.hck.marks = s.hck.marks) ∧
            (∀ n, x = .stations n →
              ∃ t, exec (.loadEnd now seq) s = .next t ∧ Answered t seq 0x07 (.tableLoaded b.table.code b.length) ∧
                t.loadBuffer = none ∧ t.tables = { s.tables with stations := n } ∧
                t.lsc.links.map (·.addr) = n.map (·.addr) ∧
                (∀ e ∈ n, ∀ old l, stationAt n e.addr = some e → stationAt s.tables.stations e.addr = some old →
                  old.role.kind = e.role.kind → linkAt s.lsc.links e.addr = some l → linkAt t.lsc.links e.addr = some l) ∧
                (∀ e ∈ n, stationAt n e.addr = some e →
                  (∀ old, stationAt s.tables.stations e.addr = some old → old.role.kind ≠ e.role.kind) →
                  linkAt t.lsc.links e.addr = some ⟨e.addr, .absent, 0, 0⟩) ∧
                (∀ seg, (t.seg seg).granted = (s.seg seg).granted ∧ (t.seg seg).silentUntil = (s.seg seg).silentUntil ∧
                  ((s.seg seg).slot = none → (t.seg seg).slot = none) ∧
                  ∀ slot, (s.seg seg).slot = some slot →
                    (StandsIn n slot.entry → (t.seg seg).slot = some slot) ∧
                      (¬StandsIn n slot.entry → (t.seg seg).slot = some { slot with orphan := true })) ∧
                t.lsc.segT.queue = s.lsc.segT.queue.filter (staysQueued s.tables.stations n .T) ∧
                t.wnd.liveWind = s.wnd.liveWind ∧ t.wnd.means = s.wnd.means ∧
                (t.wnd.contexts.map (·.index)).Perm ((windPlaces n).map (·.index)) ∧
                (t.wnd.contexts.map (·.index)).Pairwise (· ≤ ·) ∧
                (∀ c ∈ t.wnd.contexts, ∃ w ∈ windPlaces n, w.index = c.index ∧
                  c = (s.wnd.contexts.find? fun y => decide (y.index = w.index ∧ y.bearing = w.bearing)).getD
                    ⟨w.index, w.bearing, [], 0, [], .lost, 0, 0, 0, 0⟩) ∧
                WindChanged ((s.wnd.contexts.filter fun c =>
                    decide (c.state ≠ .lost ∧ (windPlaceOf n c.index).map (·.bearing) ≠ some c.bearing)).map (·.index))
                  s.conditions.windChange t.conditions.windChange ∧
                (t.conditions.gateFrozen.v = true ↔ ¬StationPresent t .gate) ∧
                (LightAway t → t.stu.echoRun = 0 ∧ t.conditions.lampMismatch.v = false) ∧
                (∀ e l, e ∈ s.tables.stations → ¬StandsIn n e → linkAt s.lsc.links e.addr = some l → l.presence ≠ .absent →
                  t.conditions.stationChange.i = true ∧
                    (s.enables.station = true → s.office.count + 1 + 4 * s.tables.stations.length < 60 →
                      Reported t (.station e.addr l.presence .absent)) ∧
                    (e.role.kind = .light → t.stu.echoRun = 0 ∧ t.conditions.lampMismatch.v = false) ∧
                    ∀ k r, e.role.kind = .light → l.presence = .present → OneActive s.jtb → s.jtb.get k = some r →
                      r.state = .cleared ∨ r.state = .green →
                      t.jtb = s.jtb.set k none ∧ t.startList = r.bib :: s.startList) ∧
                ((∀ e ∈ s.tables.stations, e.role.kind = .light → StandsIn n e) →
                  t.lsc.segS.queue = s.lsc.segS.queue.filter (staysQueued s.tables.stations n .S) ∧
                    (LightAway t → t.stu = noEcho s.stu) ∧
                    (¬LightAway t → t.stu = s.stu ∧ t.conditions.lampMismatch.v = s.conditions.lampMismatch.v) ∧
                    t.jtb = s.jtb ∧ t.startList = s.startList ∧ t.lsc.lampSlot = s.lsc.lampSlot) ∧
                t.results = s.results ∧ t.competition = s.competition ∧ t.hck.marks = s.hck.marks)))

/-- What READ_TABLE gives, LOAD_END takes: the image of a table that meets its checks reads back as that table (R8, R14, R15, R43,
R124, R194, R195, R196). -/
def Obligations.TableImagesRoundTrip : Prop :=
  (∀ t, stationsValid t = true → stationsOfImage (stationsImage t) = some t) ∧
    (∀ stations port t, stationsValid stations = true → schedValid stations port t = true →
      schedOfImage stations port (schedImage t) = some t) ∧
    (∀ h : HillTable, h.valid = true → hillOfImage h.image = some h ∧ h.image.length = 56) ∧
    (∀ t, distanceValid t = true → distanceOfImage (distanceImage t) = some t) ∧
    ∀ t, competitorsValid t = true → competitorsOfImage (competitorsImage t) = some t

/-- STORE copies the six items as they stand, and its completion writes them and reports pass or fail (R197). That an item not read
back correctly then fails its check, and the others are stored, is the model's choice (log 4). -/
def Obligations.StoreWritesItems : Prop :=
  (∀ (now : Time) (seq : Byte) (s : State) (o : Option Status), Listens s → FirstOf [(s.engine ≠ none, .busy)] o →
    exec (.store now seq) s =
      answered now seq 0x04 o .nothing s
        { s with
          engine := some (StoreJob.mk
            ⟨s.tables.stations, s.tables.schedT, s.tables.schedS, s.tables.hill, s.tables.distance, s.enables⟩ now) }) ∧
  ∀ (now : Time) (x : StoreOutcome) (s : State) (job : StoreJob), s.heldInReset = false → s.engine = some job →
    (now - job.accepted).toNat ≤ 4000 →
    ∃ t, exec (.storeCompletion now x) s = .next t ∧
      t.store =
        ⟨if x.stations then .stored job.items.stations else .failing, if x.schedT then .stored job.items.schedT else .failing,
          if x.schedS then .stored job.items.schedS else .failing, if x.hill then .stored job.items.hill else .failing,
          if x.distance then .stored job.items.distance else .failing,
          if x.enables then .stored job.items.enables else .failing⟩ ∧
      (x = ⟨true, true, true, true, true, true⟩ →
        t.conditions.storeBad.v = false ∧
        (s.conditions.storeResult.i = false → t.conditions.storeResult.argument = 0)) ∧
      (x ≠ ⟨true, true, true, true, true, true⟩ →
        t.conditions.storeBad.v = true ∧
        (s.conditions.storeResult.i = false → t.conditions.storeResult.argument = 1)) ∧
      t.conditions.storeResult.i = true ∧
      ButReports
        { s with
          hck := { s.hck with time := now }
          engine := none
          store := t.store
          conditions := { s.conditions with
            storeBad := t.conditions.storeBad, storeResult := t.conditions.storeResult } } t

/-! ### Resets -/

/-- RESET is refused for an unknown kind; taken, it waits for its own reply to be sent and for a store in flight, and then the reset
takes effect: every unit as Table 12-5 gathers, the store read, what a RESET(KEEP) keeps of the competition, and the bibs that
return in the order of their clear times (R49, R59, R77, R121, R198, R199). Which clear time was stored first (R31) the model knows
by the order of creation (log 32); that a frame in transmission ends and leaves an empty shifter with nothing on the line ahead of
it is the model's choice (log 22, log 9). -/
def Obligations.ResetTakesEffect : Prop :=
  (∀ (now : Time) (seq kind : Byte) (s : State), Listens s →
    (kind.toNat = 1 →
      exec (.reset now seq kind) s =
        .next (replied now seq 0x02 .ok .nothing { s with takenReset := some ⟨false, false⟩ })) ∧
    (kind.toNat = 2 →
      exec (.reset now seq kind) s =
        .next (replied now seq 0x02 .ok .nothing { s with takenReset := some ⟨true, false⟩ })) ∧
    (¬(kind.toNat = 1 ∨ kind.toNat = 2) → exec (.reset now seq kind) s = refused now seq 0x02 .badValue s)) ∧
  ∀ (now : Time) (s : State), s.heldInReset = false →
    (∀ x, s.takenReset = some x → (x.replySent = false ∨ s.engine ≠ none) →
      exec (.resetEffect now) s = .next (s.setNow now).pumpOffice) ∧
    (s.engine = none → s.takenReset = some ⟨false, true⟩ →
      ∃ t, exec (.resetEffect now) s = .next t ∧ UnitsReset s t ∧ t.lastReset = .keep ∧ t.results = s.results ∧
        t.competition = s.competition ∧ t.tables.competitors = s.tables.competitors ∧ t.enables = s.enables ∧
        t.stu =
          { gate := none, candidate := none, candidateCount := 0, coachRequest := none
            pendingReference := s.stu.pendingReference, roundReference := s.stu.roundReference
            referenceFixed := s.stu.referenceFixed, windGate := s.stu.windGate, lastLiveWind := none
            windWait := none, greenFlash := none, greenExpiry := none, flashing := false
            lamp := if s.competition = .r1Open ∨ s.competition = .r2Open then .red else .off, echoRun := 0 } ∧
        (∃ rs : List JumpRecord, rs.Perm (s.jtb.records.map (·.2)) ∧ t.startList = rs.map (·.bib) ++ s.startList ∧
          ∀ base : Time, (∀ r ∈ rs, (r.clearTime - base).toNat < 2147483648) → (rs.map (·.clearTime)).Nodup →
            rs.Pairwise fun a b => (a.clearTime - base).toNat < (b.clearTime - base).toNat) ∧
        (∀ a b : JumpRecord, (s.jtb.records.map (·.2)).Perm [a, b] → a.serial < b.serial →
          laterThan b.clearTime a.clearTime = true → t.startList = a.bib :: b.bib :: s.startList) ∧
        TakenFrom s.store.schedT [] t.tables.schedT ∧ TakenFrom s.store.schedS [] t.tables.schedS ∧
        (RoundOpen s →
          t.tables.stations = s.tables.stations ∧ t.tables.hill = s.tables.hill ∧
            t.tables.distance = s.tables.distance) ∧
        (¬RoundOpen s →
          TakenFrom s.store.stations [] t.tables.stations ∧ TakenFrom s.store.hill .defaults t.tables.hill ∧
            TakenFrom s.store.distance [] t.tables.distance)) ∧
    (s.engine = none → s.takenReset = some ⟨true, true⟩ →
      ∃ t, exec (.resetEffect now) s = .next t ∧ UnitsReset s t ∧ StoreActive s t ∧ t.lastReset = .clear ∧
        t.results = [] ∧ t.startList = [] ∧ t.competition = .prepare ∧ t.tables.competitors = s.tables.competitors ∧
        t.stu = startUnitAtPowerOn t.tables.hill)

/-- The reset pin driven low stops the part and cuts a store in flight, item by item; held low it takes nothing but its release, which
sets every unit as Table 12-5 gathers and makes the six stored items active (R121, R197, R198, R200). The operands of the cut, that
the part takes no event while it is held, that the item being written reads back as failing, and the empty shifters with nothing on
the line ahead of them are the model's choices (log 4, log 6, log 21, log 9). -/
def Obligations.PowerOnResets : Prop :=
  (∀ (n : Fin 7) (mid : Bool) (s : State),
    ∃ t, exec (.resetPinDrivenLow n mid) s = .next t ∧ t.heldInReset = true ∧ t.engine = none ∧
      t.lineT.shifter = none ∧ t.lineS.shifter = none ∧ t.lineO.shifter = none ∧ t.tables = s.tables ∧
      t.jtb = s.jtb ∧ t.results = s.results ∧ t.startList = s.startList ∧
      (s.engine = none → t.store = s.store) ∧
      ∀ job, s.engine = some job →
        CutAt 0 n.val mid job.items.stations s.store.stations t.store.stations ∧
          CutAt 1 n.val mid job.items.schedT s.store.schedT t.store.schedT ∧
          CutAt 2 n.val mid job.items.schedS s.store.schedS t.store.schedS ∧
          CutAt 3 n.val mid job.items.hill s.store.hill t.store.hill ∧
          CutAt 4 n.val mid job.items.distance s.store.distance t.store.distance ∧
          CutAt 5 n.val mid job.items.enables s.store.enables t.store.enables) ∧
  (∀ (c : Instr) (s : State), s.heldInReset = true → c ≠ .powerOnReset → (∀ n mid, c ≠ .resetPinDrivenLow n mid) →
    exec c s = .next s) ∧
  ∀ s : State, ∃ t, exec .powerOnReset s = .next t ∧ UnitsReset s t ∧ StoreActive s t ∧ t.lastReset = .powerOn ∧
    t.startList = [] ∧ t.results = [] ∧ t.competition = .prepare ∧ t.tables.competitors = [] ∧
    t.stu = startUnitAtPowerOn t.tables.hill

/-- READY, within 600 time units of a reset: RESTARTED with the reset kind, the indications of the raised state conditions, and
their reports, RESTARTED first (R178, R190). -/
def Obligations.BecomesReady : Prop :=
  ∀ (now : Time) (s : State), s.heldInReset = false → s.ready = false → now.toNat ≤ 600 →
    s.conditions.restarted.i = false → s.office = .empty →
    ∃ t, exec (.ready now) s = .next t ∧ t.ready = true ∧
      t.conditions.restarted =
        ⟨s.conditions.restarted.v, true,
          match s.lastReset with
          | .powerOn => 0
          | .keep => 1
          | .clear => 2⟩ ∧
      (∀ c : CondName, c ≠ .restarted → (t.conditions.get c).v = (s.conditions.get c).v) ∧
      (∀ c : CondName, c ≠ .restarted →
        ((t.conditions.get c).i = true ↔
          (s.conditions.get c).i = true ∨ (c.isState = true ∧ (s.conditions.get c).v = true))) ∧
      t = { s with
        hck := { s.hck with time := now }
        ready := true
        conditions := t.conditions
        office := t.office
        lineO := { s.lineO with txSeq := t.lineO.txSeq, shifter := t.lineO.shifter, ahead := t.lineO.ahead } } ∧
      (s.enables.condition = true → s.enables.conditions = 0xFFFF →
        t.office.sending = some (.report (.condition 1 t.conditions.restarted.v t.conditions.restarted.argument)) ∧
          ∀ c : CondName, (t.conditions.get c).i = true →
            Reported t (.condition c.number (t.conditions.get c).v (t.conditions.get c).argument))

/-! ### The lines -/

/-- The envelope: the escapes and the CRC of a frame that is sent are undone and accepted where it is received, and no delimiter
stands inside it; and a frame sent with no pause behind another shares its delimiter (R1, R2, R3, R4). What no pause is, is the
model's choice (log 9). -/
def Obligations.EnvelopeRoundTrips : Prop :=
  ∀ f : Frame, f.payload.length ≤ 120 →
    ∃ inner, f.line = 0x7A#8 :: inner ++ [0x7A#8] ∧ 0x7A#8 ∉ inner ∧
      unescape inner = some (f.destination :: f.source :: f.kind :: f.sequence :: BitVec.ofNat 8 f.payload.length ::
        f.payload ++ u16 (crc16 f.body).toNat) ∧
      (validDestination f.destination.toNat = true → receiveCheck .O none f.content = none) ∧
      (f.destination = 0x01 → ∀ port, receiveCheck port (some f.source.toNat) f.content = none) ∧
      (∀ g : Frame, ∃ next, g.line = 0x7A#8 :: next ++ [0x7A#8] ∧
        linesOf [f, g] = 0x7A#8 :: inner ++ 0x7A#8 :: next ++ [0x7A#8]) ∧
      ∀ (now : Time) (u : LineUnit),
        (u.start now f).bytes = if u.ahead = .delimiter now then inner ++ [0x7A#8] else f.line

/-- The receive checks in the order of Table 2-3; and a discarded frame or an abort counts once in its port's counter, sets
LINE_ERRORS with the port code, and ends as a miss the open slot of its segment, a frame the slot it began in; what follows a cut
frame is dropped uncounted; and an office frame addressed elsewhere counts ADDRESS, or before READY and as a PASS sets
OFFICE_OVERRUN (R3, R4, R5, R10, R21). The order of the count, LINE_ERRORS and the slot's end is the model's choice (log 15), and so
are what a frame that began before the slot ends, that a PASS before READY is judged by its kind alone, that a frame that passes every
check is no such event, and how the end of the dropped bytes arrives (log 19, log 16, log 5, log 8). -/
def Obligations.LineFailuresAreCounted : Prop :=
  (∀ (port : Port) (station : Option Nat) (content : List Byte),
    (content.length < 7 → receiveCheck port station content = some .framing) ∧
    (127 < content.length → receiveCheck port station content = some .framing) ∧
    ∀ (destination source kind seq length : Byte) (rest : List Byte),
      content = destination :: source :: kind :: seq :: length :: rest → 7 ≤ content.length → content.length ≤ 127 →
      (length.toNat + 7 ≠ content.length → receiveCheck port station content = some .framing) ∧
      (length.toNat + 7 = content.length →
        (u16 (crc16 (content.take (content.length - 2))).toNat ≠ content.drop (content.length - 2) →
          receiveCheck port station content = some .crc) ∧
        (u16 (crc16 (content.take (content.length - 2))).toNat = content.drop (content.length - 2) →
          (port = .O →
            (destination.toNat = 0x01 ∨ (0x10 ≤ destination.toNat ∧ destination.toNat ≤ 0xEF) ∨
                destination.toNat = 0xFF →
              receiveCheck port station content = none) ∧
            (¬(destination.toNat = 0x01 ∨ (0x10 ≤ destination.toNat ∧ destination.toNat ≤ 0xEF) ∨
                destination.toNat = 0xFF) →
              receiveCheck port station content = some .address)) ∧
          (port ≠ .O →
            (destination.toNat ≠ 0x01 → receiveCheck port station content = some .address) ∧
            (destination.toNat = 0x01 →
              receiveCheck port station content = if station = some source.toNat then none else some .source))))) ∧
  (∀ (now : Time) (port : Port) (s : State), s.heldInReset = false → StatusLegal s →
    (∀ line : List Byte, (s.line port).dropping = true →
      exec (.frameDiscarded now port line) s =
          .next (State.pumpOffice ((s.setNow now).setLine port { s.line port with dropping := false })) ∧
        exec (.abortReceived now port) s =
          .next (State.pumpOffice ((s.setNow now).setLine port { s.line port with dropping := false }))) ∧
    ((s.line port).dropping = false →
      (∀ line : List Byte, unescape line = none →
        exec (.frameDiscarded now port line) s = exec (.abortReceived now port) s) ∧
      (∃ v, v = State.raise .lineErrors (codeFor port)
          ((s.setNow now).setLine port
            { s.line port with counters := { (s.line port).counters with
                framing := min 65535 ((s.line port).counters.framing + 1) } }) ∧
        exec (.abortReceived now port) s =
          .next (match port with
            | .T => (State.endSlot .T false v).pumpOffice
            | .S => (State.endSlot .S false v).pumpOffice
            | .O => v.pumpOffice)) ∧
      (∀ (line content : List Byte) (c : CounterName), unescape line = some content → content ≠ [] →
        receiveCheck port (s.slotStation port) content = some c →
        ∃ v, v = State.raise .lineErrors (codeFor port)
            ((s.setNow now).setLine port { s.line port with counters := (s.line port).counters.bump c }) ∧
          exec (.frameDiscarded now port line) s =
            .next (match port with
              | .T => (State.endBegun .T false v).pumpOffice
              | .S => (State.endBegun .S false v).pumpOffice
              | .O => v.pumpOffice)) ∧
      (∀ line : List Byte,
        (unescape line = some [] ∨ (port ≠ .O ∧ ∃ content, unescape line = some content ∧
          receiveCheck port (s.slotStation port) content = none)) →
        exec (.frameDiscarded now port line) s = .next (s.setNow now).pumpOffice) ∧
      ∀ (line rest : List Byte) (destination source kind : Byte), port = .O →
        unescape line = some (destination :: source :: kind :: rest) →
        receiveCheck .O none (destination :: source :: kind :: rest) = none →
        (kind = 0x05 → s.ready = false →
          exec (.frameDiscarded now port line) s =
            .next ((s.setNow now).raise .officeOverrun 0x05).pumpOffice) ∧
        ((kind = 0x20 ∧ destination = 0x01) ∨
            (kind = 0x05 ∧ s.ready = true ∧
              ∃ e, stationAt s.tables.stations destination.toNat = some e ∧ e.role.kind ≠ .light) →
          exec (.frameDiscarded now port line) s = .next (s.setNow now).pumpOffice) ∧
        (¬(kind = 0x20 ∧ destination = 0x01) →
            ¬(kind = 0x05 ∧ (s.ready = false ∨
              ∃ e, stationAt s.tables.stations destination.toNat = some e ∧ e.role.kind ≠ .light)) →
          exec (.frameDiscarded now port line) s =
            .next (State.pumpOffice (State.raise .lineErrors 3
              { s with
                hck := { s.hck with time := now }
                lineO := { s.lineO with counters := { s.lineO.counters with
                  address := min 65535 (s.lineO.counters.address + 1) } } })))))

/-- Station frames as the line and the station directory judge them: SOURCE with no slot or another station's, STATION_DATA_BAD for
a kind the station may not send, for a frame that fails whole by any check of its layout and for an item that fails alone, the items
of an EDGE or GATE frame that remain handed on one by one in their order, NONE handed to no unit, PASS copied to the office once, and what follows a cut frame dropped (R3, R4, R9, R10, R16, R17, R18, R19, R20). That the count comes before the slot's end, that a frame which
began before the slot ends no slot, how the end of dropped bytes arrives, and what the mirror of a frame with a bad item carries are
the model's choices (log 15, log 19, log 8, log 20). -/
def Obligations.StationFramesAreJudged : Prop :=
  (∀ (now : Time) (seg : Seg) (source kind seq : Byte) (payload : List Byte) (s : State), s.heldInReset = false →
    ∀ c ∈ stationFrames now seg source kind seq payload,
      ((s.line (portFor seg)).dropping = true →
        exec c s =
          .next (State.pumpOffice
            ((s.setNow now).setLine (portFor seg) { s.line (portFor seg) with dropping := false }))) ∧
      ((s.line (portFor seg)).dropping = false →
        ((s.seg seg).slot = none →
          exec c s = .next (State.pumpOffice ((s.setNow now).countFailure (portFor seg) .source))) ∧
        (∀ slot, (s.seg seg).slot = some slot → slot.entry.addr ≠ source.toNat →
          exec c s =
            .next (State.pumpOffice (State.endBegun seg false ((s.setNow now).countFailure (portFor seg) .source)))) ∧
        (∀ slot, (s.seg seg).slot = some slot → slot.entry.addr = source.toNat → slot.orphan = true →
          exec c s =
            .next (State.pumpOffice
              (if slot.frameBegun = true then (s.setNow now).setSeg seg { s.seg seg with slot := none }
                else s.setNow now))))) ∧
  ∀ (now : Time) (seg : Seg) (source seq : Byte) (payload : List Byte) (s u : State) (slot : Slot),
    Slotted s seg source slot.entry.role.kind slot → u = slotEnded seg now s →
    (∀ kind : Byte,
      (kind ≠ 0x10 ∧ kind ≠ 0x05 ∧
        (kind = 0x11 → slot.entry.role.kind ≠ .wind) ∧
        (kind = 0x12 → slot.entry.role.kind ≠ .cellA ∧ slot.entry.role.kind ≠ .cellB ∧
          slot.entry.role.kind ≠ .takeoff ∧ slot.entry.role.kind ≠ .landing) ∧
        (kind = 0x13 → slot.entry.role.kind ≠ .gate) ∧ (kind = 0x14 → slot.entry.role.kind ≠ .coach) ∧
        (kind = 0x15 → slot.entry.role.kind ≠ .judge) ∧ (kind = 0x16 → slot.entry.role.kind ≠ .dist) ∧
        (kind = 0x17 → slot.entry.role.kind ≠ .light)) →
      exec (.stationFrameNotAdmitted now seg source kind seq payload) s =
        .next (State.pumpOffice (u.raise .stationDataBad slot.entry.addr))) ∧
    exec (.noneFrame now seg source seq []) s = mirrored slot seg 0x10 seq [] u ∧
    (payload ≠ [] →
      exec (.noneFrame now seg source seq payload) s =
        .next (State.pumpOffice (u.raise .stationDataBad slot.entry.addr))) ∧
    (payload.length ≤ 118 →
      exec (.stationPassFrame now seg source seq payload) s =
        .next (State.pumpOffice (u.offerMirror ⟨slot.entry.addr, seq, seg, 0x05, payload⟩))) ∧
    (118 < payload.length →
      exec (.stationPassFrame now seg source seq payload) s =
        .next (State.pumpOffice (u.raise .stationDataBad slot.entry.addr))) ∧
    (¬HasForm slot.entry.role.kind payload → ∀ c ∈ ownFrames now seg source seq payload slot.entry.role.kind,
      exec c s = .next (State.pumpOffice (u.raise .stationDataBad slot.entry.addr))) ∧
    ∀ items kept : List RawItem,
      (∀ (code : Byte) (hand : State → EdgeItem → State), HandsEdge slot.entry u code hand →
        kept = items.filter (RawItem.fits code) → 1 ≤ items.length → items.length ≤ 8 →
        exec (.edgeFrame now seg source seq (BitVec.ofNat 8 items.length :: items.flatMap RawItem.bytes)) s =
          mirrored slot seg 0x12 seq (BitVec.ofNat 8 kept.length :: kept.flatMap RawItem.bytes)
            ((kept.map RawItem.item).foldl hand
              (if kept.length < items.length then u.raise .stationDataBad slot.entry.addr else u))) ∧
      ∀ report : Byte, slot.entry.role.kind = .gate → report.toNat ≤ 40 → kept = items.filter (RawItem.fits 2) →
        items.length ≤ 2 →
        exec (.gateFrame now seg source seq (report :: BitVec.ofNat 8 items.length :: items.flatMap RawItem.bytes)) s =
          mirrored slot seg 0x13 seq (report :: BitVec.ofNat 8 kept.length :: kept.flatMap RawItem.bytes)
            ((kept.map RawItem.item).foldl (State.takeGateLeft slot.entry.addr)
              (State.takeGateReport report.toNat
                (if kept.length < items.length then u.raise .stationDataBad slot.entry.addr else u)))

/-- The end of a slot: its station's presence and runs by Table 2-5, the STATION report and STATION_CHANGE of a change, and what
the loss of the light and of the gate does; a frame's arrival ends the slot it began in (R9, R10, R11, R12, R101, R118, R120; log 19
says what of a frame that began before). -/
def Obligations.PresenceFollowsSlots : Prop :=
  (∀ (seg : Seg) (good : Bool) (s : State),
    ((s.seg seg).slot = none → State.endBegun seg good s = s) ∧
      ∀ slot, (s.seg seg).slot = some slot →
        (slot.frameBegun = true → State.endBegun seg good s = State.endSlot seg good s) ∧
          (slot.frameBegun = false → State.endBegun seg good s = s) ∧
          (slot.orphan = true → State.endSlot seg good s = s.setSeg seg { s.seg seg with slot := none })) ∧
  ∀ (seg : Seg) (good : Bool) (s : State) (slot : Slot) (l x : Link), (s.seg seg).slot = some slot → slot.orphan = false →
    linkAt s.lsc.links slot.entry.addr = some l → x = presenceAfter slot.entry.missLimit good l →
    ((State.endSlot seg good s).seg seg).slot = none ∧
    linkAt (State.endSlot seg good s).lsc.links slot.entry.addr = some x ∧
    (∀ a, a ≠ slot.entry.addr → linkAt (State.endSlot seg good s).lsc.links a = linkAt s.lsc.links a) ∧
    (State.endSlot seg good s).hck = s.hck ∧ (State.endSlot seg good s).tables = s.tables ∧
    (State.endSlot seg good s).results = s.results ∧ (State.endSlot seg good s).competition = s.competition ∧
    (State.endSlot seg good s).wnd = s.wnd ∧ (State.endSlot seg good s).lineT = s.lineT ∧
    (State.endSlot seg good s).lineS = s.lineS ∧
    (x.presence = l.presence →
      (State.endSlot seg good s).office = s.office ∧ (State.endSlot seg good s).conditions = s.conditions ∧
        (State.endSlot seg good s).stu = s.stu ∧ (State.endSlot seg good s).jtb = s.jtb) ∧
    (x.presence ≠ l.presence →
      (State.endSlot seg good s).conditions.stationChange.i = true ∧
        (s.enables.station = true → s.office.count < 60 →
          .station slot.entry.addr l.presence x.presence ∈ (State.endSlot seg good s).office.reports)) ∧
    (slot.entry.role.kind ≠ .light →
      (State.endSlot seg good s).jtb = s.jtb ∧ (State.endSlot seg good s).startList = s.startList) ∧
    (slot.entry.role.kind = .gate → x.presence ≠ l.presence →
      (State.endSlot seg good s).conditions.gateFrozen.v = decide (x.presence ≠ .present) ∧
        (x.presence = .present →
          (State.endSlot seg good s).stu = { s.stu with candidate := none, candidateCount := 0 }) ∧
        (x.presence ≠ .present → (State.endSlot seg good s).stu = s.stu)) ∧
    ∀ k r, OneActive s.jtb → slot.entry.role.kind = .light → l.presence = .present → x.presence ≠ .present →
      s.jtb.get k = some r →
      (r.state = .cleared ∨ r.state = .green →
        (State.endSlot seg good s).jtb = s.jtb.set k none ∧
          (State.endSlot seg good s).startList = r.bib :: s.startList) ∧
      ((∀ j y, s.jtb.get j = some y → y.state ≠ .cleared ∧ y.state ≠ .green) →
        (State.endSlot seg good s).jtb = s.jtb ∧ (State.endSlot seg good s).startList = s.startList)

/-- SLOT_OPEN, REPLY_WINDOW_OPEN, FRAME_BEGUN and the two ways a slot times out: the opener by station, a granted station that has
left the table or its port passed over, the reply window, the miss that is counted, and the frame that the budget cuts (R1, R3, R8,
R9, R10, R24, R39). The order of the count and the slot's end, that an event which is not due does nothing, what no pause is, and the
mark of dropped bytes are the model's choices (log 15, log 5, log 9, log 8). -/
def Obligations.SlotsOpenAndTimeOut : Prop :=
  (∀ (now : Time) (seg : Seg) (s : State), s.heldInReset = false →
    (s.ready = false ∨ (s.seg seg).slot ≠ none ∨ (∃ x, (s.seg seg).silentUntil = some x ∧ earlierThan now x = true) ∨
        (s.seg seg).granted = [] →
      exec (.slotOpen now seg) s = .next (s.setNow now).pumpOffice) ∧
    ∀ a rest, s.ready = true → (s.seg seg).slot = none →
      (∀ x, (s.seg seg).silentUntil = some x → earlierThan now x = false) → (s.seg seg).granted = a :: rest →
      (∀ e, stationAt s.tables.stations a = some e → e.port ≠ seg) →
      exec (.slotOpen now seg) s = exec (.slotOpen now seg) (s.setSeg seg { s.seg seg with granted := rest })) ∧
  (∀ (now : Time) (seg : Seg) (s : State) (a : Nat) (rest : List Nat) (e : StationEntry), s.heldInReset = false →
    s.ready = true → (s.seg seg).slot = none → (∀ x, (s.seg seg).silentUntil = some x → earlierThan now x = false) →
    (s.seg seg).granted = a :: rest → stationAt s.tables.stations a = some e → e.port = seg →
    ∃ t f lampSent q ahead,
      exec (.slotOpen now seg) s = .next t ∧
      (SendsAt now seg s → ahead = .delimiter now) ∧
      (¬SendsAt now seg s →
        ahead = if (s.line (portFor seg)).shifter = none then aheadOf now (s.line (portFor seg)) else .idle) ∧
      t = State.pumpOffice
        (((s.setNow now).setLine (portFor seg)
            { counters := (s.line (portFor seg)).counters
              txSeq := (s.line (portFor seg)).txSeq + (if f.kind = 0x05 then 0 else 1)
              shifter := some f
              ahead := ahead
              dropping := (s.line (portFor seg)).dropping }).setSeg seg
          { s.seg seg with
            granted := rest
            queue := q
            slot := some ⟨e, lampSent, false, none, after now 30, false, false⟩ }) ∧
      f.destination = BitVec.ofNat 8 a ∧ f.source = 0x01 ∧
      (f.kind ≠ 0x05 → f.sequence = (s.line (portFor seg)).txSeq) ∧
      (e.role.kind = .light →
        f.kind = 0x03 ∧ f.payload = [BitVec.ofNat 8 s.lsc.lampSlot.code] ∧ lampSent = some s.lsc.lampSlot ∧
          q = (s.seg seg).queue) ∧
      (e.role.kind ≠ .light →
        lampSent = none ∧
        ((∀ l, linkAt s.lsc.links a = some l → l.presence ≠ .present) ∨
            (∀ x ∈ (s.seg seg).queue, x.station ≠ a) →
          f.kind = 0x02 ∧ f.payload = [] ∧ q = (s.seg seg).queue) ∧
        ∀ l before x behind, linkAt s.lsc.links a = some l → l.presence = .present →
          (s.seg seg).queue = before ++ x :: behind → (∀ y ∈ before, y.station ≠ a) → x.station = a →
          q = before ++ behind ∧
            (∀ b kind payload, x = .page b kind payload → f.kind = 0x04 ∧ f.payload = payload) ∧
            (∀ b n payload, x = .pass b n payload → f.kind = 0x05 ∧ f.sequence = n ∧ f.payload = payload))) ∧
  (∀ (now : Time) (seg : Seg) (s : State), s.heldInReset = false → (s.seg seg).slot = none →
    exec (.replyWindowOpen now seg) s = .next (s.setNow now).pumpOffice ∧
      exec (.replyWindowClose now seg) s = .next (s.setNow now).pumpOffice ∧
      exec (.slotBudgetEnd now seg) s = .next (s.setNow now).pumpOffice ∧
      exec (.frameBegun now seg) s =
        .next (State.pumpOffice
          ((s.setNow now).setLine (portFor seg) { s.line (portFor seg) with dropping := false }))) ∧
  ∀ (now : Time) (seg : Seg) (s : State) (slot : Slot), s.heldInReset = false → (s.seg seg).slot = some slot →
    (slot.openerSent = true → exec (.replyWindowOpen now seg) s = .next (s.setNow now).pumpOffice) ∧
    (slot.openerSent = false →
      exec (.replyWindowOpen now seg) s =
        .next (State.pumpOffice
          (((s.setNow now).setLine (portFor seg)
              { s.line (portFor seg) with shifter := none, ahead := .delimiter now }).setSeg seg
            { s.seg seg with slot := some { slot with
                openerSent := true
                windowClose := if slot.frameBegun then none else some (after now 10) } }))) ∧
    exec (.frameBegun now seg) s =
      .next (State.pumpOffice
        (((s.setNow now).setLine (portFor seg) { s.line (portFor seg) with dropping := false }).setSeg seg
          { s.seg seg with slot := some { slot with frameBegun := true, windowClose := none } })) ∧
    (slot.windowClose = some now → slot.frameBegun = false →
      exec (.replyWindowClose now seg) s =
        .next (State.pumpOffice (State.endSlot seg false ((s.setNow now).countFailure (portFor seg) .slotTimeout)))) ∧
    (slot.windowClose ≠ some now → exec (.replyWindowClose now seg) s = .next (s.setNow now).pumpOffice) ∧
    (slot.budgetEnd = now → slot.frameBegun = false →
      exec (.slotBudgetEnd now seg) s =
        .next (State.pumpOffice (State.endSlot seg false ((s.setNow now).countFailure (portFor seg) .slotTimeout)))) ∧
    (slot.budgetEnd = now → slot.frameBegun = true →
      ∃ v, v = (s.setNow now).countFailure (portFor seg) .framing ∧
        exec (.slotBudgetEnd now seg) s =
          .next (State.pumpOffice (State.endSlot seg false
            (v.setLine (portFor seg) { v.line (portFor seg) with dropping := true })))) ∧
    (slot.budgetEnd ≠ now → exec (.slotBudgetEnd now seg) s = .next (s.setNow now).pumpOffice)

/-- RESTART of a segment: the slot and the frame being sent end, the queue is emptied, the silence begins, and the segment's
stations become ABSENT, with their reports and what the loss of the light and of the gate does; and the end of the silence (R12,
R26, R101, R118, R120, R201). How an abort stands on the line, how long TIME is being sent, and that an end of silence which is not due
does nothing are the model's choices (log 28, log 9, log 5). -/
def Obligations.SegmentRestarts : Prop :=
  (∀ (now : Time) (seq port : Byte) (s : State), Listens s →
    (¬(port.toNat = 1 ∨ port.toNat = 2) → exec (.restart now seq port) s = refused now seq 0x03 .badValue s) ∧
    (port.toNat = 1 →
      ∃ t, exec (.restart now seq port) s = .next t ∧ Answered t seq 0x03 .nothing ∧ Restarted now .T s t ∧
        t.lsc.segT.queue = [] ∧ t.lineS = s.lineS ∧ t.lsc.segS.slot = s.lsc.segS.slot ∧
        t.lsc.segS.granted = s.lsc.segS.granted ∧ t.lsc.segS.silentUntil = s.lsc.segS.silentUntil) ∧
    (port.toNat = 2 →
      ∃ t, exec (.restart now seq port) s = .next t ∧ Answered t seq 0x03 .nothing ∧ Restarted now .S s t ∧
        ((∀ e ∈ s.tables.stations, e.port = .S → e.role.kind ≠ .light) → t.lsc.segS.queue = []) ∧
        t.lineT = s.lineT ∧ t.lsc.segT = s.lsc.segT)) ∧
  ∀ (now : Time) (seg : Seg) (s : State), s.heldInReset = false →
    ((s.seg seg).silentUntil = some now →
      exec (.restartSilenceEnd now seg) s =
        .next ((s.setNow now).setSeg seg { s.seg seg with silentUntil := none }).pumpOffice) ∧
    ((s.seg seg).silentUntil ≠ some now →
      exec (.restartSilenceEnd now seg) s = .next (s.setNow now).pumpOffice)

/-- A cycle start begins the cycle on a segment that is not silent: TIME with the mark number and hill time, and the slots its
schedule grants; the mark enters the history, each wind context writes one entry and a changed wind state sets WIND_CHANGE, the live
wind is formed and takes a CLEARED record to GREEN within the band, and the settle count advances (R7, R8, R9, R26, R33, R85, R92,
R94, R95, R96, R109, R112, R134, R176). That the settle count is counted within the cycle start, the order of several WIND_CHANGE
indications, and what no pause is are the model's own (log 24, log 30, log 9). -/
def Obligations.CycleStarts : Prop :=
  ∀ (now : Time) (s : State), s.heldInReset = false → s.ready = true → now.toNat % 1000 = 0 → now ≠ 0 →
    (∀ m x rest, s.hck.marks = (m, x) :: rest → x ≠ now) →
    ∃ t, exec (.cycleStart now) s = .next t ∧ t.lsc.cycleCount = s.lsc.cycleCount + 1 ∧
      t.hck = ⟨now, ((BitVec.ofNat 8 s.lsc.cycleCount, now) :: s.hck.marks).take 16⟩ ∧
      ((∀ x, s.lsc.segT.silentUntil = some x → earlierThan now x = false) →
        t.lsc.segT.granted =
          (s.tables.schedT.filter fun e => decide (s.lsc.cycleCount % 256 % e.interval = e.phase)).map (·.addr) ∧
        t.lineT = ⟨s.lineT.counters, s.lineT.txSeq + 1,
          some ⟨0xFF, 0x01, 0x01, s.lineT.txSeq, BitVec.ofNat 8 s.lsc.cycleCount :: u32 now⟩, aheadOf now s.lineT,
          s.lineT.dropping⟩) ∧
      ((∀ x, s.lsc.segS.silentUntil = some x → earlierThan now x = false) →
        t.lsc.segS.granted =
          (s.tables.schedS.filter fun e => decide (s.lsc.cycleCount % 256 % e.interval = e.phase)).map (·.addr) ∧
        t.lineS = ⟨s.lineS.counters, s.lineS.txSeq + 1,
          some ⟨0xFF, 0x01, 0x01, s.lineS.txSeq, BitVec.ofNat 8 s.lsc.cycleCount :: u32 now⟩, aheadOf now s.lineS,
          s.lineS.dropping⟩) ∧
      (∀ x, s.lsc.segT.silentUntil = some x → earlierThan now x = true → t.lsc.segT.granted = [] ∧ t.lineT = s.lineT) ∧
      (∀ x, s.lsc.segS.silentUntil = some x → earlierThan now x = true → t.lsc.segS.granted = [] ∧ t.lineS = s.lineS) ∧
      t.wnd.contexts = s.wnd.contexts.map (WindContext.tick s.tables.hill now) ∧
      WindChanged ((s.wnd.contexts.filter fun c => decide ((c.tick s.tables.hill now).state ≠ c.state)).map (·.index))
        s.conditions.windChange t.conditions.windChange ∧
      t.wnd.means = (t.wnd.contexts.filter fun c =>
        (windPlaceOf s.tables.stations c.index).any (·.startWindow)).map (fun c =>
          (c.index, stationMean s.tables.hill.liveSpan c.ring)) ∧
      t.wnd.liveWind = liveWindOf t.wnd.means ∧
      t.stu.lastLiveWind = t.wnd.liveWind ∧ t.conditions.liveWindUnavailable.v = t.wnd.liveWind.isNone ∧
      t.tables = s.tables ∧ t.startList = s.startList ∧ t.results = s.results ∧ t.competition = s.competition ∧
      (∀ k r, OneActive s.jtb → RecordsInRound s → s.jtb.get k = some r → r.state = .cleared →
        (∀ w, t.wnd.liveWind = some w → s.tables.hill.bandLow ≤ w → w ≤ s.tables.hill.bandHigh →
          t.jtb = s.jtb.set k (some (greenRecord s.tables.hill now s.stu.gate r)) ∧
            t.stu = { wentGreen s.tables.hill now s.stu with lastLiveWind := some w } ∧
            t.dsp.countdownSeconds = s.tables.hill.startTime) ∧
        ((∀ w, t.wnd.liveWind = some w → ¬(s.tables.hill.bandLow ≤ w ∧ w ≤ s.tables.hill.bandHigh)) →
          t.jtb = s.jtb ∧ t.stu = { s.stu with lastLiveWind := t.wnd.liveWind })) ∧
      ((∀ k r, s.jtb.get k = some r → r.state ≠ .cleared) →
        t.jtb = s.jtb ∧ t.stu = { s.stu with lastLiveWind := t.wnd.liveWind } ∧ t.dsp = s.dsp) ∧
      ((∃ k r, s.jtb.get k = some r ∧ r.state = .landing) → atOrAfter now s.flu.firstArrival = true →
        t.flu = { s.flu with settleCount := min 2 (s.flu.settleCount + 1) }) ∧
      ((∀ k r, s.jtb.get k = some r → r.state ≠ .landing) → t.flu = s.flu)

/-- WIND_FRAME: each sample joins the alignment buffer of the station's context, a full buffer losing its oldest with a drop slip
(R80, R93). -/
def Obligations.WindSamplesAreBuffered : Prop :=
  ∀ (now : Time) (seg : Seg) (source seq : Byte) (s u : State) (slot : Slot) (w : WindPlace) (l : List Sample),
    Slotted s seg source .wind slot → slot.entry.role = .wind w → u = slotEnded seg now s → l.length ≤ 2 →
    (∀ x ∈ l, x.speed1 ≤ 65535 ∧ x.direction1 ≤ 65535 ∧ x.speed2 ≤ 65535 ∧ x.direction2 ≤ 65535) →
    exec (.windFrame now seg source seq (BitVec.ofNat 8 l.length :: l.flatMap sampleBytes)) s =
      mirrored slot seg 0x11 seq (BitVec.ofNat 8 l.length :: l.flatMap sampleBytes)
        { u with wnd := { u.wnd with contexts := u.wnd.contexts.map fun c =>
            if c.index = w.index then l.foldl bufferSample c else c } }

/-- A head's validity and its component along the bearing; a context at a cycle start: the grid entry of a sample or of an empty
buffer, the mismatch count, the slips, the runs and the wind state; and the live wind formed from the start-window stations (R81,
R82, R83, R84, R85, R86, R89, R90, R94, R95). -/
def Obligations.GridEntriesAreWritten : Prop :=
  (∀ (bearing : Nat) (x : Sample),
    x.primary bearing =
      (if x.fault1 = false ∧ x.speed1 ≤ 4000 ∧ x.direction1 ≤ 359 then some (component bearing x.speed1 x.direction1)
        else none) ∧
    x.secondary bearing =
      (if x.fault2 = false ∧ x.speed2 ≤ 4000 ∧ x.direction2 ≤ 359 then some (component bearing x.speed2 x.direction2)
        else none)) ∧
  (∀ (bearing speed direction delta : Nat), bearing ≤ 359 → direction ≤ 359 →
    (delta : Int) = ((direction : Int) - bearing) % 360 →
    component bearing speed direction =
      roundDiv
        (speed *
          (if delta ≤ 90 then (cosine delta : Int)
            else if delta ≤ 180 then -(cosine (180 - delta) : Int)
            else if delta ≤ 270 then -(cosine (delta - 180) : Int)
            else (cosine (360 - delta) : Int)))
        10000 ∧
      (speed ≤ 4000 → -4000 ≤ component bearing speed direction ∧ component bearing speed direction ≤ 4000)) ∧
  ([0, 10, 15, 20, 30, 40, 45, 50, 60, 70, 80, 85, 89, 90].map cosine =
      [10000, 9848, 9659, 9397, 8660, 7660, 7071, 6428, 5000, 3420, 1736, 872, 175, 0] ∧
    ∀ a b, a < b → b ≤ 90 → cosine b < cosine a) ∧
  (∀ (h : HillTable) (now : Time) (c x : WindContext), x = c.tick h now → c.mismatch ≤ 255 → c.goodRun ≤ 255 →
    c.badRun ≤ 255 → c.repeats ≤ 65535 → 1 ≤ h.lostThreshold →
    x.index = c.index ∧ x.bearing = c.bearing ∧ x.buffer = c.buffer.drop 1 ∧ x.drops = c.drops ∧
    ∃ e, x.ring = (e :: c.ring).take 128 ∧ e.time = now ∧
      (∀ y rest cp cs n, c.buffer = y :: rest → y.primary c.bearing = some cp → y.secondary c.bearing = some cs →
        n = (if h.mismatchThreshold < (cp - cs).natAbs then min 255 (c.mismatch + 1) else 0) →
        x.mismatch = n ∧ x.repeats = c.repeats ∧
          e = if n < h.mismatchCount then ⟨now, .good, some cp⟩ else ⟨now, .mean, some (roundDiv (cp + cs) 2)⟩) ∧
      (∀ y rest, c.buffer = y :: rest → (y.primary c.bearing = none ∨ y.secondary c.bearing = none) →
        x.mismatch = 0 ∧ x.repeats = c.repeats ∧
          e = match y.primary c.bearing, y.secondary c.bearing with
            | some v, _ => ⟨now, .single, some v⟩
            | none, some v => ⟨now, .single, some v⟩
            | none, none => ⟨now, .missing, none⟩) ∧
      (∀ y rest, c.buffer = [] → c.ring = y :: rest → c.state ≠ .lost → y.quality ≠ .missing →
        x.mismatch = c.mismatch ∧ x.repeats = min 65535 (c.repeats + 1) ∧ e = ⟨now, .repeated, y.value⟩) ∧
      (c.buffer = [] → (c.state = .lost ∨ ∀ y, c.ring.head? = some y → y.quality = .missing) →
        x.mismatch = c.mismatch ∧ x.repeats = c.repeats ∧ e = ⟨now, .missing, none⟩) ∧
      (e.quality = .repeated ∨ e.quality = .missing → x.badRun = min 255 (c.badRun + 1) ∧ x.goodRun = 0 ∧
        x.state = if c.state = .lost ∨ h.lostThreshold ≤ x.badRun then .lost else c.state) ∧
      (¬(e.quality = .repeated ∨ e.quality = .missing) → x.goodRun = min 255 (c.goodRun + 1) ∧ x.badRun = 0 ∧
        x.state =
          if c.state = .lost ∧ ¬(h.recoverCount ≤ x.goodRun ∧ h.lostThreshold ≤ x.ring.length) then .lost
          else if e.quality = .good then .active else .degraded)) ∧
  (∀ (span : Nat) (ring : List GridEntry),
    (2 * ((ring.take span).filterMap (·.value)).length < span → stationMean span ring = none) ∧
    (span ≤ 2 * ((ring.take span).filterMap (·.value)).length →
      stationMean span ring = some (roundDiv ((ring.take span).filterMap (·.value)).sum
        ((ring.take span).filterMap (·.value)).length))) ∧
  ∀ means : List (Nat × Option Int),
    (means.filterMap (·.2) = [] → liveWindOf means = none) ∧
    (means.filterMap (·.2) ≠ [] →
      liveWindOf means = some (roundDiv (means.filterMap (·.2)).sum (means.filterMap (·.2)).length))

/-- A PASS from the office joins the queue of its station's port, or is discarded with OFFICE_OVERRUN or ADDRESS; and a frame sent
leaves the office queue, the next chosen reply, report, mirror and sharing its delimiter, the reply of a RESET emptying what still
waits (R1, R21, R22, R184, R185, R199). That a PASS before READY is judged by its kind alone, that PASS frames go on while a RESET
waits, and what no pause is are the model's own (log 16, log 23, log 9). -/
def Obligations.OfficePortIsServed : Prop :=
  (∀ (now : Time) (seq destination : Byte) (payload : List Byte) (s : State), s.heldInReset = false →
    s.lineO.counters.address ≤ 65535 →
    (s.ready = false →
      exec (.officePass now seq destination payload) s =
        .next ((s.setNow now).raise .officeOverrun 0x05).pumpOffice) ∧
    (s.ready = true →
      ((∀ e, stationAt s.tables.stations destination.toNat = some e → e.role.kind = .light) →
        exec (.officePass now seq destination payload) s =
          .next (State.pumpOffice (State.raise .lineErrors 3
            { s with
              hck := { s.hck with time := now }
              lineO := { s.lineO with counters := { s.lineO.counters with
                address := min 65535 (s.lineO.counters.address + 1) } } }))) ∧
      ∀ e, stationAt s.tables.stations destination.toNat = some e → e.role.kind ≠ .light →
        (32 ≤ (s.seg e.port).queue.length →
          exec (.officePass now seq destination payload) s =
            .next ((s.setNow now).raise .officeOverrun 0x05).pumpOffice) ∧
        ((s.seg e.port).queue.length < 32 →
          exec (.officePass now seq destination payload) s =
            .next ((s.setNow now).setSeg e.port
              { s.seg e.port with
                queue := (s.seg e.port).queue ++ [.pass destination.toNat seq payload] }).pumpOffice))) ∧
  (∀ (now : Time) (s : State) (f : OfficeFrame), s.heldInReset = false → s.office.sending = some f →
    (s.takenReset = none ∨ (∀ r, f = .reply r → ¬(r.code = 0x02 ∧ r.status = .ok)) →
      ∃ t, exec (.officeFrameSent now) s = .next t ∧
        t = { s with
          hck := { s.hck with time := now }
          office := t.office
          lineO := { s.lineO with txSeq := t.lineO.txSeq, shifter := t.lineO.shifter, ahead := .delimiter now } } ∧
        (∀ g, t.lineO.shifter = some g → t.lineO.bytes = g.behindDelimiter ∧ g.line = 0x7A#8 :: g.behindDelimiter) ∧
        (∀ r rest, s.office.replies = r :: rest →
          t.office = { s.office with replies := rest, sending := some (.reply r) } ∧ t.lineO.txSeq = s.lineO.txSeq ∧
            t.lineO.shifter.map (·.sequence) = some r.seq) ∧
        (∀ r rest, s.office.replies = [] → s.office.reports = r :: rest →
          t.office = { s.office with reports := rest, sending := some (.report r) } ∧
            t.lineO.txSeq = s.lineO.txSeq + 1 ∧ t.lineO.shifter.map (·.sequence) = some s.lineO.txSeq) ∧
        (∀ m rest, s.office.replies = [] → s.office.reports = [] → s.office.mirrors = m :: rest →
          t.office = { s.office with mirrors := rest, sending := some (.mirror m) } ∧ t.lineO.txSeq = s.lineO.txSeq ∧
            t.lineO.shifter.map (·.sequence) = some m.seq) ∧
        (s.office.replies = [] → s.office.reports = [] → s.office.mirrors = [] →
          t.office = { s.office with sending := none } ∧ t.lineO.shifter = none)) ∧
    ∀ x r, s.takenReset = some x → f = .reply r → r.code = 0x02 → r.status = .ok →
      exec (.officeFrameSent now) s =
        .next { s with
          hck := { s.hck with time := now }
          office := ⟨[], [], [], none, false⟩
          lineO := { s.lineO with shifter := none, ahead := .delimiter now }
          takenReset := some { x with replySent := true } })

/-- An occurrence of a condition, the rise and fall of a state condition, and what the office queue admits; a page as bytes, one PAGE
frame for each board whose mask holds its kind, and a frame that coalesces, joins or is dropped (R23, R172, R177, R180, R181, R182).
That the empty CURRENT page holds no byte for the team is deduced, and rests on no sentence of the spec alone (log 11). -/
def Obligations.QueuesAdmit : Prop :=
  ((∀ (c : CondName) (argument : Nat) (s : State),
    ((s.conditions.get c).i = true → s.raise c argument = s) ∧
    ((s.conditions.get c).i = false →
      (s.raise c argument).conditions.get c = ⟨(s.conditions.get c).v, true, argument⟩ ∧
        (∀ d, d ≠ c → d ≠ .reportLost → (s.raise c argument).conditions.get d = s.conditions.get d) ∧
        (s.ready = true → s.enables.condition = true → s.enables.conditions.getLsbD (c.number - 1) = true →
          s.office.count < 60 →
          (s.raise c argument).office =
            { s.office with
              reports := s.office.reports ++ [.condition c.number (s.conditions.get c).v argument] }) ∧
        (s.ready = false ∨ s.enables.condition = false ∨ s.enables.conditions.getLsbD (c.number - 1) = false →
          (s.raise c argument).office = s.office))) ∧
  (∀ (c : CondName) (v : Bool) (s : State),
    ((s.conditions.get c).v = v → s.setV c v = s) ∧
    (v = false →
      s.setV c v = { s with conditions := s.conditions.set c { s.conditions.get c with v := false } }) ∧
    (v = true → (s.conditions.get c).v = false →
      ((s.conditions.get c).i = true →
        s.setV c v = { s with conditions := s.conditions.set c { s.conditions.get c with v := true } }) ∧
      ((s.conditions.get c).i = false →
        ∃ t, s.setV c v = t ∧ t = { s with conditions := t.conditions, office := t.office } ∧
          t.conditions.get c = ⟨true, true, 0⟩ ∧
          (∀ d, d ≠ c → d ≠ .reportLost → t.conditions.get d = s.conditions.get d) ∧
          (s.ready = true → s.enables.condition = true → s.enables.conditions.getLsbD (c.number - 1) = true →
            s.office.count < 60 →
            t.office = { s.office with reports := s.office.reports ++ [.condition c.number true 0] }) ∧
          (s.ready = false ∨ s.enables.condition = false ∨ s.enables.conditions.getLsbD (c.number - 1) = false →
            t.office = s.office)))) ∧
  (∀ (r : Report) (s : State),
    (s.office.count < 60 →
      s.offerReport r = { s with office := { s.office with reports := s.office.reports ++ [r] } }) ∧
    (60 ≤ s.office.count → s.conditions.reportLost.i = true → s.offerReport r = s) ∧
    (60 ≤ s.office.count → s.conditions.reportLost.i = false →
      s.offerReport r =
        { s with conditions := { s.conditions with reportLost :=
            ⟨s.conditions.reportLost.v, true,
              match r with
              | .condition .. => 1
              | .station .. => 2
              | .jump .. => 3
              | .result .. => 4⟩ } })) ∧
  ∀ (m : Mirror) (s : State),
    (s.office.count < 48 →
      s.offerMirror m = { s with office := { s.office with mirrors := s.office.mirrors ++ [m] } }) ∧
    (48 ≤ s.office.count → s.offerMirror m = s)) ∧
  (∀ (kind : PageKind) (s : State),
    s.sendPage kind =
      { s with lsc := { s.lsc with segS := { s.lsc.segS with
          queue := pageShown s.dsp s.tables.stations kind s.lsc.segS.queue } } }) ∧
  (∀ d : Display,
    pagePayload d .leaders =
      0x02 :: u16 d.leaders.length ++ d.leaders.flatMap (fun r =>
        u16 r.rank ++ u16 r.bib ++ BitVec.ofNat 8 r.name.length :: r.name ++ u16 r.total) ∧
    pagePayload d .countdown = 0x03 :: BitVec.ofNat 8 d.countdownLamp.code :: u16 d.countdownSeconds ∧
    (d.current = none →
      pagePayload d .current =
        [0x01, 0xFF, 0xFF, 0xFF, 0xFF, 0x00, 0xFF, 0xFF, 0xFF, 0xFF, 0xFF, 0xFF, 0x00, 0x00, 0x80, 0x00, 0x80, 0x00,
          0xFF, 0xFF, 0xFF, 0xFF, 0xFF, 0xFF]) ∧
    ∀ c, d.current = some c →
      pagePayload d .current =
        0x01 :: u16 (c.round.getD 0xFFFF) ++ u16 c.bib ++ BitVec.ofNat 8 c.name.length :: c.name ++ c.team ++
          u16 (c.gate.getD 0xFFFF) ++ u16 (c.speed.getD 0xFFFF) ++ u16 (c.distance.getD 0xFFFF) ++
          ([match c.marker with
            | .none => 0
            | .preliminary => 1
            | .final => 2,
            match c.status with
            | none => 0
            | some .ok => 1
            | some .dsq => 2] : List Byte) ++
          i16 (c.windComp.getD (-32768)) ++ i16 (c.gateComp.getD (-32768)) ++ u16 (c.roundTotal.getD 0xFFFF) ++
          u16 (c.competitionTotal.getD 0xFFFF) ++ u16 (c.rank.getD 0xFFFF)) ∧
  (∀ (board : Nat) (kind : PageKind) (payload : List Byte) (q : List QueuedFrame),
    (∀ before old behind, q = before ++ .page board kind old :: behind →
      (∀ f ∈ before ++ behind, ∀ x, f ≠ .page board kind x) →
      queuePage board kind payload q = before ++ .page board kind payload :: behind) ∧
    ((∀ f ∈ q, ∀ x, f ≠ .page board kind x) →
      (q.length < 32 → queuePage board kind payload q = q ++ [.page board kind payload]) ∧
        (32 ≤ q.length → queuePage board kind payload q = q)))

/-! ### Invariants -/

/-- The queues and counters stay within their bounds, event conditions have no V, and the mark history holds the latest cycle starts,
whatever step is taken (R5, R7, R22, R33, R177, R182). -/
def Obligations.BoundsAreKept : Prop :=
  ∀ s t : State, QueueBounds s → StatusLegal s → HistoryFits s → step s = .next t →
    QueueBounds t ∧ StatusLegal t ∧ HistoryFits t

/-- Every step keeps that one record at most is on the bar or the course, that records exist only in an open round, and the lamp law
(R60, R64, R119). -/
def Obligations.LampLawIsKept : Prop :=
  ∀ s t : State, OneActive s.jtb → RecordsInRound s → LampLaw s → step s = .next t →
    OneActive t.jtb ∧ RecordsInRound t ∧ LampLaw t

/-- Every step keeps that no bib stands twice among the start list and the records, nor twice in the results list, and that the
results list stands in the ranking order (R44, R57, R60, R167). -/
def Obligations.ListsStayLawful : Prop :=
  ∀ s t : State, RecordsInRound s → BibLaw s → ResultsOrdered s → step s = .next t →
    RecordsInRound t ∧ BibLaw t ∧ ResultsOrdered t

/-- Every step keeps the tables in force, stored and being stored valid, and the wind law: a station not LOST has a sampled entry
among its latest lost-threshold entries (R8, R15, R43, R91, R124, R195). Of a schedule's limits those are kept that a later STATIONS
swap leaves in force. -/
def Obligations.TablesAndWindStayLawful : Prop :=
  ∀ s t : State, TablesFit s → WindLaw s → step s = .next t →
    TablesFit t ∧ WindLaw t ∧
      ∀ c ∈ t.wnd.contexts, c.state ≠ .lost →
        ∃ e ∈ c.ring.take t.tables.hill.lostThreshold, e.quality ≠ .repeated ∧ e.quality ≠ .missing

/-- The state after reset meets every one of these invariants. -/
def Obligations.ResetMeetsInvariants : Prop :=
  QueueBounds State.reset ∧ StatusLegal State.reset ∧ HistoryFits State.reset ∧ OneActive State.reset.jtb ∧
    RecordsInRound State.reset ∧ LampLaw State.reset ∧ BibLaw State.reset ∧ ResultsOrdered State.reset ∧
    TablesFit State.reset ∧ WindLaw State.reset
end

