-- ==== Sys2Proof/Laws/State.lean ====
section
/-! SUPPORT. One lemma for each field of State and each named update: what the update leaves in the field. -/

namespace Sys2Proof.Machine

/-! ### setNow -/

@[simp] theorem State.setNow_pending (s : State) (t : Time) : (s.setNow t).pending = s.pending := rfl
@[simp] theorem State.setNow_heldInReset (s : State) (t : Time) : (s.setNow t).heldInReset = s.heldInReset := rfl
@[simp] theorem State.setNow_ready (s : State) (t : Time) : (s.setNow t).ready = s.ready := rfl
@[simp] theorem State.setNow_lastReset (s : State) (t : Time) : (s.setNow t).lastReset = s.lastReset := rfl
@[simp] theorem State.setNow_takenReset (s : State) (t : Time) : (s.setNow t).takenReset = s.takenReset := rfl
@[simp] theorem State.setNow_lineT (s : State) (t : Time) : (s.setNow t).lineT = s.lineT := rfl
@[simp] theorem State.setNow_lineS (s : State) (t : Time) : (s.setNow t).lineS = s.lineS := rfl
@[simp] theorem State.setNow_lineO (s : State) (t : Time) : (s.setNow t).lineO = s.lineO := rfl
@[simp] theorem State.setNow_lsc (s : State) (t : Time) : (s.setNow t).lsc = s.lsc := rfl
@[simp] theorem State.setNow_tables (s : State) (t : Time) : (s.setNow t).tables = s.tables := rfl
@[simp] theorem State.setNow_wnd (s : State) (t : Time) : (s.setNow t).wnd = s.wnd := rfl
@[simp] theorem State.setNow_stu (s : State) (t : Time) : (s.setNow t).stu = s.stu := rfl
@[simp] theorem State.setNow_flu (s : State) (t : Time) : (s.setNow t).flu = s.flu := rfl
@[simp] theorem State.setNow_jtb (s : State) (t : Time) : (s.setNow t).jtb = s.jtb := rfl
@[simp] theorem State.setNow_startList (s : State) (t : Time) : (s.setNow t).startList = s.startList := rfl
@[simp] theorem State.setNow_results (s : State) (t : Time) : (s.setNow t).results = s.results := rfl
@[simp] theorem State.setNow_competition (s : State) (t : Time) : (s.setNow t).competition = s.competition := rfl
@[simp] theorem State.setNow_dsp (s : State) (t : Time) : (s.setNow t).dsp = s.dsp := rfl
@[simp] theorem State.setNow_conditions (s : State) (t : Time) : (s.setNow t).conditions = s.conditions := rfl
@[simp] theorem State.setNow_enables (s : State) (t : Time) : (s.setNow t).enables = s.enables := rfl
@[simp] theorem State.setNow_office (s : State) (t : Time) : (s.setNow t).office = s.office := rfl
@[simp] theorem State.setNow_snapshot (s : State) (t : Time) : (s.setNow t).snapshot = s.snapshot := rfl
@[simp] theorem State.setNow_loadBuffer (s : State) (t : Time) : (s.setNow t).loadBuffer = s.loadBuffer := rfl
@[simp] theorem State.setNow_engine (s : State) (t : Time) : (s.setNow t).engine = s.engine := rfl
@[simp] theorem State.setNow_store (s : State) (t : Time) : (s.setNow t).store = s.store := rfl

/-! ### setLine -/

@[simp] theorem State.setLine_pending (s : State) (p : Port) (u : LineUnit) : (s.setLine p u).pending = s.pending := by cases p <;> rfl
@[simp] theorem State.setLine_heldInReset (s : State) (p : Port) (u : LineUnit) : (s.setLine p u).heldInReset = s.heldInReset := by cases p <;> rfl
@[simp] theorem State.setLine_ready (s : State) (p : Port) (u : LineUnit) : (s.setLine p u).ready = s.ready := by cases p <;> rfl
@[simp] theorem State.setLine_lastReset (s : State) (p : Port) (u : LineUnit) : (s.setLine p u).lastReset = s.lastReset := by cases p <;> rfl
@[simp] theorem State.setLine_takenReset (s : State) (p : Port) (u : LineUnit) : (s.setLine p u).takenReset = s.takenReset := by cases p <;> rfl
@[simp] theorem State.setLine_lsc (s : State) (p : Port) (u : LineUnit) : (s.setLine p u).lsc = s.lsc := by cases p <;> rfl
@[simp] theorem State.setLine_tables (s : State) (p : Port) (u : LineUnit) : (s.setLine p u).tables = s.tables := by cases p <;> rfl
@[simp] theorem State.setLine_hck (s : State) (p : Port) (u : LineUnit) : (s.setLine p u).hck = s.hck := by cases p <;> rfl
@[simp] theorem State.setLine_wnd (s : State) (p : Port) (u : LineUnit) : (s.setLine p u).wnd = s.wnd := by cases p <;> rfl
@[simp] theorem State.setLine_stu (s : State) (p : Port) (u : LineUnit) : (s.setLine p u).stu = s.stu := by cases p <;> rfl
@[simp] theorem State.setLine_flu (s : State) (p : Port) (u : LineUnit) : (s.setLine p u).flu = s.flu := by cases p <;> rfl
@[simp] theorem State.setLine_jtb (s : State) (p : Port) (u : LineUnit) : (s.setLine p u).jtb = s.jtb := by cases p <;> rfl
@[simp] theorem State.setLine_startList (s : State) (p : Port) (u : LineUnit) : (s.setLine p u).startList = s.startList := by cases p <;> rfl
@[simp] theorem State.setLine_results (s : State) (p : Port) (u : LineUnit) : (s.setLine p u).results = s.results := by cases p <;> rfl
@[simp] theorem State.setLine_competition (s : State) (p : Port) (u : LineUnit) : (s.setLine p u).competition = s.competition := by cases p <;> rfl
@[simp] theorem State.setLine_dsp (s : State) (p : Port) (u : LineUnit) : (s.setLine p u).dsp = s.dsp := by cases p <;> rfl
@[simp] theorem State.setLine_conditions (s : State) (p : Port) (u : LineUnit) : (s.setLine p u).conditions = s.conditions := by cases p <;> rfl
@[simp] theorem State.setLine_enables (s : State) (p : Port) (u : LineUnit) : (s.setLine p u).enables = s.enables := by cases p <;> rfl
@[simp] theorem State.setLine_office (s : State) (p : Port) (u : LineUnit) : (s.setLine p u).office = s.office := by cases p <;> rfl
@[simp] theorem State.setLine_snapshot (s : State) (p : Port) (u : LineUnit) : (s.setLine p u).snapshot = s.snapshot := by cases p <;> rfl
@[simp] theorem State.setLine_loadBuffer (s : State) (p : Port) (u : LineUnit) : (s.setLine p u).loadBuffer = s.loadBuffer := by cases p <;> rfl
@[simp] theorem State.setLine_engine (s : State) (p : Port) (u : LineUnit) : (s.setLine p u).engine = s.engine := by cases p <;> rfl
@[simp] theorem State.setLine_store (s : State) (p : Port) (u : LineUnit) : (s.setLine p u).store = s.store := by cases p <;> rfl

/-! ### setSeg -/

@[simp] theorem State.setSeg_pending (s : State) (p : Seg) (g : Segment) : (s.setSeg p g).pending = s.pending := by cases p <;> rfl
@[simp] theorem State.setSeg_heldInReset (s : State) (p : Seg) (g : Segment) : (s.setSeg p g).heldInReset = s.heldInReset := by cases p <;> rfl
@[simp] theorem State.setSeg_ready (s : State) (p : Seg) (g : Segment) : (s.setSeg p g).ready = s.ready := by cases p <;> rfl
@[simp] theorem State.setSeg_lastReset (s : State) (p : Seg) (g : Segment) : (s.setSeg p g).lastReset = s.lastReset := by cases p <;> rfl
@[simp] theorem State.setSeg_takenReset (s : State) (p : Seg) (g : Segment) : (s.setSeg p g).takenReset = s.takenReset := by cases p <;> rfl
@[simp] theorem State.setSeg_lineT (s : State) (p : Seg) (g : Segment) : (s.setSeg p g).lineT = s.lineT := by cases p <;> rfl
@[simp] theorem State.setSeg_lineS (s : State) (p : Seg) (g : Segment) : (s.setSeg p g).lineS = s.lineS := by cases p <;> rfl
@[simp] theorem State.setSeg_lineO (s : State) (p : Seg) (g : Segment) : (s.setSeg p g).lineO = s.lineO := by cases p <;> rfl
@[simp] theorem State.setSeg_tables (s : State) (p : Seg) (g : Segment) : (s.setSeg p g).tables = s.tables := by cases p <;> rfl
@[simp] theorem State.setSeg_hck (s : State) (p : Seg) (g : Segment) : (s.setSeg p g).hck = s.hck := by cases p <;> rfl
@[simp] theorem State.setSeg_wnd (s : State) (p : Seg) (g : Segment) : (s.setSeg p g).wnd = s.wnd := by cases p <;> rfl
@[simp] theorem State.setSeg_stu (s : State) (p : Seg) (g : Segment) : (s.setSeg p g).stu = s.stu := by cases p <;> rfl
@[simp] theorem State.setSeg_flu (s : State) (p : Seg) (g : Segment) : (s.setSeg p g).flu = s.flu := by cases p <;> rfl
@[simp] theorem State.setSeg_jtb (s : State) (p : Seg) (g : Segment) : (s.setSeg p g).jtb = s.jtb := by cases p <;> rfl
@[simp] theorem State.setSeg_startList (s : State) (p : Seg) (g : Segment) : (s.setSeg p g).startList = s.startList := by cases p <;> rfl
@[simp] theorem State.setSeg_results (s : State) (p : Seg) (g : Segment) : (s.setSeg p g).results = s.results := by cases p <;> rfl
@[simp] theorem State.setSeg_competition (s : State) (p : Seg) (g : Segment) : (s.setSeg p g).competition = s.competition := by cases p <;> rfl
@[simp] theorem State.setSeg_dsp (s : State) (p : Seg) (g : Segment) : (s.setSeg p g).dsp = s.dsp := by cases p <;> rfl
@[simp] theorem State.setSeg_conditions (s : State) (p : Seg) (g : Segment) : (s.setSeg p g).conditions = s.conditions := by cases p <;> rfl
@[simp] theorem State.setSeg_enables (s : State) (p : Seg) (g : Segment) : (s.setSeg p g).enables = s.enables := by cases p <;> rfl
@[simp] theorem State.setSeg_office (s : State) (p : Seg) (g : Segment) : (s.setSeg p g).office = s.office := by cases p <;> rfl
@[simp] theorem State.setSeg_snapshot (s : State) (p : Seg) (g : Segment) : (s.setSeg p g).snapshot = s.snapshot := by cases p <;> rfl
@[simp] theorem State.setSeg_loadBuffer (s : State) (p : Seg) (g : Segment) : (s.setSeg p g).loadBuffer = s.loadBuffer := by cases p <;> rfl
@[simp] theorem State.setSeg_engine (s : State) (p : Seg) (g : Segment) : (s.setSeg p g).engine = s.engine := by cases p <;> rfl
@[simp] theorem State.setSeg_store (s : State) (p : Seg) (g : Segment) : (s.setSeg p g).store = s.store := by cases p <;> rfl

/-! ### updateRecord -/

@[simp] theorem State.updateRecord_pending (s : State) (k : Fin 4) (f : JumpRecord → JumpRecord) : (s.updateRecord k f).pending = s.pending := rfl
@[simp] theorem State.updateRecord_heldInReset (s : State) (k : Fin 4) (f : JumpRecord → JumpRecord) : (s.updateRecord k f).heldInReset = s.heldInReset := rfl
@[simp] theorem State.updateRecord_ready (s : State) (k : Fin 4) (f : JumpRecord → JumpRecord) : (s.updateRecord k f).ready = s.ready := rfl
@[simp] theorem State.updateRecord_lastReset (s : State) (k : Fin 4) (f : JumpRecord → JumpRecord) : (s.updateRecord k f).lastReset = s.lastReset := rfl
@[simp] theorem State.updateRecord_takenReset (s : State) (k : Fin 4) (f : JumpRecord → JumpRecord) : (s.updateRecord k f).takenReset = s.takenReset := rfl
@[simp] theorem State.updateRecord_lineT (s : State) (k : Fin 4) (f : JumpRecord → JumpRecord) : (s.updateRecord k f).lineT = s.lineT := rfl
@[simp] theorem State.updateRecord_lineS (s : State) (k : Fin 4) (f : JumpRecord → JumpRecord) : (s.updateRecord k f).lineS = s.lineS := rfl
@[simp] theorem State.updateRecord_lineO (s : State) (k : Fin 4) (f : JumpRecord → JumpRecord) : (s.updateRecord k f).lineO = s.lineO := rfl
@[simp] theorem State.updateRecord_lsc (s : State) (k : Fin 4) (f : JumpRecord → JumpRecord) : (s.updateRecord k f).lsc = s.lsc := rfl
@[simp] theorem State.updateRecord_tables (s : State) (k : Fin 4) (f : JumpRecord → JumpRecord) : (s.updateRecord k f).tables = s.tables := rfl
@[simp] theorem State.updateRecord_hck (s : State) (k : Fin 4) (f : JumpRecord → JumpRecord) : (s.updateRecord k f).hck = s.hck := rfl
@[simp] theorem State.updateRecord_wnd (s : State) (k : Fin 4) (f : JumpRecord → JumpRecord) : (s.updateRecord k f).wnd = s.wnd := rfl
@[simp] theorem State.updateRecord_stu (s : State) (k : Fin 4) (f : JumpRecord → JumpRecord) : (s.updateRecord k f).stu = s.stu := rfl
@[simp] theorem State.updateRecord_flu (s : State) (k : Fin 4) (f : JumpRecord → JumpRecord) : (s.updateRecord k f).flu = s.flu := rfl
@[simp] theorem State.updateRecord_startList (s : State) (k : Fin 4) (f : JumpRecord → JumpRecord) : (s.updateRecord k f).startList = s.startList := rfl
@[simp] theorem State.updateRecord_results (s : State) (k : Fin 4) (f : JumpRecord → JumpRecord) : (s.updateRecord k f).results = s.results := rfl
@[simp] theorem State.updateRecord_competition (s : State) (k : Fin 4) (f : JumpRecord → JumpRecord) : (s.updateRecord k f).competition = s.competition := rfl
@[simp] theorem State.updateRecord_dsp (s : State) (k : Fin 4) (f : JumpRecord → JumpRecord) : (s.updateRecord k f).dsp = s.dsp := rfl
@[simp] theorem State.updateRecord_conditions (s : State) (k : Fin 4) (f : JumpRecord → JumpRecord) : (s.updateRecord k f).conditions = s.conditions := rfl
@[simp] theorem State.updateRecord_enables (s : State) (k : Fin 4) (f : JumpRecord → JumpRecord) : (s.updateRecord k f).enables = s.enables := rfl
@[simp] theorem State.updateRecord_office (s : State) (k : Fin 4) (f : JumpRecord → JumpRecord) : (s.updateRecord k f).office = s.office := rfl
@[simp] theorem State.updateRecord_snapshot (s : State) (k : Fin 4) (f : JumpRecord → JumpRecord) : (s.updateRecord k f).snapshot = s.snapshot := rfl
@[simp] theorem State.updateRecord_loadBuffer (s : State) (k : Fin 4) (f : JumpRecord → JumpRecord) : (s.updateRecord k f).loadBuffer = s.loadBuffer := rfl
@[simp] theorem State.updateRecord_engine (s : State) (k : Fin 4) (f : JumpRecord → JumpRecord) : (s.updateRecord k f).engine = s.engine := rfl
@[simp] theorem State.updateRecord_store (s : State) (k : Fin 4) (f : JumpRecord → JumpRecord) : (s.updateRecord k f).store = s.store := rfl

/-! ### setCondition -/

@[simp] theorem State.setCondition_pending (s : State) (c : CondName) (x : Condition) : (s.setCondition c x).pending = s.pending := rfl
@[simp] theorem State.setCondition_heldInReset (s : State) (c : CondName) (x : Condition) : (s.setCondition c x).heldInReset = s.heldInReset := rfl
@[simp] theorem State.setCondition_ready (s : State) (c : CondName) (x : Condition) : (s.setCondition c x).ready = s.ready := rfl
@[simp] theorem State.setCondition_lastReset (s : State) (c : CondName) (x : Condition) : (s.setCondition c x).lastReset = s.lastReset := rfl
@[simp] theorem State.setCondition_takenReset (s : State) (c : CondName) (x : Condition) : (s.setCondition c x).takenReset = s.takenReset := rfl
@[simp] theorem State.setCondition_lineT (s : State) (c : CondName) (x : Condition) : (s.setCondition c x).lineT = s.lineT := rfl
@[simp] theorem State.setCondition_lineS (s : State) (c : CondName) (x : Condition) : (s.setCondition c x).lineS = s.lineS := rfl
@[simp] theorem State.setCondition_lineO (s : State) (c : CondName) (x : Condition) : (s.setCondition c x).lineO = s.lineO := rfl
@[simp] theorem State.setCondition_lsc (s : State) (c : CondName) (x : Condition) : (s.setCondition c x).lsc = s.lsc := rfl
@[simp] theorem State.setCondition_tables (s : State) (c : CondName) (x : Condition) : (s.setCondition c x).tables = s.tables := rfl
@[simp] theorem State.setCondition_hck (s : State) (c : CondName) (x : Condition) : (s.setCondition c x).hck = s.hck := rfl
@[simp] theorem State.setCondition_wnd (s : State) (c : CondName) (x : Condition) : (s.setCondition c x).wnd = s.wnd := rfl
@[simp] theorem State.setCondition_stu (s : State) (c : CondName) (x : Condition) : (s.setCondition c x).stu = s.stu := rfl
@[simp] theorem State.setCondition_flu (s : State) (c : CondName) (x : Condition) : (s.setCondition c x).flu = s.flu := rfl
@[simp] theorem State.setCondition_jtb (s : State) (c : CondName) (x : Condition) : (s.setCondition c x).jtb = s.jtb := rfl
@[simp] theorem State.setCondition_startList (s : State) (c : CondName) (x : Condition) : (s.setCondition c x).startList = s.startList := rfl
@[simp] theorem State.setCondition_results (s : State) (c : CondName) (x : Condition) : (s.setCondition c x).results = s.results := rfl
@[simp] theorem State.setCondition_competition (s : State) (c : CondName) (x : Condition) : (s.setCondition c x).competition = s.competition := rfl
@[simp] theorem State.setCondition_dsp (s : State) (c : CondName) (x : Condition) : (s.setCondition c x).dsp = s.dsp := rfl
@[simp] theorem State.setCondition_enables (s : State) (c : CondName) (x : Condition) : (s.setCondition c x).enables = s.enables := rfl
@[simp] theorem State.setCondition_office (s : State) (c : CondName) (x : Condition) : (s.setCondition c x).office = s.office := rfl
@[simp] theorem State.setCondition_snapshot (s : State) (c : CondName) (x : Condition) : (s.setCondition c x).snapshot = s.snapshot := rfl
@[simp] theorem State.setCondition_loadBuffer (s : State) (c : CondName) (x : Condition) : (s.setCondition c x).loadBuffer = s.loadBuffer := rfl
@[simp] theorem State.setCondition_engine (s : State) (c : CondName) (x : Condition) : (s.setCondition c x).engine = s.engine := rfl
@[simp] theorem State.setCondition_store (s : State) (c : CondName) (x : Condition) : (s.setCondition c x).store = s.store := rfl

/-! ### setLink -/

@[simp] theorem State.setLink_pending (s : State) (l : Link) : (s.setLink l).pending = s.pending := rfl
@[simp] theorem State.setLink_heldInReset (s : State) (l : Link) : (s.setLink l).heldInReset = s.heldInReset := rfl
@[simp] theorem State.setLink_ready (s : State) (l : Link) : (s.setLink l).ready = s.ready := rfl
@[simp] theorem State.setLink_lastReset (s : State) (l : Link) : (s.setLink l).lastReset = s.lastReset := rfl
@[simp] theorem State.setLink_takenReset (s : State) (l : Link) : (s.setLink l).takenReset = s.takenReset := rfl
@[simp] theorem State.setLink_lineT (s : State) (l : Link) : (s.setLink l).lineT = s.lineT := rfl
@[simp] theorem State.setLink_lineS (s : State) (l : Link) : (s.setLink l).lineS = s.lineS := rfl
@[simp] theorem State.setLink_lineO (s : State) (l : Link) : (s.setLink l).lineO = s.lineO := rfl
@[simp] theorem State.setLink_tables (s : State) (l : Link) : (s.setLink l).tables = s.tables := rfl
@[simp] theorem State.setLink_hck (s : State) (l : Link) : (s.setLink l).hck = s.hck := rfl
@[simp] theorem State.setLink_wnd (s : State) (l : Link) : (s.setLink l).wnd = s.wnd := rfl
@[simp] theorem State.setLink_stu (s : State) (l : Link) : (s.setLink l).stu = s.stu := rfl
@[simp] theorem State.setLink_flu (s : State) (l : Link) : (s.setLink l).flu = s.flu := rfl
@[simp] theorem State.setLink_jtb (s : State) (l : Link) : (s.setLink l).jtb = s.jtb := rfl
@[simp] theorem State.setLink_startList (s : State) (l : Link) : (s.setLink l).startList = s.startList := rfl
@[simp] theorem State.setLink_results (s : State) (l : Link) : (s.setLink l).results = s.results := rfl
@[simp] theorem State.setLink_competition (s : State) (l : Link) : (s.setLink l).competition = s.competition := rfl
@[simp] theorem State.setLink_dsp (s : State) (l : Link) : (s.setLink l).dsp = s.dsp := rfl
@[simp] theorem State.setLink_conditions (s : State) (l : Link) : (s.setLink l).conditions = s.conditions := rfl
@[simp] theorem State.setLink_enables (s : State) (l : Link) : (s.setLink l).enables = s.enables := rfl
@[simp] theorem State.setLink_office (s : State) (l : Link) : (s.setLink l).office = s.office := rfl
@[simp] theorem State.setLink_snapshot (s : State) (l : Link) : (s.setLink l).snapshot = s.snapshot := rfl
@[simp] theorem State.setLink_loadBuffer (s : State) (l : Link) : (s.setLink l).loadBuffer = s.loadBuffer := rfl
@[simp] theorem State.setLink_engine (s : State) (l : Link) : (s.setLink l).engine = s.engine := rfl
@[simp] theorem State.setLink_store (s : State) (l : Link) : (s.setLink l).store = s.store := rfl

/-! ### startSending -/

@[simp] theorem State.startSending_pending (s : State) (f : OfficeFrame) : (s.startSending f).pending = s.pending := rfl
@[simp] theorem State.startSending_heldInReset (s : State) (f : OfficeFrame) : (s.startSending f).heldInReset = s.heldInReset := rfl
@[simp] theorem State.startSending_ready (s : State) (f : OfficeFrame) : (s.startSending f).ready = s.ready := rfl
@[simp] theorem State.startSending_lastReset (s : State) (f : OfficeFrame) : (s.startSending f).lastReset = s.lastReset := rfl
@[simp] theorem State.startSending_takenReset (s : State) (f : OfficeFrame) : (s.startSending f).takenReset = s.takenReset := rfl
@[simp] theorem State.startSending_lineT (s : State) (f : OfficeFrame) : (s.startSending f).lineT = s.lineT := rfl
@[simp] theorem State.startSending_lineS (s : State) (f : OfficeFrame) : (s.startSending f).lineS = s.lineS := rfl
@[simp] theorem State.startSending_lsc (s : State) (f : OfficeFrame) : (s.startSending f).lsc = s.lsc := rfl
@[simp] theorem State.startSending_tables (s : State) (f : OfficeFrame) : (s.startSending f).tables = s.tables := rfl
@[simp] theorem State.startSending_hck (s : State) (f : OfficeFrame) : (s.startSending f).hck = s.hck := rfl
@[simp] theorem State.startSending_wnd (s : State) (f : OfficeFrame) : (s.startSending f).wnd = s.wnd := rfl
@[simp] theorem State.startSending_stu (s : State) (f : OfficeFrame) : (s.startSending f).stu = s.stu := rfl
@[simp] theorem State.startSending_flu (s : State) (f : OfficeFrame) : (s.startSending f).flu = s.flu := rfl
@[simp] theorem State.startSending_jtb (s : State) (f : OfficeFrame) : (s.startSending f).jtb = s.jtb := rfl
@[simp] theorem State.startSending_startList (s : State) (f : OfficeFrame) : (s.startSending f).startList = s.startList := rfl
@[simp] theorem State.startSending_results (s : State) (f : OfficeFrame) : (s.startSending f).results = s.results := rfl
@[simp] theorem State.startSending_competition (s : State) (f : OfficeFrame) : (s.startSending f).competition = s.competition := rfl
@[simp] theorem State.startSending_dsp (s : State) (f : OfficeFrame) : (s.startSending f).dsp = s.dsp := rfl
@[simp] theorem State.startSending_conditions (s : State) (f : OfficeFrame) : (s.startSending f).conditions = s.conditions := rfl
@[simp] theorem State.startSending_enables (s : State) (f : OfficeFrame) : (s.startSending f).enables = s.enables := rfl
@[simp] theorem State.startSending_snapshot (s : State) (f : OfficeFrame) : (s.startSending f).snapshot = s.snapshot := rfl
@[simp] theorem State.startSending_loadBuffer (s : State) (f : OfficeFrame) : (s.startSending f).loadBuffer = s.loadBuffer := rfl
@[simp] theorem State.startSending_engine (s : State) (f : OfficeFrame) : (s.startSending f).engine = s.engine := rfl
@[simp] theorem State.startSending_store (s : State) (f : OfficeFrame) : (s.startSending f).store = s.store := rfl

/-! ### deriveLamp -/

@[simp] theorem State.deriveLamp_pending (s : State) : (s.deriveLamp).pending = s.pending := rfl
@[simp] theorem State.deriveLamp_heldInReset (s : State) : (s.deriveLamp).heldInReset = s.heldInReset := rfl
@[simp] theorem State.deriveLamp_ready (s : State) : (s.deriveLamp).ready = s.ready := rfl
@[simp] theorem State.deriveLamp_lastReset (s : State) : (s.deriveLamp).lastReset = s.lastReset := rfl
@[simp] theorem State.deriveLamp_takenReset (s : State) : (s.deriveLamp).takenReset = s.takenReset := rfl
@[simp] theorem State.deriveLamp_lineT (s : State) : (s.deriveLamp).lineT = s.lineT := rfl
@[simp] theorem State.deriveLamp_lineS (s : State) : (s.deriveLamp).lineS = s.lineS := rfl
@[simp] theorem State.deriveLamp_lineO (s : State) : (s.deriveLamp).lineO = s.lineO := rfl
@[simp] theorem State.deriveLamp_tables (s : State) : (s.deriveLamp).tables = s.tables := rfl
@[simp] theorem State.deriveLamp_hck (s : State) : (s.deriveLamp).hck = s.hck := rfl
@[simp] theorem State.deriveLamp_wnd (s : State) : (s.deriveLamp).wnd = s.wnd := rfl
@[simp] theorem State.deriveLamp_flu (s : State) : (s.deriveLamp).flu = s.flu := rfl
@[simp] theorem State.deriveLamp_jtb (s : State) : (s.deriveLamp).jtb = s.jtb := rfl
@[simp] theorem State.deriveLamp_startList (s : State) : (s.deriveLamp).startList = s.startList := rfl
@[simp] theorem State.deriveLamp_results (s : State) : (s.deriveLamp).results = s.results := rfl
@[simp] theorem State.deriveLamp_competition (s : State) : (s.deriveLamp).competition = s.competition := rfl
@[simp] theorem State.deriveLamp_dsp (s : State) : (s.deriveLamp).dsp = s.dsp := rfl
@[simp] theorem State.deriveLamp_conditions (s : State) : (s.deriveLamp).conditions = s.conditions := rfl
@[simp] theorem State.deriveLamp_enables (s : State) : (s.deriveLamp).enables = s.enables := rfl
@[simp] theorem State.deriveLamp_office (s : State) : (s.deriveLamp).office = s.office := rfl
@[simp] theorem State.deriveLamp_snapshot (s : State) : (s.deriveLamp).snapshot = s.snapshot := rfl
@[simp] theorem State.deriveLamp_loadBuffer (s : State) : (s.deriveLamp).loadBuffer = s.loadBuffer := rfl
@[simp] theorem State.deriveLamp_engine (s : State) : (s.deriveLamp).engine = s.engine := rfl
@[simp] theorem State.deriveLamp_store (s : State) : (s.deriveLamp).store = s.store := rfl

/-! ### pushMark -/

@[simp] theorem State.pushMark_pending (s : State) : (s.pushMark).pending = s.pending := rfl
@[simp] theorem State.pushMark_heldInReset (s : State) : (s.pushMark).heldInReset = s.heldInReset := rfl
@[simp] theorem State.pushMark_ready (s : State) : (s.pushMark).ready = s.ready := rfl
@[simp] theorem State.pushMark_lastReset (s : State) : (s.pushMark).lastReset = s.lastReset := rfl
@[simp] theorem State.pushMark_takenReset (s : State) : (s.pushMark).takenReset = s.takenReset := rfl
@[simp] theorem State.pushMark_lineT (s : State) : (s.pushMark).lineT = s.lineT := rfl
@[simp] theorem State.pushMark_lineS (s : State) : (s.pushMark).lineS = s.lineS := rfl
@[simp] theorem State.pushMark_lineO (s : State) : (s.pushMark).lineO = s.lineO := rfl
@[simp] theorem State.pushMark_tables (s : State) : (s.pushMark).tables = s.tables := rfl
@[simp] theorem State.pushMark_wnd (s : State) : (s.pushMark).wnd = s.wnd := rfl
@[simp] theorem State.pushMark_stu (s : State) : (s.pushMark).stu = s.stu := rfl
@[simp] theorem State.pushMark_flu (s : State) : (s.pushMark).flu = s.flu := rfl
@[simp] theorem State.pushMark_jtb (s : State) : (s.pushMark).jtb = s.jtb := rfl
@[simp] theorem State.pushMark_startList (s : State) : (s.pushMark).startList = s.startList := rfl
@[simp] theorem State.pushMark_results (s : State) : (s.pushMark).results = s.results := rfl
@[simp] theorem State.pushMark_competition (s : State) : (s.pushMark).competition = s.competition := rfl
@[simp] theorem State.pushMark_dsp (s : State) : (s.pushMark).dsp = s.dsp := rfl
@[simp] theorem State.pushMark_conditions (s : State) : (s.pushMark).conditions = s.conditions := rfl
@[simp] theorem State.pushMark_enables (s : State) : (s.pushMark).enables = s.enables := rfl
@[simp] theorem State.pushMark_office (s : State) : (s.pushMark).office = s.office := rfl
@[simp] theorem State.pushMark_snapshot (s : State) : (s.pushMark).snapshot = s.snapshot := rfl
@[simp] theorem State.pushMark_loadBuffer (s : State) : (s.pushMark).loadBuffer = s.loadBuffer := rfl
@[simp] theorem State.pushMark_engine (s : State) : (s.pushMark).engine = s.engine := rfl
@[simp] theorem State.pushMark_store (s : State) : (s.pushMark).store = s.store := rfl

/-! ### The fields the updates write -/

@[simp] theorem State.now_setNow (s : State) (t : Time) : (s.setNow t).now = t := rfl
@[simp] theorem State.setNow_hck (s : State) (t : Time) : (s.setNow t).hck = { s.hck with time := t } := rfl
@[simp] theorem State.line_setLine_self (s : State) (p : Port) (u : LineUnit) : (s.setLine p u).line p = u := by
  cases p <;> rfl
theorem State.line_setLine_ne (s : State) (p q : Port) (u : LineUnit) (h : q ≠ p) : (s.setLine p u).line q = s.line q := by
  cases p <;> cases q <;> first | rfl | exact absurd rfl h
@[simp] theorem State.seg_setSeg_self (s : State) (p : Seg) (g : Segment) : (s.setSeg p g).seg p = g := by
  cases p <;> rfl
theorem State.seg_setSeg_ne (s : State) (p q : Seg) (g : Segment) (h : q ≠ p) : (s.setSeg p g).seg q = s.seg q := by
  cases p <;> cases q <;> first | rfl | exact absurd rfl h
@[simp] theorem State.setLine_line_self (s : State) (p : Port) : s.setLine p (s.line p) = s := by cases p <;> rfl
@[simp] theorem State.setSeg_seg_self (s : State) (p : Seg) : s.setSeg p (s.seg p) = s := by cases p <;> rfl
@[simp] theorem State.now_setSeg (s : State) (p : Seg) (g : Segment) : (s.setSeg p g).now = s.now := by cases p <;> rfl
@[simp] theorem State.now_setLine (s : State) (p : Port) (u : LineUnit) : (s.setLine p u).now = s.now := by cases p <;> rfl
@[simp] theorem State.now_updateRecord (s : State) (k : Fin 4) (f : JumpRecord → JumpRecord) :
    (s.updateRecord k f).now = s.now := rfl
@[simp] theorem State.now_setCondition (s : State) (c : CondName) (x : Condition) : (s.setCondition c x).now = s.now := rfl
@[simp] theorem State.now_deriveLamp (s : State) : s.deriveLamp.now = s.now := rfl
@[simp] theorem State.setSeg_links (s : State) (p : Seg) (g : Segment) : (s.setSeg p g).lsc.links = s.lsc.links := by
  cases p <;> rfl
@[simp] theorem State.setSeg_lampSlot (s : State) (p : Seg) (g : Segment) : (s.setSeg p g).lsc.lampSlot = s.lsc.lampSlot := by
  cases p <;> rfl
@[simp] theorem State.setSeg_cycleCount (s : State) (p : Seg) (g : Segment) :
    (s.setSeg p g).lsc.cycleCount = s.lsc.cycleCount := by
  cases p <;> rfl
@[simp] theorem State.seg_setLine (s : State) (p : Port) (u : LineUnit) (q : Seg) : (s.setLine p u).seg q = s.seg q := by
  cases p <;> cases q <;> rfl
@[simp] theorem State.line_setSeg (s : State) (p : Seg) (g : Segment) (q : Port) : (s.setSeg p g).line q = s.line q := by
  cases p <;> cases q <;> rfl
@[simp] theorem Conditions.get_set_self (cs : Conditions) (c : CondName) (x : Condition) : (cs.set c x).get c = x := by
  cases c <;> rfl
theorem Conditions.get_set_ne (cs : Conditions) (c d : CondName) (x : Condition) (h : d ≠ c) :
    (cs.set c x).get d = cs.get d := by
  cases c <;> cases d <;> first | rfl | exact absurd rfl h
@[simp] theorem JumpTable.get_set_self (t : JumpTable) (k : Fin 4) (r : Option JumpRecord) : (t.set k r).get k = r := by
  match k with
  | 0 => rfl
  | 1 => rfl
  | 2 => rfl
  | 3 => rfl
theorem JumpTable.get_set_ne (t : JumpTable) (j k : Fin 4) (r : Option JumpRecord) (h : j ≠ k) :
    (t.set k r).get j = t.get j := by
  match j, k with
  | 0, 0 | 1, 1 | 2, 2 | 3, 3 => exact absurd rfl h
  | 0, 1 | 0, 2 | 0, 3 | 1, 0 | 1, 2 | 1, 3 | 2, 0 | 2, 1 | 2, 3 | 3, 0 | 3, 1 | 3, 2 => rfl
@[simp] theorem JumpTable.set_get_self (t : JumpTable) (k : Fin 4) : t.set k (t.get k) = t := by
  match k with
  | 0 => rfl
  | 1 => rfl
  | 2 => rfl
  | 3 => rfl
@[simp] theorem JumpTable.set_set (t : JumpTable) (k : Fin 4) (a b : Option JumpRecord) : (t.set k a).set k b = t.set k b := by
  match k with
  | 0 => rfl
  | 1 => rfl
  | 2 => rfl
  | 3 => rfl

/-- The records are the occupied slots. -/
theorem JumpTable.mem_records (t : JumpTable) (k : Fin 4) (r : JumpRecord) : (k, r) ∈ t.records ↔ t.get k = some r := by
  obtain ⟨a, b, c, d⟩ := t
  match k with
  | 0 => cases a <;> cases b <;> cases c <;> cases d <;> simp [records, get, eq_comm]
  | 1 => cases a <;> cases b <;> cases c <;> cases d <;> simp [records, get, eq_comm]
  | 2 => cases a <;> cases b <;> cases c <;> cases d <;> simp [records, get, eq_comm]
  | 3 => cases a <;> cases b <;> cases c <;> cases d <;> simp [records, get, eq_comm]

/-- A record found stands in its slot and meets the test. -/
theorem JumpTable.find_some {t : JumpTable} {p : JumpRecord → Bool} {k : Fin 4} {r : JumpRecord}
    (h : t.find p = some (k, r)) : t.get k = some r ∧ p r = true := by
  refine ⟨(t.mem_records k r).1 (List.mem_of_find?_eq_some h), ?_⟩
  simpa using List.find?_some h

/-- No record meets a test that finds none. -/
theorem JumpTable.find_none {t : JumpTable} {p : JumpRecord → Bool} (h : t.find p = none) (k : Fin 4) (r : JumpRecord)
    (hr : t.get k = some r) : p r = false := by
  have := List.find?_eq_none.1 h (k, r) ((t.mem_records k r).2 hr)
  simpa using this

end Sys2Proof.Machine
end

