-- ==== Sys2Proof/Laws/Frames.lean ====
section
/-! SUPPORT. For each shared operation that reports, mirrors or sends pages: the fields it may change, once, and every other
field as it leaves it. -/

namespace Sys2Proof.Machine

/-- `loseReport` changes conditions and office at most. -/
theorem State.loseReport_frame (s : State) (kind : Nat) :
    ∃ (x0 : Conditions) (x1 : OfficeQueue), s.loseReport kind = { s with conditions := x0, office := x1 } := by
  unfold State.loseReport
  split
  · exact ⟨_, _, rfl⟩
  · exact ⟨_, _, rfl⟩

@[simp] theorem State.loseReport_pending (s : State) (kind : Nat) : (s.loseReport kind).pending = s.pending := by
  obtain ⟨_, _, h⟩ := s.loseReport_frame kind
  rw [h]
@[simp] theorem State.loseReport_heldInReset (s : State) (kind : Nat) : (s.loseReport kind).heldInReset = s.heldInReset := by
  obtain ⟨_, _, h⟩ := s.loseReport_frame kind
  rw [h]
@[simp] theorem State.loseReport_ready (s : State) (kind : Nat) : (s.loseReport kind).ready = s.ready := by
  obtain ⟨_, _, h⟩ := s.loseReport_frame kind
  rw [h]
@[simp] theorem State.loseReport_lastReset (s : State) (kind : Nat) : (s.loseReport kind).lastReset = s.lastReset := by
  obtain ⟨_, _, h⟩ := s.loseReport_frame kind
  rw [h]
@[simp] theorem State.loseReport_takenReset (s : State) (kind : Nat) : (s.loseReport kind).takenReset = s.takenReset := by
  obtain ⟨_, _, h⟩ := s.loseReport_frame kind
  rw [h]
@[simp] theorem State.loseReport_lineT (s : State) (kind : Nat) : (s.loseReport kind).lineT = s.lineT := by
  obtain ⟨_, _, h⟩ := s.loseReport_frame kind
  rw [h]
@[simp] theorem State.loseReport_lineS (s : State) (kind : Nat) : (s.loseReport kind).lineS = s.lineS := by
  obtain ⟨_, _, h⟩ := s.loseReport_frame kind
  rw [h]
@[simp] theorem State.loseReport_lineO (s : State) (kind : Nat) : (s.loseReport kind).lineO = s.lineO := by
  obtain ⟨_, _, h⟩ := s.loseReport_frame kind
  rw [h]
@[simp] theorem State.loseReport_lsc (s : State) (kind : Nat) : (s.loseReport kind).lsc = s.lsc := by
  obtain ⟨_, _, h⟩ := s.loseReport_frame kind
  rw [h]
@[simp] theorem State.loseReport_tables (s : State) (kind : Nat) : (s.loseReport kind).tables = s.tables := by
  obtain ⟨_, _, h⟩ := s.loseReport_frame kind
  rw [h]
@[simp] theorem State.loseReport_hck (s : State) (kind : Nat) : (s.loseReport kind).hck = s.hck := by
  obtain ⟨_, _, h⟩ := s.loseReport_frame kind
  rw [h]
@[simp] theorem State.loseReport_wnd (s : State) (kind : Nat) : (s.loseReport kind).wnd = s.wnd := by
  obtain ⟨_, _, h⟩ := s.loseReport_frame kind
  rw [h]
@[simp] theorem State.loseReport_stu (s : State) (kind : Nat) : (s.loseReport kind).stu = s.stu := by
  obtain ⟨_, _, h⟩ := s.loseReport_frame kind
  rw [h]
@[simp] theorem State.loseReport_flu (s : State) (kind : Nat) : (s.loseReport kind).flu = s.flu := by
  obtain ⟨_, _, h⟩ := s.loseReport_frame kind
  rw [h]
@[simp] theorem State.loseReport_jtb (s : State) (kind : Nat) : (s.loseReport kind).jtb = s.jtb := by
  obtain ⟨_, _, h⟩ := s.loseReport_frame kind
  rw [h]
@[simp] theorem State.loseReport_startList (s : State) (kind : Nat) : (s.loseReport kind).startList = s.startList := by
  obtain ⟨_, _, h⟩ := s.loseReport_frame kind
  rw [h]
@[simp] theorem State.loseReport_results (s : State) (kind : Nat) : (s.loseReport kind).results = s.results := by
  obtain ⟨_, _, h⟩ := s.loseReport_frame kind
  rw [h]
@[simp] theorem State.loseReport_competition (s : State) (kind : Nat) : (s.loseReport kind).competition = s.competition := by
  obtain ⟨_, _, h⟩ := s.loseReport_frame kind
  rw [h]
@[simp] theorem State.loseReport_dsp (s : State) (kind : Nat) : (s.loseReport kind).dsp = s.dsp := by
  obtain ⟨_, _, h⟩ := s.loseReport_frame kind
  rw [h]
@[simp] theorem State.loseReport_enables (s : State) (kind : Nat) : (s.loseReport kind).enables = s.enables := by
  obtain ⟨_, _, h⟩ := s.loseReport_frame kind
  rw [h]
@[simp] theorem State.loseReport_snapshot (s : State) (kind : Nat) : (s.loseReport kind).snapshot = s.snapshot := by
  obtain ⟨_, _, h⟩ := s.loseReport_frame kind
  rw [h]
@[simp] theorem State.loseReport_loadBuffer (s : State) (kind : Nat) : (s.loseReport kind).loadBuffer = s.loadBuffer := by
  obtain ⟨_, _, h⟩ := s.loseReport_frame kind
  rw [h]
@[simp] theorem State.loseReport_engine (s : State) (kind : Nat) : (s.loseReport kind).engine = s.engine := by
  obtain ⟨_, _, h⟩ := s.loseReport_frame kind
  rw [h]
@[simp] theorem State.loseReport_store (s : State) (kind : Nat) : (s.loseReport kind).store = s.store := by
  obtain ⟨_, _, h⟩ := s.loseReport_frame kind
  rw [h]
@[simp] theorem State.now_loseReport (s : State) (kind : Nat) : (s.loseReport kind).now = s.now := by
  simp [State.now]

/-- `offerReport` changes conditions and office at most. -/
theorem State.offerReport_frame (s : State) (r : Report) :
    ∃ (x0 : Conditions) (x1 : OfficeQueue), s.offerReport r = { s with conditions := x0, office := x1 } := by
  unfold State.offerReport
  split
  · exact ⟨_, _, rfl⟩
  · exact s.loseReport_frame _

@[simp] theorem State.offerReport_pending (s : State) (r : Report) : (s.offerReport r).pending = s.pending := by
  obtain ⟨_, _, h⟩ := s.offerReport_frame r
  rw [h]
@[simp] theorem State.offerReport_heldInReset (s : State) (r : Report) : (s.offerReport r).heldInReset = s.heldInReset := by
  obtain ⟨_, _, h⟩ := s.offerReport_frame r
  rw [h]
@[simp] theorem State.offerReport_ready (s : State) (r : Report) : (s.offerReport r).ready = s.ready := by
  obtain ⟨_, _, h⟩ := s.offerReport_frame r
  rw [h]
@[simp] theorem State.offerReport_lastReset (s : State) (r : Report) : (s.offerReport r).lastReset = s.lastReset := by
  obtain ⟨_, _, h⟩ := s.offerReport_frame r
  rw [h]
@[simp] theorem State.offerReport_takenReset (s : State) (r : Report) : (s.offerReport r).takenReset = s.takenReset := by
  obtain ⟨_, _, h⟩ := s.offerReport_frame r
  rw [h]
@[simp] theorem State.offerReport_lineT (s : State) (r : Report) : (s.offerReport r).lineT = s.lineT := by
  obtain ⟨_, _, h⟩ := s.offerReport_frame r
  rw [h]
@[simp] theorem State.offerReport_lineS (s : State) (r : Report) : (s.offerReport r).lineS = s.lineS := by
  obtain ⟨_, _, h⟩ := s.offerReport_frame r
  rw [h]
@[simp] theorem State.offerReport_lineO (s : State) (r : Report) : (s.offerReport r).lineO = s.lineO := by
  obtain ⟨_, _, h⟩ := s.offerReport_frame r
  rw [h]
@[simp] theorem State.offerReport_lsc (s : State) (r : Report) : (s.offerReport r).lsc = s.lsc := by
  obtain ⟨_, _, h⟩ := s.offerReport_frame r
  rw [h]
@[simp] theorem State.offerReport_tables (s : State) (r : Report) : (s.offerReport r).tables = s.tables := by
  obtain ⟨_, _, h⟩ := s.offerReport_frame r
  rw [h]
@[simp] theorem State.offerReport_hck (s : State) (r : Report) : (s.offerReport r).hck = s.hck := by
  obtain ⟨_, _, h⟩ := s.offerReport_frame r
  rw [h]
@[simp] theorem State.offerReport_wnd (s : State) (r : Report) : (s.offerReport r).wnd = s.wnd := by
  obtain ⟨_, _, h⟩ := s.offerReport_frame r
  rw [h]
@[simp] theorem State.offerReport_stu (s : State) (r : Report) : (s.offerReport r).stu = s.stu := by
  obtain ⟨_, _, h⟩ := s.offerReport_frame r
  rw [h]
@[simp] theorem State.offerReport_flu (s : State) (r : Report) : (s.offerReport r).flu = s.flu := by
  obtain ⟨_, _, h⟩ := s.offerReport_frame r
  rw [h]
@[simp] theorem State.offerReport_jtb (s : State) (r : Report) : (s.offerReport r).jtb = s.jtb := by
  obtain ⟨_, _, h⟩ := s.offerReport_frame r
  rw [h]
@[simp] theorem State.offerReport_startList (s : State) (r : Report) : (s.offerReport r).startList = s.startList := by
  obtain ⟨_, _, h⟩ := s.offerReport_frame r
  rw [h]
@[simp] theorem State.offerReport_results (s : State) (r : Report) : (s.offerReport r).results = s.results := by
  obtain ⟨_, _, h⟩ := s.offerReport_frame r
  rw [h]
@[simp] theorem State.offerReport_competition (s : State) (r : Report) : (s.offerReport r).competition = s.competition := by
  obtain ⟨_, _, h⟩ := s.offerReport_frame r
  rw [h]
@[simp] theorem State.offerReport_dsp (s : State) (r : Report) : (s.offerReport r).dsp = s.dsp := by
  obtain ⟨_, _, h⟩ := s.offerReport_frame r
  rw [h]
@[simp] theorem State.offerReport_enables (s : State) (r : Report) : (s.offerReport r).enables = s.enables := by
  obtain ⟨_, _, h⟩ := s.offerReport_frame r
  rw [h]
@[simp] theorem State.offerReport_snapshot (s : State) (r : Report) : (s.offerReport r).snapshot = s.snapshot := by
  obtain ⟨_, _, h⟩ := s.offerReport_frame r
  rw [h]
@[simp] theorem State.offerReport_loadBuffer (s : State) (r : Report) : (s.offerReport r).loadBuffer = s.loadBuffer := by
  obtain ⟨_, _, h⟩ := s.offerReport_frame r
  rw [h]
@[simp] theorem State.offerReport_engine (s : State) (r : Report) : (s.offerReport r).engine = s.engine := by
  obtain ⟨_, _, h⟩ := s.offerReport_frame r
  rw [h]
@[simp] theorem State.offerReport_store (s : State) (r : Report) : (s.offerReport r).store = s.store := by
  obtain ⟨_, _, h⟩ := s.offerReport_frame r
  rw [h]
@[simp] theorem State.now_offerReport (s : State) (r : Report) : (s.offerReport r).now = s.now := by
  simp [State.now]

/-- `offerCondition` changes conditions and office at most. -/
theorem State.offerCondition_frame (s : State) (c : CondName) :
    ∃ (x0 : Conditions) (x1 : OfficeQueue), s.offerCondition c = { s with conditions := x0, office := x1 } := by
  unfold State.offerCondition
  split
  · exact s.offerReport_frame _
  · exact ⟨_, _, rfl⟩

@[simp] theorem State.offerCondition_pending (s : State) (c : CondName) : (s.offerCondition c).pending = s.pending := by
  obtain ⟨_, _, h⟩ := s.offerCondition_frame c
  rw [h]
@[simp] theorem State.offerCondition_heldInReset (s : State) (c : CondName) : (s.offerCondition c).heldInReset = s.heldInReset := by
  obtain ⟨_, _, h⟩ := s.offerCondition_frame c
  rw [h]
@[simp] theorem State.offerCondition_ready (s : State) (c : CondName) : (s.offerCondition c).ready = s.ready := by
  obtain ⟨_, _, h⟩ := s.offerCondition_frame c
  rw [h]
@[simp] theorem State.offerCondition_lastReset (s : State) (c : CondName) : (s.offerCondition c).lastReset = s.lastReset := by
  obtain ⟨_, _, h⟩ := s.offerCondition_frame c
  rw [h]
@[simp] theorem State.offerCondition_takenReset (s : State) (c : CondName) : (s.offerCondition c).takenReset = s.takenReset := by
  obtain ⟨_, _, h⟩ := s.offerCondition_frame c
  rw [h]
@[simp] theorem State.offerCondition_lineT (s : State) (c : CondName) : (s.offerCondition c).lineT = s.lineT := by
  obtain ⟨_, _, h⟩ := s.offerCondition_frame c
  rw [h]
@[simp] theorem State.offerCondition_lineS (s : State) (c : CondName) : (s.offerCondition c).lineS = s.lineS := by
  obtain ⟨_, _, h⟩ := s.offerCondition_frame c
  rw [h]
@[simp] theorem State.offerCondition_lineO (s : State) (c : CondName) : (s.offerCondition c).lineO = s.lineO := by
  obtain ⟨_, _, h⟩ := s.offerCondition_frame c
  rw [h]
@[simp] theorem State.offerCondition_lsc (s : State) (c : CondName) : (s.offerCondition c).lsc = s.lsc := by
  obtain ⟨_, _, h⟩ := s.offerCondition_frame c
  rw [h]
@[simp] theorem State.offerCondition_tables (s : State) (c : CondName) : (s.offerCondition c).tables = s.tables := by
  obtain ⟨_, _, h⟩ := s.offerCondition_frame c
  rw [h]
@[simp] theorem State.offerCondition_hck (s : State) (c : CondName) : (s.offerCondition c).hck = s.hck := by
  obtain ⟨_, _, h⟩ := s.offerCondition_frame c
  rw [h]
@[simp] theorem State.offerCondition_wnd (s : State) (c : CondName) : (s.offerCondition c).wnd = s.wnd := by
  obtain ⟨_, _, h⟩ := s.offerCondition_frame c
  rw [h]
@[simp] theorem State.offerCondition_stu (s : State) (c : CondName) : (s.offerCondition c).stu = s.stu := by
  obtain ⟨_, _, h⟩ := s.offerCondition_frame c
  rw [h]
@[simp] theorem State.offerCondition_flu (s : State) (c : CondName) : (s.offerCondition c).flu = s.flu := by
  obtain ⟨_, _, h⟩ := s.offerCondition_frame c
  rw [h]
@[simp] theorem State.offerCondition_jtb (s : State) (c : CondName) : (s.offerCondition c).jtb = s.jtb := by
  obtain ⟨_, _, h⟩ := s.offerCondition_frame c
  rw [h]
@[simp] theorem State.offerCondition_startList (s : State) (c : CondName) : (s.offerCondition c).startList = s.startList := by
  obtain ⟨_, _, h⟩ := s.offerCondition_frame c
  rw [h]
@[simp] theorem State.offerCondition_results (s : State) (c : CondName) : (s.offerCondition c).results = s.results := by
  obtain ⟨_, _, h⟩ := s.offerCondition_frame c
  rw [h]
@[simp] theorem State.offerCondition_competition (s : State) (c : CondName) : (s.offerCondition c).competition = s.competition := by
  obtain ⟨_, _, h⟩ := s.offerCondition_frame c
  rw [h]
@[simp] theorem State.offerCondition_dsp (s : State) (c : CondName) : (s.offerCondition c).dsp = s.dsp := by
  obtain ⟨_, _, h⟩ := s.offerCondition_frame c
  rw [h]
@[simp] theorem State.offerCondition_enables (s : State) (c : CondName) : (s.offerCondition c).enables = s.enables := by
  obtain ⟨_, _, h⟩ := s.offerCondition_frame c
  rw [h]
@[simp] theorem State.offerCondition_snapshot (s : State) (c : CondName) : (s.offerCondition c).snapshot = s.snapshot := by
  obtain ⟨_, _, h⟩ := s.offerCondition_frame c
  rw [h]
@[simp] theorem State.offerCondition_loadBuffer (s : State) (c : CondName) : (s.offerCondition c).loadBuffer = s.loadBuffer := by
  obtain ⟨_, _, h⟩ := s.offerCondition_frame c
  rw [h]
@[simp] theorem State.offerCondition_engine (s : State) (c : CondName) : (s.offerCondition c).engine = s.engine := by
  obtain ⟨_, _, h⟩ := s.offerCondition_frame c
  rw [h]
@[simp] theorem State.offerCondition_store (s : State) (c : CondName) : (s.offerCondition c).store = s.store := by
  obtain ⟨_, _, h⟩ := s.offerCondition_frame c
  rw [h]
@[simp] theorem State.now_offerCondition (s : State) (c : CondName) : (s.offerCondition c).now = s.now := by
  simp [State.now]

/-- `raise` changes conditions and office at most. -/
theorem State.raise_frame (s : State) (c : CondName) (argument : Nat) :
    ∃ (x0 : Conditions) (x1 : OfficeQueue), s.raise c argument = { s with conditions := x0, office := x1 } := by
  unfold State.raise
  split
  · exact ⟨_, _, rfl⟩
  · exact State.offerCondition_frame (s.setCondition c _) c

@[simp] theorem State.raise_pending (s : State) (c : CondName) (argument : Nat) : (s.raise c argument).pending = s.pending := by
  obtain ⟨_, _, h⟩ := s.raise_frame c argument
  rw [h]
@[simp] theorem State.raise_heldInReset (s : State) (c : CondName) (argument : Nat) : (s.raise c argument).heldInReset = s.heldInReset := by
  obtain ⟨_, _, h⟩ := s.raise_frame c argument
  rw [h]
@[simp] theorem State.raise_ready (s : State) (c : CondName) (argument : Nat) : (s.raise c argument).ready = s.ready := by
  obtain ⟨_, _, h⟩ := s.raise_frame c argument
  rw [h]
@[simp] theorem State.raise_lastReset (s : State) (c : CondName) (argument : Nat) : (s.raise c argument).lastReset = s.lastReset := by
  obtain ⟨_, _, h⟩ := s.raise_frame c argument
  rw [h]
@[simp] theorem State.raise_takenReset (s : State) (c : CondName) (argument : Nat) : (s.raise c argument).takenReset = s.takenReset := by
  obtain ⟨_, _, h⟩ := s.raise_frame c argument
  rw [h]
@[simp] theorem State.raise_lineT (s : State) (c : CondName) (argument : Nat) : (s.raise c argument).lineT = s.lineT := by
  obtain ⟨_, _, h⟩ := s.raise_frame c argument
  rw [h]
@[simp] theorem State.raise_lineS (s : State) (c : CondName) (argument : Nat) : (s.raise c argument).lineS = s.lineS := by
  obtain ⟨_, _, h⟩ := s.raise_frame c argument
  rw [h]
@[simp] theorem State.raise_lineO (s : State) (c : CondName) (argument : Nat) : (s.raise c argument).lineO = s.lineO := by
  obtain ⟨_, _, h⟩ := s.raise_frame c argument
  rw [h]
@[simp] theorem State.raise_lsc (s : State) (c : CondName) (argument : Nat) : (s.raise c argument).lsc = s.lsc := by
  obtain ⟨_, _, h⟩ := s.raise_frame c argument
  rw [h]
@[simp] theorem State.raise_tables (s : State) (c : CondName) (argument : Nat) : (s.raise c argument).tables = s.tables := by
  obtain ⟨_, _, h⟩ := s.raise_frame c argument
  rw [h]
@[simp] theorem State.raise_hck (s : State) (c : CondName) (argument : Nat) : (s.raise c argument).hck = s.hck := by
  obtain ⟨_, _, h⟩ := s.raise_frame c argument
  rw [h]
@[simp] theorem State.raise_wnd (s : State) (c : CondName) (argument : Nat) : (s.raise c argument).wnd = s.wnd := by
  obtain ⟨_, _, h⟩ := s.raise_frame c argument
  rw [h]
@[simp] theorem State.raise_stu (s : State) (c : CondName) (argument : Nat) : (s.raise c argument).stu = s.stu := by
  obtain ⟨_, _, h⟩ := s.raise_frame c argument
  rw [h]
@[simp] theorem State.raise_flu (s : State) (c : CondName) (argument : Nat) : (s.raise c argument).flu = s.flu := by
  obtain ⟨_, _, h⟩ := s.raise_frame c argument
  rw [h]
@[simp] theorem State.raise_jtb (s : State) (c : CondName) (argument : Nat) : (s.raise c argument).jtb = s.jtb := by
  obtain ⟨_, _, h⟩ := s.raise_frame c argument
  rw [h]
@[simp] theorem State.raise_startList (s : State) (c : CondName) (argument : Nat) : (s.raise c argument).startList = s.startList := by
  obtain ⟨_, _, h⟩ := s.raise_frame c argument
  rw [h]
@[simp] theorem State.raise_results (s : State) (c : CondName) (argument : Nat) : (s.raise c argument).results = s.results := by
  obtain ⟨_, _, h⟩ := s.raise_frame c argument
  rw [h]
@[simp] theorem State.raise_competition (s : State) (c : CondName) (argument : Nat) : (s.raise c argument).competition = s.competition := by
  obtain ⟨_, _, h⟩ := s.raise_frame c argument
  rw [h]
@[simp] theorem State.raise_dsp (s : State) (c : CondName) (argument : Nat) : (s.raise c argument).dsp = s.dsp := by
  obtain ⟨_, _, h⟩ := s.raise_frame c argument
  rw [h]
@[simp] theorem State.raise_enables (s : State) (c : CondName) (argument : Nat) : (s.raise c argument).enables = s.enables := by
  obtain ⟨_, _, h⟩ := s.raise_frame c argument
  rw [h]
@[simp] theorem State.raise_snapshot (s : State) (c : CondName) (argument : Nat) : (s.raise c argument).snapshot = s.snapshot := by
  obtain ⟨_, _, h⟩ := s.raise_frame c argument
  rw [h]
@[simp] theorem State.raise_loadBuffer (s : State) (c : CondName) (argument : Nat) : (s.raise c argument).loadBuffer = s.loadBuffer := by
  obtain ⟨_, _, h⟩ := s.raise_frame c argument
  rw [h]
@[simp] theorem State.raise_engine (s : State) (c : CondName) (argument : Nat) : (s.raise c argument).engine = s.engine := by
  obtain ⟨_, _, h⟩ := s.raise_frame c argument
  rw [h]
@[simp] theorem State.raise_store (s : State) (c : CondName) (argument : Nat) : (s.raise c argument).store = s.store := by
  obtain ⟨_, _, h⟩ := s.raise_frame c argument
  rw [h]
@[simp] theorem State.now_raise (s : State) (c : CondName) (argument : Nat) : (s.raise c argument).now = s.now := by
  simp [State.now]

/-- `setV` changes conditions and office at most. -/
theorem State.setV_frame (s : State) (c : CondName) (v : Bool) :
    ∃ (x0 : Conditions) (x1 : OfficeQueue), s.setV c v = { s with conditions := x0, office := x1 } := by
  unfold State.setV
  dsimp only
  split
  · exact State.raise_frame (s.setCondition c _) c 0
  · exact ⟨_, _, rfl⟩

@[simp] theorem State.setV_pending (s : State) (c : CondName) (v : Bool) : (s.setV c v).pending = s.pending := by
  obtain ⟨_, _, h⟩ := s.setV_frame c v
  rw [h]
@[simp] theorem State.setV_heldInReset (s : State) (c : CondName) (v : Bool) : (s.setV c v).heldInReset = s.heldInReset := by
  obtain ⟨_, _, h⟩ := s.setV_frame c v
  rw [h]
@[simp] theorem State.setV_ready (s : State) (c : CondName) (v : Bool) : (s.setV c v).ready = s.ready := by
  obtain ⟨_, _, h⟩ := s.setV_frame c v
  rw [h]
@[simp] theorem State.setV_lastReset (s : State) (c : CondName) (v : Bool) : (s.setV c v).lastReset = s.lastReset := by
  obtain ⟨_, _, h⟩ := s.setV_frame c v
  rw [h]
@[simp] theorem State.setV_takenReset (s : State) (c : CondName) (v : Bool) : (s.setV c v).takenReset = s.takenReset := by
  obtain ⟨_, _, h⟩ := s.setV_frame c v
  rw [h]
@[simp] theorem State.setV_lineT (s : State) (c : CondName) (v : Bool) : (s.setV c v).lineT = s.lineT := by
  obtain ⟨_, _, h⟩ := s.setV_frame c v
  rw [h]
@[simp] theorem State.setV_lineS (s : State) (c : CondName) (v : Bool) : (s.setV c v).lineS = s.lineS := by
  obtain ⟨_, _, h⟩ := s.setV_frame c v
  rw [h]
@[simp] theorem State.setV_lineO (s : State) (c : CondName) (v : Bool) : (s.setV c v).lineO = s.lineO := by
  obtain ⟨_, _, h⟩ := s.setV_frame c v
  rw [h]
@[simp] theorem State.setV_lsc (s : State) (c : CondName) (v : Bool) : (s.setV c v).lsc = s.lsc := by
  obtain ⟨_, _, h⟩ := s.setV_frame c v
  rw [h]
@[simp] theorem State.setV_tables (s : State) (c : CondName) (v : Bool) : (s.setV c v).tables = s.tables := by
  obtain ⟨_, _, h⟩ := s.setV_frame c v
  rw [h]
@[simp] theorem State.setV_hck (s : State) (c : CondName) (v : Bool) : (s.setV c v).hck = s.hck := by
  obtain ⟨_, _, h⟩ := s.setV_frame c v
  rw [h]
@[simp] theorem State.setV_wnd (s : State) (c : CondName) (v : Bool) : (s.setV c v).wnd = s.wnd := by
  obtain ⟨_, _, h⟩ := s.setV_frame c v
  rw [h]
@[simp] theorem State.setV_stu (s : State) (c : CondName) (v : Bool) : (s.setV c v).stu = s.stu := by
  obtain ⟨_, _, h⟩ := s.setV_frame c v
  rw [h]
@[simp] theorem State.setV_flu (s : State) (c : CondName) (v : Bool) : (s.setV c v).flu = s.flu := by
  obtain ⟨_, _, h⟩ := s.setV_frame c v
  rw [h]
@[simp] theorem State.setV_jtb (s : State) (c : CondName) (v : Bool) : (s.setV c v).jtb = s.jtb := by
  obtain ⟨_, _, h⟩ := s.setV_frame c v
  rw [h]
@[simp] theorem State.setV_startList (s : State) (c : CondName) (v : Bool) : (s.setV c v).startList = s.startList := by
  obtain ⟨_, _, h⟩ := s.setV_frame c v
  rw [h]
@[simp] theorem State.setV_results (s : State) (c : CondName) (v : Bool) : (s.setV c v).results = s.results := by
  obtain ⟨_, _, h⟩ := s.setV_frame c v
  rw [h]
@[simp] theorem State.setV_competition (s : State) (c : CondName) (v : Bool) : (s.setV c v).competition = s.competition := by
  obtain ⟨_, _, h⟩ := s.setV_frame c v
  rw [h]
@[simp] theorem State.setV_dsp (s : State) (c : CondName) (v : Bool) : (s.setV c v).dsp = s.dsp := by
  obtain ⟨_, _, h⟩ := s.setV_frame c v
  rw [h]
@[simp] theorem State.setV_enables (s : State) (c : CondName) (v : Bool) : (s.setV c v).enables = s.enables := by
  obtain ⟨_, _, h⟩ := s.setV_frame c v
  rw [h]
@[simp] theorem State.setV_snapshot (s : State) (c : CondName) (v : Bool) : (s.setV c v).snapshot = s.snapshot := by
  obtain ⟨_, _, h⟩ := s.setV_frame c v
  rw [h]
@[simp] theorem State.setV_loadBuffer (s : State) (c : CondName) (v : Bool) : (s.setV c v).loadBuffer = s.loadBuffer := by
  obtain ⟨_, _, h⟩ := s.setV_frame c v
  rw [h]
@[simp] theorem State.setV_engine (s : State) (c : CondName) (v : Bool) : (s.setV c v).engine = s.engine := by
  obtain ⟨_, _, h⟩ := s.setV_frame c v
  rw [h]
@[simp] theorem State.setV_store (s : State) (c : CondName) (v : Bool) : (s.setV c v).store = s.store := by
  obtain ⟨_, _, h⟩ := s.setV_frame c v
  rw [h]
@[simp] theorem State.now_setV (s : State) (c : CondName) (v : Bool) : (s.setV c v).now = s.now := by
  simp [State.now]

/-- `reportStation` changes conditions and office at most. -/
theorem State.reportStation_frame (s : State) (addr : Nat) (old new : Presence) :
    ∃ (x0 : Conditions) (x1 : OfficeQueue), s.reportStation addr old new = { s with conditions := x0, office := x1 } := by
  unfold State.reportStation
  split
  · exact s.offerReport_frame _
  · exact ⟨_, _, rfl⟩

@[simp] theorem State.reportStation_pending (s : State) (addr : Nat) (old new : Presence) : (s.reportStation addr old new).pending = s.pending := by
  obtain ⟨_, _, h⟩ := s.reportStation_frame addr old new
  rw [h]
@[simp] theorem State.reportStation_heldInReset (s : State) (addr : Nat) (old new : Presence) : (s.reportStation addr old new).heldInReset = s.heldInReset := by
  obtain ⟨_, _, h⟩ := s.reportStation_frame addr old new
  rw [h]
@[simp] theorem State.reportStation_ready (s : State) (addr : Nat) (old new : Presence) : (s.reportStation addr old new).ready = s.ready := by
  obtain ⟨_, _, h⟩ := s.reportStation_frame addr old new
  rw [h]
@[simp] theorem State.reportStation_lastReset (s : State) (addr : Nat) (old new : Presence) : (s.reportStation addr old new).lastReset = s.lastReset := by
  obtain ⟨_, _, h⟩ := s.reportStation_frame addr old new
  rw [h]
@[simp] theorem State.reportStation_takenReset (s : State) (addr : Nat) (old new : Presence) : (s.reportStation addr old new).takenReset = s.takenReset := by
  obtain ⟨_, _, h⟩ := s.reportStation_frame addr old new
  rw [h]
@[simp] theorem State.reportStation_lineT (s : State) (addr : Nat) (old new : Presence) : (s.reportStation addr old new).lineT = s.lineT := by
  obtain ⟨_, _, h⟩ := s.reportStation_frame addr old new
  rw [h]
@[simp] theorem State.reportStation_lineS (s : State) (addr : Nat) (old new : Presence) : (s.reportStation addr old new).lineS = s.lineS := by
  obtain ⟨_, _, h⟩ := s.reportStation_frame addr old new
  rw [h]
@[simp] theorem State.reportStation_lineO (s : State) (addr : Nat) (old new : Presence) : (s.reportStation addr old new).lineO = s.lineO := by
  obtain ⟨_, _, h⟩ := s.reportStation_frame addr old new
  rw [h]
@[simp] theorem State.reportStation_lsc (s : State) (addr : Nat) (old new : Presence) : (s.reportStation addr old new).lsc = s.lsc := by
  obtain ⟨_, _, h⟩ := s.reportStation_frame addr old new
  rw [h]
@[simp] theorem State.reportStation_tables (s : State) (addr : Nat) (old new : Presence) : (s.reportStation addr old new).tables = s.tables := by
  obtain ⟨_, _, h⟩ := s.reportStation_frame addr old new
  rw [h]
@[simp] theorem State.reportStation_hck (s : State) (addr : Nat) (old new : Presence) : (s.reportStation addr old new).hck = s.hck := by
  obtain ⟨_, _, h⟩ := s.reportStation_frame addr old new
  rw [h]
@[simp] theorem State.reportStation_wnd (s : State) (addr : Nat) (old new : Presence) : (s.reportStation addr old new).wnd = s.wnd := by
  obtain ⟨_, _, h⟩ := s.reportStation_frame addr old new
  rw [h]
@[simp] theorem State.reportStation_stu (s : State) (addr : Nat) (old new : Presence) : (s.reportStation addr old new).stu = s.stu := by
  obtain ⟨_, _, h⟩ := s.reportStation_frame addr old new
  rw [h]
@[simp] theorem State.reportStation_flu (s : State) (addr : Nat) (old new : Presence) : (s.reportStation addr old new).flu = s.flu := by
  obtain ⟨_, _, h⟩ := s.reportStation_frame addr old new
  rw [h]
@[simp] theorem State.reportStation_jtb (s : State) (addr : Nat) (old new : Presence) : (s.reportStation addr old new).jtb = s.jtb := by
  obtain ⟨_, _, h⟩ := s.reportStation_frame addr old new
  rw [h]
@[simp] theorem State.reportStation_startList (s : State) (addr : Nat) (old new : Presence) : (s.reportStation addr old new).startList = s.startList := by
  obtain ⟨_, _, h⟩ := s.reportStation_frame addr old new
  rw [h]
@[simp] theorem State.reportStation_results (s : State) (addr : Nat) (old new : Presence) : (s.reportStation addr old new).results = s.results := by
  obtain ⟨_, _, h⟩ := s.reportStation_frame addr old new
  rw [h]
@[simp] theorem State.reportStation_competition (s : State) (addr : Nat) (old new : Presence) : (s.reportStation addr old new).competition = s.competition := by
  obtain ⟨_, _, h⟩ := s.reportStation_frame addr old new
  rw [h]
@[simp] theorem State.reportStation_dsp (s : State) (addr : Nat) (old new : Presence) : (s.reportStation addr old new).dsp = s.dsp := by
  obtain ⟨_, _, h⟩ := s.reportStation_frame addr old new
  rw [h]
@[simp] theorem State.reportStation_enables (s : State) (addr : Nat) (old new : Presence) : (s.reportStation addr old new).enables = s.enables := by
  obtain ⟨_, _, h⟩ := s.reportStation_frame addr old new
  rw [h]
@[simp] theorem State.reportStation_snapshot (s : State) (addr : Nat) (old new : Presence) : (s.reportStation addr old new).snapshot = s.snapshot := by
  obtain ⟨_, _, h⟩ := s.reportStation_frame addr old new
  rw [h]
@[simp] theorem State.reportStation_loadBuffer (s : State) (addr : Nat) (old new : Presence) : (s.reportStation addr old new).loadBuffer = s.loadBuffer := by
  obtain ⟨_, _, h⟩ := s.reportStation_frame addr old new
  rw [h]
@[simp] theorem State.reportStation_engine (s : State) (addr : Nat) (old new : Presence) : (s.reportStation addr old new).engine = s.engine := by
  obtain ⟨_, _, h⟩ := s.reportStation_frame addr old new
  rw [h]
@[simp] theorem State.reportStation_store (s : State) (addr : Nat) (old new : Presence) : (s.reportStation addr old new).store = s.store := by
  obtain ⟨_, _, h⟩ := s.reportStation_frame addr old new
  rw [h]
@[simp] theorem State.now_reportStation (s : State) (addr : Nat) (old new : Presence) : (s.reportStation addr old new).now = s.now := by
  simp [State.now]

/-- `reportJump` changes conditions and office at most. -/
theorem State.reportJump_frame (s : State) (r : Report) :
    ∃ (x0 : Conditions) (x1 : OfficeQueue), s.reportJump r = { s with conditions := x0, office := x1 } := by
  unfold State.reportJump
  split
  · exact s.offerReport_frame _
  · exact ⟨_, _, rfl⟩

@[simp] theorem State.reportJump_pending (s : State) (r : Report) : (s.reportJump r).pending = s.pending := by
  obtain ⟨_, _, h⟩ := s.reportJump_frame r
  rw [h]
@[simp] theorem State.reportJump_heldInReset (s : State) (r : Report) : (s.reportJump r).heldInReset = s.heldInReset := by
  obtain ⟨_, _, h⟩ := s.reportJump_frame r
  rw [h]
@[simp] theorem State.reportJump_ready (s : State) (r : Report) : (s.reportJump r).ready = s.ready := by
  obtain ⟨_, _, h⟩ := s.reportJump_frame r
  rw [h]
@[simp] theorem State.reportJump_lastReset (s : State) (r : Report) : (s.reportJump r).lastReset = s.lastReset := by
  obtain ⟨_, _, h⟩ := s.reportJump_frame r
  rw [h]
@[simp] theorem State.reportJump_takenReset (s : State) (r : Report) : (s.reportJump r).takenReset = s.takenReset := by
  obtain ⟨_, _, h⟩ := s.reportJump_frame r
  rw [h]
@[simp] theorem State.reportJump_lineT (s : State) (r : Report) : (s.reportJump r).lineT = s.lineT := by
  obtain ⟨_, _, h⟩ := s.reportJump_frame r
  rw [h]
@[simp] theorem State.reportJump_lineS (s : State) (r : Report) : (s.reportJump r).lineS = s.lineS := by
  obtain ⟨_, _, h⟩ := s.reportJump_frame r
  rw [h]
@[simp] theorem State.reportJump_lineO (s : State) (r : Report) : (s.reportJump r).lineO = s.lineO := by
  obtain ⟨_, _, h⟩ := s.reportJump_frame r
  rw [h]
@[simp] theorem State.reportJump_lsc (s : State) (r : Report) : (s.reportJump r).lsc = s.lsc := by
  obtain ⟨_, _, h⟩ := s.reportJump_frame r
  rw [h]
@[simp] theorem State.reportJump_tables (s : State) (r : Report) : (s.reportJump r).tables = s.tables := by
  obtain ⟨_, _, h⟩ := s.reportJump_frame r
  rw [h]
@[simp] theorem State.reportJump_hck (s : State) (r : Report) : (s.reportJump r).hck = s.hck := by
  obtain ⟨_, _, h⟩ := s.reportJump_frame r
  rw [h]
@[simp] theorem State.reportJump_wnd (s : State) (r : Report) : (s.reportJump r).wnd = s.wnd := by
  obtain ⟨_, _, h⟩ := s.reportJump_frame r
  rw [h]
@[simp] theorem State.reportJump_stu (s : State) (r : Report) : (s.reportJump r).stu = s.stu := by
  obtain ⟨_, _, h⟩ := s.reportJump_frame r
  rw [h]
@[simp] theorem State.reportJump_flu (s : State) (r : Report) : (s.reportJump r).flu = s.flu := by
  obtain ⟨_, _, h⟩ := s.reportJump_frame r
  rw [h]
@[simp] theorem State.reportJump_jtb (s : State) (r : Report) : (s.reportJump r).jtb = s.jtb := by
  obtain ⟨_, _, h⟩ := s.reportJump_frame r
  rw [h]
@[simp] theorem State.reportJump_startList (s : State) (r : Report) : (s.reportJump r).startList = s.startList := by
  obtain ⟨_, _, h⟩ := s.reportJump_frame r
  rw [h]
@[simp] theorem State.reportJump_results (s : State) (r : Report) : (s.reportJump r).results = s.results := by
  obtain ⟨_, _, h⟩ := s.reportJump_frame r
  rw [h]
@[simp] theorem State.reportJump_competition (s : State) (r : Report) : (s.reportJump r).competition = s.competition := by
  obtain ⟨_, _, h⟩ := s.reportJump_frame r
  rw [h]
@[simp] theorem State.reportJump_dsp (s : State) (r : Report) : (s.reportJump r).dsp = s.dsp := by
  obtain ⟨_, _, h⟩ := s.reportJump_frame r
  rw [h]
@[simp] theorem State.reportJump_enables (s : State) (r : Report) : (s.reportJump r).enables = s.enables := by
  obtain ⟨_, _, h⟩ := s.reportJump_frame r
  rw [h]
@[simp] theorem State.reportJump_snapshot (s : State) (r : Report) : (s.reportJump r).snapshot = s.snapshot := by
  obtain ⟨_, _, h⟩ := s.reportJump_frame r
  rw [h]
@[simp] theorem State.reportJump_loadBuffer (s : State) (r : Report) : (s.reportJump r).loadBuffer = s.loadBuffer := by
  obtain ⟨_, _, h⟩ := s.reportJump_frame r
  rw [h]
@[simp] theorem State.reportJump_engine (s : State) (r : Report) : (s.reportJump r).engine = s.engine := by
  obtain ⟨_, _, h⟩ := s.reportJump_frame r
  rw [h]
@[simp] theorem State.reportJump_store (s : State) (r : Report) : (s.reportJump r).store = s.store := by
  obtain ⟨_, _, h⟩ := s.reportJump_frame r
  rw [h]
@[simp] theorem State.now_reportJump (s : State) (r : Report) : (s.reportJump r).now = s.now := by
  simp [State.now]

/-- `reportResult` changes conditions and office at most. -/
theorem State.reportResult_frame (s : State) (r : Report) :
    ∃ (x0 : Conditions) (x1 : OfficeQueue), s.reportResult r = { s with conditions := x0, office := x1 } := by
  unfold State.reportResult
  split
  · exact s.offerReport_frame _
  · exact ⟨_, _, rfl⟩

@[simp] theorem State.reportResult_pending (s : State) (r : Report) : (s.reportResult r).pending = s.pending := by
  obtain ⟨_, _, h⟩ := s.reportResult_frame r
  rw [h]
@[simp] theorem State.reportResult_heldInReset (s : State) (r : Report) : (s.reportResult r).heldInReset = s.heldInReset := by
  obtain ⟨_, _, h⟩ := s.reportResult_frame r
  rw [h]
@[simp] theorem State.reportResult_ready (s : State) (r : Report) : (s.reportResult r).ready = s.ready := by
  obtain ⟨_, _, h⟩ := s.reportResult_frame r
  rw [h]
@[simp] theorem State.reportResult_lastReset (s : State) (r : Report) : (s.reportResult r).lastReset = s.lastReset := by
  obtain ⟨_, _, h⟩ := s.reportResult_frame r
  rw [h]
@[simp] theorem State.reportResult_takenReset (s : State) (r : Report) : (s.reportResult r).takenReset = s.takenReset := by
  obtain ⟨_, _, h⟩ := s.reportResult_frame r
  rw [h]
@[simp] theorem State.reportResult_lineT (s : State) (r : Report) : (s.reportResult r).lineT = s.lineT := by
  obtain ⟨_, _, h⟩ := s.reportResult_frame r
  rw [h]
@[simp] theorem State.reportResult_lineS (s : State) (r : Report) : (s.reportResult r).lineS = s.lineS := by
  obtain ⟨_, _, h⟩ := s.reportResult_frame r
  rw [h]
@[simp] theorem State.reportResult_lineO (s : State) (r : Report) : (s.reportResult r).lineO = s.lineO := by
  obtain ⟨_, _, h⟩ := s.reportResult_frame r
  rw [h]
@[simp] theorem State.reportResult_lsc (s : State) (r : Report) : (s.reportResult r).lsc = s.lsc := by
  obtain ⟨_, _, h⟩ := s.reportResult_frame r
  rw [h]
@[simp] theorem State.reportResult_tables (s : State) (r : Report) : (s.reportResult r).tables = s.tables := by
  obtain ⟨_, _, h⟩ := s.reportResult_frame r
  rw [h]
@[simp] theorem State.reportResult_hck (s : State) (r : Report) : (s.reportResult r).hck = s.hck := by
  obtain ⟨_, _, h⟩ := s.reportResult_frame r
  rw [h]
@[simp] theorem State.reportResult_wnd (s : State) (r : Report) : (s.reportResult r).wnd = s.wnd := by
  obtain ⟨_, _, h⟩ := s.reportResult_frame r
  rw [h]
@[simp] theorem State.reportResult_stu (s : State) (r : Report) : (s.reportResult r).stu = s.stu := by
  obtain ⟨_, _, h⟩ := s.reportResult_frame r
  rw [h]
@[simp] theorem State.reportResult_flu (s : State) (r : Report) : (s.reportResult r).flu = s.flu := by
  obtain ⟨_, _, h⟩ := s.reportResult_frame r
  rw [h]
@[simp] theorem State.reportResult_jtb (s : State) (r : Report) : (s.reportResult r).jtb = s.jtb := by
  obtain ⟨_, _, h⟩ := s.reportResult_frame r
  rw [h]
@[simp] theorem State.reportResult_startList (s : State) (r : Report) : (s.reportResult r).startList = s.startList := by
  obtain ⟨_, _, h⟩ := s.reportResult_frame r
  rw [h]
@[simp] theorem State.reportResult_results (s : State) (r : Report) : (s.reportResult r).results = s.results := by
  obtain ⟨_, _, h⟩ := s.reportResult_frame r
  rw [h]
@[simp] theorem State.reportResult_competition (s : State) (r : Report) : (s.reportResult r).competition = s.competition := by
  obtain ⟨_, _, h⟩ := s.reportResult_frame r
  rw [h]
@[simp] theorem State.reportResult_dsp (s : State) (r : Report) : (s.reportResult r).dsp = s.dsp := by
  obtain ⟨_, _, h⟩ := s.reportResult_frame r
  rw [h]
@[simp] theorem State.reportResult_enables (s : State) (r : Report) : (s.reportResult r).enables = s.enables := by
  obtain ⟨_, _, h⟩ := s.reportResult_frame r
  rw [h]
@[simp] theorem State.reportResult_snapshot (s : State) (r : Report) : (s.reportResult r).snapshot = s.snapshot := by
  obtain ⟨_, _, h⟩ := s.reportResult_frame r
  rw [h]
@[simp] theorem State.reportResult_loadBuffer (s : State) (r : Report) : (s.reportResult r).loadBuffer = s.loadBuffer := by
  obtain ⟨_, _, h⟩ := s.reportResult_frame r
  rw [h]
@[simp] theorem State.reportResult_engine (s : State) (r : Report) : (s.reportResult r).engine = s.engine := by
  obtain ⟨_, _, h⟩ := s.reportResult_frame r
  rw [h]
@[simp] theorem State.reportResult_store (s : State) (r : Report) : (s.reportResult r).store = s.store := by
  obtain ⟨_, _, h⟩ := s.reportResult_frame r
  rw [h]
@[simp] theorem State.now_reportResult (s : State) (r : Report) : (s.reportResult r).now = s.now := by
  simp [State.now]

/-- `reportRecord` changes conditions and office at most. -/
theorem State.reportRecord_frame (s : State) (k : Fin 4) (reason : JumpReason) :
    ∃ (x0 : Conditions) (x1 : OfficeQueue), s.reportRecord k reason = { s with conditions := x0, office := x1 } := by
  unfold State.reportRecord
  split
  · exact ⟨_, _, rfl⟩
  · exact s.reportJump_frame _

@[simp] theorem State.reportRecord_pending (s : State) (k : Fin 4) (reason : JumpReason) : (s.reportRecord k reason).pending = s.pending := by
  obtain ⟨_, _, h⟩ := s.reportRecord_frame k reason
  rw [h]
@[simp] theorem State.reportRecord_heldInReset (s : State) (k : Fin 4) (reason : JumpReason) : (s.reportRecord k reason).heldInReset = s.heldInReset := by
  obtain ⟨_, _, h⟩ := s.reportRecord_frame k reason
  rw [h]
@[simp] theorem State.reportRecord_ready (s : State) (k : Fin 4) (reason : JumpReason) : (s.reportRecord k reason).ready = s.ready := by
  obtain ⟨_, _, h⟩ := s.reportRecord_frame k reason
  rw [h]
@[simp] theorem State.reportRecord_lastReset (s : State) (k : Fin 4) (reason : JumpReason) : (s.reportRecord k reason).lastReset = s.lastReset := by
  obtain ⟨_, _, h⟩ := s.reportRecord_frame k reason
  rw [h]
@[simp] theorem State.reportRecord_takenReset (s : State) (k : Fin 4) (reason : JumpReason) : (s.reportRecord k reason).takenReset = s.takenReset := by
  obtain ⟨_, _, h⟩ := s.reportRecord_frame k reason
  rw [h]
@[simp] theorem State.reportRecord_lineT (s : State) (k : Fin 4) (reason : JumpReason) : (s.reportRecord k reason).lineT = s.lineT := by
  obtain ⟨_, _, h⟩ := s.reportRecord_frame k reason
  rw [h]
@[simp] theorem State.reportRecord_lineS (s : State) (k : Fin 4) (reason : JumpReason) : (s.reportRecord k reason).lineS = s.lineS := by
  obtain ⟨_, _, h⟩ := s.reportRecord_frame k reason
  rw [h]
@[simp] theorem State.reportRecord_lineO (s : State) (k : Fin 4) (reason : JumpReason) : (s.reportRecord k reason).lineO = s.lineO := by
  obtain ⟨_, _, h⟩ := s.reportRecord_frame k reason
  rw [h]
@[simp] theorem State.reportRecord_lsc (s : State) (k : Fin 4) (reason : JumpReason) : (s.reportRecord k reason).lsc = s.lsc := by
  obtain ⟨_, _, h⟩ := s.reportRecord_frame k reason
  rw [h]
@[simp] theorem State.reportRecord_tables (s : State) (k : Fin 4) (reason : JumpReason) : (s.reportRecord k reason).tables = s.tables := by
  obtain ⟨_, _, h⟩ := s.reportRecord_frame k reason
  rw [h]
@[simp] theorem State.reportRecord_hck (s : State) (k : Fin 4) (reason : JumpReason) : (s.reportRecord k reason).hck = s.hck := by
  obtain ⟨_, _, h⟩ := s.reportRecord_frame k reason
  rw [h]
@[simp] theorem State.reportRecord_wnd (s : State) (k : Fin 4) (reason : JumpReason) : (s.reportRecord k reason).wnd = s.wnd := by
  obtain ⟨_, _, h⟩ := s.reportRecord_frame k reason
  rw [h]
@[simp] theorem State.reportRecord_stu (s : State) (k : Fin 4) (reason : JumpReason) : (s.reportRecord k reason).stu = s.stu := by
  obtain ⟨_, _, h⟩ := s.reportRecord_frame k reason
  rw [h]
@[simp] theorem State.reportRecord_flu (s : State) (k : Fin 4) (reason : JumpReason) : (s.reportRecord k reason).flu = s.flu := by
  obtain ⟨_, _, h⟩ := s.reportRecord_frame k reason
  rw [h]
@[simp] theorem State.reportRecord_jtb (s : State) (k : Fin 4) (reason : JumpReason) : (s.reportRecord k reason).jtb = s.jtb := by
  obtain ⟨_, _, h⟩ := s.reportRecord_frame k reason
  rw [h]
@[simp] theorem State.reportRecord_startList (s : State) (k : Fin 4) (reason : JumpReason) : (s.reportRecord k reason).startList = s.startList := by
  obtain ⟨_, _, h⟩ := s.reportRecord_frame k reason
  rw [h]
@[simp] theorem State.reportRecord_results (s : State) (k : Fin 4) (reason : JumpReason) : (s.reportRecord k reason).results = s.results := by
  obtain ⟨_, _, h⟩ := s.reportRecord_frame k reason
  rw [h]
@[simp] theorem State.reportRecord_competition (s : State) (k : Fin 4) (reason : JumpReason) : (s.reportRecord k reason).competition = s.competition := by
  obtain ⟨_, _, h⟩ := s.reportRecord_frame k reason
  rw [h]
@[simp] theorem State.reportRecord_dsp (s : State) (k : Fin 4) (reason : JumpReason) : (s.reportRecord k reason).dsp = s.dsp := by
  obtain ⟨_, _, h⟩ := s.reportRecord_frame k reason
  rw [h]
@[simp] theorem State.reportRecord_enables (s : State) (k : Fin 4) (reason : JumpReason) : (s.reportRecord k reason).enables = s.enables := by
  obtain ⟨_, _, h⟩ := s.reportRecord_frame k reason
  rw [h]
@[simp] theorem State.reportRecord_snapshot (s : State) (k : Fin 4) (reason : JumpReason) : (s.reportRecord k reason).snapshot = s.snapshot := by
  obtain ⟨_, _, h⟩ := s.reportRecord_frame k reason
  rw [h]
@[simp] theorem State.reportRecord_loadBuffer (s : State) (k : Fin 4) (reason : JumpReason) : (s.reportRecord k reason).loadBuffer = s.loadBuffer := by
  obtain ⟨_, _, h⟩ := s.reportRecord_frame k reason
  rw [h]
@[simp] theorem State.reportRecord_engine (s : State) (k : Fin 4) (reason : JumpReason) : (s.reportRecord k reason).engine = s.engine := by
  obtain ⟨_, _, h⟩ := s.reportRecord_frame k reason
  rw [h]
@[simp] theorem State.reportRecord_store (s : State) (k : Fin 4) (reason : JumpReason) : (s.reportRecord k reason).store = s.store := by
  obtain ⟨_, _, h⟩ := s.reportRecord_frame k reason
  rw [h]
@[simp] theorem State.now_reportRecord (s : State) (k : Fin 4) (reason : JumpReason) : (s.reportRecord k reason).now = s.now := by
  simp [State.now]

/-- `updateHeld` changes conditions and office at most. -/
theorem State.updateHeld_frame (s : State) :
    ∃ (x0 : Conditions) (x1 : OfficeQueue), s.updateHeld = { s with conditions := x0, office := x1 } := by
  exact s.setV_frame _ _

@[simp] theorem State.updateHeld_pending (s : State) : (s.updateHeld).pending = s.pending := by
  obtain ⟨_, _, h⟩ := s.updateHeld_frame
  rw [h]
@[simp] theorem State.updateHeld_heldInReset (s : State) : (s.updateHeld).heldInReset = s.heldInReset := by
  obtain ⟨_, _, h⟩ := s.updateHeld_frame
  rw [h]
@[simp] theorem State.updateHeld_ready (s : State) : (s.updateHeld).ready = s.ready := by
  obtain ⟨_, _, h⟩ := s.updateHeld_frame
  rw [h]
@[simp] theorem State.updateHeld_lastReset (s : State) : (s.updateHeld).lastReset = s.lastReset := by
  obtain ⟨_, _, h⟩ := s.updateHeld_frame
  rw [h]
@[simp] theorem State.updateHeld_takenReset (s : State) : (s.updateHeld).takenReset = s.takenReset := by
  obtain ⟨_, _, h⟩ := s.updateHeld_frame
  rw [h]
@[simp] theorem State.updateHeld_lineT (s : State) : (s.updateHeld).lineT = s.lineT := by
  obtain ⟨_, _, h⟩ := s.updateHeld_frame
  rw [h]
@[simp] theorem State.updateHeld_lineS (s : State) : (s.updateHeld).lineS = s.lineS := by
  obtain ⟨_, _, h⟩ := s.updateHeld_frame
  rw [h]
@[simp] theorem State.updateHeld_lineO (s : State) : (s.updateHeld).lineO = s.lineO := by
  obtain ⟨_, _, h⟩ := s.updateHeld_frame
  rw [h]
@[simp] theorem State.updateHeld_lsc (s : State) : (s.updateHeld).lsc = s.lsc := by
  obtain ⟨_, _, h⟩ := s.updateHeld_frame
  rw [h]
@[simp] theorem State.updateHeld_tables (s : State) : (s.updateHeld).tables = s.tables := by
  obtain ⟨_, _, h⟩ := s.updateHeld_frame
  rw [h]
@[simp] theorem State.updateHeld_hck (s : State) : (s.updateHeld).hck = s.hck := by
  obtain ⟨_, _, h⟩ := s.updateHeld_frame
  rw [h]
@[simp] theorem State.updateHeld_wnd (s : State) : (s.updateHeld).wnd = s.wnd := by
  obtain ⟨_, _, h⟩ := s.updateHeld_frame
  rw [h]
@[simp] theorem State.updateHeld_stu (s : State) : (s.updateHeld).stu = s.stu := by
  obtain ⟨_, _, h⟩ := s.updateHeld_frame
  rw [h]
@[simp] theorem State.updateHeld_flu (s : State) : (s.updateHeld).flu = s.flu := by
  obtain ⟨_, _, h⟩ := s.updateHeld_frame
  rw [h]
@[simp] theorem State.updateHeld_jtb (s : State) : (s.updateHeld).jtb = s.jtb := by
  obtain ⟨_, _, h⟩ := s.updateHeld_frame
  rw [h]
@[simp] theorem State.updateHeld_startList (s : State) : (s.updateHeld).startList = s.startList := by
  obtain ⟨_, _, h⟩ := s.updateHeld_frame
  rw [h]
@[simp] theorem State.updateHeld_results (s : State) : (s.updateHeld).results = s.results := by
  obtain ⟨_, _, h⟩ := s.updateHeld_frame
  rw [h]
@[simp] theorem State.updateHeld_competition (s : State) : (s.updateHeld).competition = s.competition := by
  obtain ⟨_, _, h⟩ := s.updateHeld_frame
  rw [h]
@[simp] theorem State.updateHeld_dsp (s : State) : (s.updateHeld).dsp = s.dsp := by
  obtain ⟨_, _, h⟩ := s.updateHeld_frame
  rw [h]
@[simp] theorem State.updateHeld_enables (s : State) : (s.updateHeld).enables = s.enables := by
  obtain ⟨_, _, h⟩ := s.updateHeld_frame
  rw [h]
@[simp] theorem State.updateHeld_snapshot (s : State) : (s.updateHeld).snapshot = s.snapshot := by
  obtain ⟨_, _, h⟩ := s.updateHeld_frame
  rw [h]
@[simp] theorem State.updateHeld_loadBuffer (s : State) : (s.updateHeld).loadBuffer = s.loadBuffer := by
  obtain ⟨_, _, h⟩ := s.updateHeld_frame
  rw [h]
@[simp] theorem State.updateHeld_engine (s : State) : (s.updateHeld).engine = s.engine := by
  obtain ⟨_, _, h⟩ := s.updateHeld_frame
  rw [h]
@[simp] theorem State.updateHeld_store (s : State) : (s.updateHeld).store = s.store := by
  obtain ⟨_, _, h⟩ := s.updateHeld_frame
  rw [h]
@[simp] theorem State.now_updateHeld (s : State) : (s.updateHeld).now = s.now := by
  simp [State.now]

/-- `announcePresence` changes conditions and office at most. -/
theorem State.announcePresence_frame (s : State) (addr : Nat) (old new : Presence) :
    ∃ (x0 : Conditions) (x1 : OfficeQueue), s.announcePresence addr old new = { s with conditions := x0, office := x1 } := by
  obtain ⟨c, o, h⟩ := s.reportStation_frame addr old new
  obtain ⟨c', o', h'⟩ := (s.reportStation addr old new).raise_frame .stationChange addr
  exact ⟨c', o', by rw [State.announcePresence, h', h]⟩

@[simp] theorem State.announcePresence_pending (s : State) (addr : Nat) (old new : Presence) : (s.announcePresence addr old new).pending = s.pending := by
  obtain ⟨_, _, h⟩ := s.announcePresence_frame addr old new
  rw [h]
@[simp] theorem State.announcePresence_heldInReset (s : State) (addr : Nat) (old new : Presence) : (s.announcePresence addr old new).heldInReset = s.heldInReset := by
  obtain ⟨_, _, h⟩ := s.announcePresence_frame addr old new
  rw [h]
@[simp] theorem State.announcePresence_ready (s : State) (addr : Nat) (old new : Presence) : (s.announcePresence addr old new).ready = s.ready := by
  obtain ⟨_, _, h⟩ := s.announcePresence_frame addr old new
  rw [h]
@[simp] theorem State.announcePresence_lastReset (s : State) (addr : Nat) (old new : Presence) : (s.announcePresence addr old new).lastReset = s.lastReset := by
  obtain ⟨_, _, h⟩ := s.announcePresence_frame addr old new
  rw [h]
@[simp] theorem State.announcePresence_takenReset (s : State) (addr : Nat) (old new : Presence) : (s.announcePresence addr old new).takenReset = s.takenReset := by
  obtain ⟨_, _, h⟩ := s.announcePresence_frame addr old new
  rw [h]
@[simp] theorem State.announcePresence_lineT (s : State) (addr : Nat) (old new : Presence) : (s.announcePresence addr old new).lineT = s.lineT := by
  obtain ⟨_, _, h⟩ := s.announcePresence_frame addr old new
  rw [h]
@[simp] theorem State.announcePresence_lineS (s : State) (addr : Nat) (old new : Presence) : (s.announcePresence addr old new).lineS = s.lineS := by
  obtain ⟨_, _, h⟩ := s.announcePresence_frame addr old new
  rw [h]
@[simp] theorem State.announcePresence_lineO (s : State) (addr : Nat) (old new : Presence) : (s.announcePresence addr old new).lineO = s.lineO := by
  obtain ⟨_, _, h⟩ := s.announcePresence_frame addr old new
  rw [h]
@[simp] theorem State.announcePresence_lsc (s : State) (addr : Nat) (old new : Presence) : (s.announcePresence addr old new).lsc = s.lsc := by
  obtain ⟨_, _, h⟩ := s.announcePresence_frame addr old new
  rw [h]
@[simp] theorem State.announcePresence_tables (s : State) (addr : Nat) (old new : Presence) : (s.announcePresence addr old new).tables = s.tables := by
  obtain ⟨_, _, h⟩ := s.announcePresence_frame addr old new
  rw [h]
@[simp] theorem State.announcePresence_hck (s : State) (addr : Nat) (old new : Presence) : (s.announcePresence addr old new).hck = s.hck := by
  obtain ⟨_, _, h⟩ := s.announcePresence_frame addr old new
  rw [h]
@[simp] theorem State.announcePresence_wnd (s : State) (addr : Nat) (old new : Presence) : (s.announcePresence addr old new).wnd = s.wnd := by
  obtain ⟨_, _, h⟩ := s.announcePresence_frame addr old new
  rw [h]
@[simp] theorem State.announcePresence_stu (s : State) (addr : Nat) (old new : Presence) : (s.announcePresence addr old new).stu = s.stu := by
  obtain ⟨_, _, h⟩ := s.announcePresence_frame addr old new
  rw [h]
@[simp] theorem State.announcePresence_flu (s : State) (addr : Nat) (old new : Presence) : (s.announcePresence addr old new).flu = s.flu := by
  obtain ⟨_, _, h⟩ := s.announcePresence_frame addr old new
  rw [h]
@[simp] theorem State.announcePresence_jtb (s : State) (addr : Nat) (old new : Presence) : (s.announcePresence addr old new).jtb = s.jtb := by
  obtain ⟨_, _, h⟩ := s.announcePresence_frame addr old new
  rw [h]
@[simp] theorem State.announcePresence_startList (s : State) (addr : Nat) (old new : Presence) : (s.announcePresence addr old new).startList = s.startList := by
  obtain ⟨_, _, h⟩ := s.announcePresence_frame addr old new
  rw [h]
@[simp] theorem State.announcePresence_results (s : State) (addr : Nat) (old new : Presence) : (s.announcePresence addr old new).results = s.results := by
  obtain ⟨_, _, h⟩ := s.announcePresence_frame addr old new
  rw [h]
@[simp] theorem State.announcePresence_competition (s : State) (addr : Nat) (old new : Presence) : (s.announcePresence addr old new).competition = s.competition := by
  obtain ⟨_, _, h⟩ := s.announcePresence_frame addr old new
  rw [h]
@[simp] theorem State.announcePresence_dsp (s : State) (addr : Nat) (old new : Presence) : (s.announcePresence addr old new).dsp = s.dsp := by
  obtain ⟨_, _, h⟩ := s.announcePresence_frame addr old new
  rw [h]
@[simp] theorem State.announcePresence_enables (s : State) (addr : Nat) (old new : Presence) : (s.announcePresence addr old new).enables = s.enables := by
  obtain ⟨_, _, h⟩ := s.announcePresence_frame addr old new
  rw [h]
@[simp] theorem State.announcePresence_snapshot (s : State) (addr : Nat) (old new : Presence) : (s.announcePresence addr old new).snapshot = s.snapshot := by
  obtain ⟨_, _, h⟩ := s.announcePresence_frame addr old new
  rw [h]
@[simp] theorem State.announcePresence_loadBuffer (s : State) (addr : Nat) (old new : Presence) : (s.announcePresence addr old new).loadBuffer = s.loadBuffer := by
  obtain ⟨_, _, h⟩ := s.announcePresence_frame addr old new
  rw [h]
@[simp] theorem State.announcePresence_engine (s : State) (addr : Nat) (old new : Presence) : (s.announcePresence addr old new).engine = s.engine := by
  obtain ⟨_, _, h⟩ := s.announcePresence_frame addr old new
  rw [h]
@[simp] theorem State.announcePresence_store (s : State) (addr : Nat) (old new : Presence) : (s.announcePresence addr old new).store = s.store := by
  obtain ⟨_, _, h⟩ := s.announcePresence_frame addr old new
  rw [h]
@[simp] theorem State.now_announcePresence (s : State) (addr : Nat) (old new : Presence) : (s.announcePresence addr old new).now = s.now := by
  simp [State.now]

/-- `noteChanges` changes conditions and office at most. -/
theorem State.noteChanges_frame (s : State) (old new : List WindContext) :
    ∃ (x0 : Conditions) (x1 : OfficeQueue), s.noteChanges old new = { s with conditions := x0, office := x1 } := by
  unfold State.noteChanges
  generalize old.zip new = l
  induction l generalizing s with
  | nil => exact ⟨_, _, rfl⟩
  | cons x l ih =>
    rw [List.foldl_cons]
    split
    · exact ih s
    · obtain ⟨c, o, h⟩ := s.raise_frame .windChange x.1.index
      obtain ⟨c', o', h'⟩ := ih (s.raise .windChange x.1.index)
      exact ⟨c', o', by rw [h', h]⟩

@[simp] theorem State.noteChanges_pending (s : State) (old new : List WindContext) : (s.noteChanges old new).pending = s.pending := by
  obtain ⟨_, _, h⟩ := s.noteChanges_frame old new
  rw [h]
@[simp] theorem State.noteChanges_heldInReset (s : State) (old new : List WindContext) : (s.noteChanges old new).heldInReset = s.heldInReset := by
  obtain ⟨_, _, h⟩ := s.noteChanges_frame old new
  rw [h]
@[simp] theorem State.noteChanges_ready (s : State) (old new : List WindContext) : (s.noteChanges old new).ready = s.ready := by
  obtain ⟨_, _, h⟩ := s.noteChanges_frame old new
  rw [h]
@[simp] theorem State.noteChanges_lastReset (s : State) (old new : List WindContext) : (s.noteChanges old new).lastReset = s.lastReset := by
  obtain ⟨_, _, h⟩ := s.noteChanges_frame old new
  rw [h]
@[simp] theorem State.noteChanges_takenReset (s : State) (old new : List WindContext) : (s.noteChanges old new).takenReset = s.takenReset := by
  obtain ⟨_, _, h⟩ := s.noteChanges_frame old new
  rw [h]
@[simp] theorem State.noteChanges_lineT (s : State) (old new : List WindContext) : (s.noteChanges old new).lineT = s.lineT := by
  obtain ⟨_, _, h⟩ := s.noteChanges_frame old new
  rw [h]
@[simp] theorem State.noteChanges_lineS (s : State) (old new : List WindContext) : (s.noteChanges old new).lineS = s.lineS := by
  obtain ⟨_, _, h⟩ := s.noteChanges_frame old new
  rw [h]
@[simp] theorem State.noteChanges_lineO (s : State) (old new : List WindContext) : (s.noteChanges old new).lineO = s.lineO := by
  obtain ⟨_, _, h⟩ := s.noteChanges_frame old new
  rw [h]
@[simp] theorem State.noteChanges_lsc (s : State) (old new : List WindContext) : (s.noteChanges old new).lsc = s.lsc := by
  obtain ⟨_, _, h⟩ := s.noteChanges_frame old new
  rw [h]
@[simp] theorem State.noteChanges_tables (s : State) (old new : List WindContext) : (s.noteChanges old new).tables = s.tables := by
  obtain ⟨_, _, h⟩ := s.noteChanges_frame old new
  rw [h]
@[simp] theorem State.noteChanges_hck (s : State) (old new : List WindContext) : (s.noteChanges old new).hck = s.hck := by
  obtain ⟨_, _, h⟩ := s.noteChanges_frame old new
  rw [h]
@[simp] theorem State.noteChanges_wnd (s : State) (old new : List WindContext) : (s.noteChanges old new).wnd = s.wnd := by
  obtain ⟨_, _, h⟩ := s.noteChanges_frame old new
  rw [h]
@[simp] theorem State.noteChanges_stu (s : State) (old new : List WindContext) : (s.noteChanges old new).stu = s.stu := by
  obtain ⟨_, _, h⟩ := s.noteChanges_frame old new
  rw [h]
@[simp] theorem State.noteChanges_flu (s : State) (old new : List WindContext) : (s.noteChanges old new).flu = s.flu := by
  obtain ⟨_, _, h⟩ := s.noteChanges_frame old new
  rw [h]
@[simp] theorem State.noteChanges_jtb (s : State) (old new : List WindContext) : (s.noteChanges old new).jtb = s.jtb := by
  obtain ⟨_, _, h⟩ := s.noteChanges_frame old new
  rw [h]
@[simp] theorem State.noteChanges_startList (s : State) (old new : List WindContext) : (s.noteChanges old new).startList = s.startList := by
  obtain ⟨_, _, h⟩ := s.noteChanges_frame old new
  rw [h]
@[simp] theorem State.noteChanges_results (s : State) (old new : List WindContext) : (s.noteChanges old new).results = s.results := by
  obtain ⟨_, _, h⟩ := s.noteChanges_frame old new
  rw [h]
@[simp] theorem State.noteChanges_competition (s : State) (old new : List WindContext) : (s.noteChanges old new).competition = s.competition := by
  obtain ⟨_, _, h⟩ := s.noteChanges_frame old new
  rw [h]
@[simp] theorem State.noteChanges_dsp (s : State) (old new : List WindContext) : (s.noteChanges old new).dsp = s.dsp := by
  obtain ⟨_, _, h⟩ := s.noteChanges_frame old new
  rw [h]
@[simp] theorem State.noteChanges_enables (s : State) (old new : List WindContext) : (s.noteChanges old new).enables = s.enables := by
  obtain ⟨_, _, h⟩ := s.noteChanges_frame old new
  rw [h]
@[simp] theorem State.noteChanges_snapshot (s : State) (old new : List WindContext) : (s.noteChanges old new).snapshot = s.snapshot := by
  obtain ⟨_, _, h⟩ := s.noteChanges_frame old new
  rw [h]
@[simp] theorem State.noteChanges_loadBuffer (s : State) (old new : List WindContext) : (s.noteChanges old new).loadBuffer = s.loadBuffer := by
  obtain ⟨_, _, h⟩ := s.noteChanges_frame old new
  rw [h]
@[simp] theorem State.noteChanges_engine (s : State) (old new : List WindContext) : (s.noteChanges old new).engine = s.engine := by
  obtain ⟨_, _, h⟩ := s.noteChanges_frame old new
  rw [h]
@[simp] theorem State.noteChanges_store (s : State) (old new : List WindContext) : (s.noteChanges old new).store = s.store := by
  obtain ⟨_, _, h⟩ := s.noteChanges_frame old new
  rw [h]
@[simp] theorem State.now_noteChanges (s : State) (old new : List WindContext) : (s.noteChanges old new).now = s.now := by
  simp [State.now]

/-- `offerMirror` changes office at most. -/
theorem State.offerMirror_frame (s : State) (m : Mirror) :
    ∃ (x0 : OfficeQueue), s.offerMirror m = { s with office := x0 } := by
  unfold State.offerMirror
  split
  · exact ⟨_, rfl⟩
  · exact ⟨_, rfl⟩

@[simp] theorem State.offerMirror_pending (s : State) (m : Mirror) : (s.offerMirror m).pending = s.pending := by
  obtain ⟨_, h⟩ := s.offerMirror_frame m
  rw [h]
@[simp] theorem State.offerMirror_heldInReset (s : State) (m : Mirror) : (s.offerMirror m).heldInReset = s.heldInReset := by
  obtain ⟨_, h⟩ := s.offerMirror_frame m
  rw [h]
@[simp] theorem State.offerMirror_ready (s : State) (m : Mirror) : (s.offerMirror m).ready = s.ready := by
  obtain ⟨_, h⟩ := s.offerMirror_frame m
  rw [h]
@[simp] theorem State.offerMirror_lastReset (s : State) (m : Mirror) : (s.offerMirror m).lastReset = s.lastReset := by
  obtain ⟨_, h⟩ := s.offerMirror_frame m
  rw [h]
@[simp] theorem State.offerMirror_takenReset (s : State) (m : Mirror) : (s.offerMirror m).takenReset = s.takenReset := by
  obtain ⟨_, h⟩ := s.offerMirror_frame m
  rw [h]
@[simp] theorem State.offerMirror_lineT (s : State) (m : Mirror) : (s.offerMirror m).lineT = s.lineT := by
  obtain ⟨_, h⟩ := s.offerMirror_frame m
  rw [h]
@[simp] theorem State.offerMirror_lineS (s : State) (m : Mirror) : (s.offerMirror m).lineS = s.lineS := by
  obtain ⟨_, h⟩ := s.offerMirror_frame m
  rw [h]
@[simp] theorem State.offerMirror_lineO (s : State) (m : Mirror) : (s.offerMirror m).lineO = s.lineO := by
  obtain ⟨_, h⟩ := s.offerMirror_frame m
  rw [h]
@[simp] theorem State.offerMirror_lsc (s : State) (m : Mirror) : (s.offerMirror m).lsc = s.lsc := by
  obtain ⟨_, h⟩ := s.offerMirror_frame m
  rw [h]
@[simp] theorem State.offerMirror_tables (s : State) (m : Mirror) : (s.offerMirror m).tables = s.tables := by
  obtain ⟨_, h⟩ := s.offerMirror_frame m
  rw [h]
@[simp] theorem State.offerMirror_hck (s : State) (m : Mirror) : (s.offerMirror m).hck = s.hck := by
  obtain ⟨_, h⟩ := s.offerMirror_frame m
  rw [h]
@[simp] theorem State.offerMirror_wnd (s : State) (m : Mirror) : (s.offerMirror m).wnd = s.wnd := by
  obtain ⟨_, h⟩ := s.offerMirror_frame m
  rw [h]
@[simp] theorem State.offerMirror_stu (s : State) (m : Mirror) : (s.offerMirror m).stu = s.stu := by
  obtain ⟨_, h⟩ := s.offerMirror_frame m
  rw [h]
@[simp] theorem State.offerMirror_flu (s : State) (m : Mirror) : (s.offerMirror m).flu = s.flu := by
  obtain ⟨_, h⟩ := s.offerMirror_frame m
  rw [h]
@[simp] theorem State.offerMirror_jtb (s : State) (m : Mirror) : (s.offerMirror m).jtb = s.jtb := by
  obtain ⟨_, h⟩ := s.offerMirror_frame m
  rw [h]
@[simp] theorem State.offerMirror_startList (s : State) (m : Mirror) : (s.offerMirror m).startList = s.startList := by
  obtain ⟨_, h⟩ := s.offerMirror_frame m
  rw [h]
@[simp] theorem State.offerMirror_results (s : State) (m : Mirror) : (s.offerMirror m).results = s.results := by
  obtain ⟨_, h⟩ := s.offerMirror_frame m
  rw [h]
@[simp] theorem State.offerMirror_competition (s : State) (m : Mirror) : (s.offerMirror m).competition = s.competition := by
  obtain ⟨_, h⟩ := s.offerMirror_frame m
  rw [h]
@[simp] theorem State.offerMirror_dsp (s : State) (m : Mirror) : (s.offerMirror m).dsp = s.dsp := by
  obtain ⟨_, h⟩ := s.offerMirror_frame m
  rw [h]
@[simp] theorem State.offerMirror_conditions (s : State) (m : Mirror) : (s.offerMirror m).conditions = s.conditions := by
  obtain ⟨_, h⟩ := s.offerMirror_frame m
  rw [h]
@[simp] theorem State.offerMirror_enables (s : State) (m : Mirror) : (s.offerMirror m).enables = s.enables := by
  obtain ⟨_, h⟩ := s.offerMirror_frame m
  rw [h]
@[simp] theorem State.offerMirror_snapshot (s : State) (m : Mirror) : (s.offerMirror m).snapshot = s.snapshot := by
  obtain ⟨_, h⟩ := s.offerMirror_frame m
  rw [h]
@[simp] theorem State.offerMirror_loadBuffer (s : State) (m : Mirror) : (s.offerMirror m).loadBuffer = s.loadBuffer := by
  obtain ⟨_, h⟩ := s.offerMirror_frame m
  rw [h]
@[simp] theorem State.offerMirror_engine (s : State) (m : Mirror) : (s.offerMirror m).engine = s.engine := by
  obtain ⟨_, h⟩ := s.offerMirror_frame m
  rw [h]
@[simp] theorem State.offerMirror_store (s : State) (m : Mirror) : (s.offerMirror m).store = s.store := by
  obtain ⟨_, h⟩ := s.offerMirror_frame m
  rw [h]
@[simp] theorem State.now_offerMirror (s : State) (m : Mirror) : (s.offerMirror m).now = s.now := by
  simp [State.now]

/-- `pumpOffice` changes lineO and office at most. -/
theorem State.pumpOffice_frame (s : State) :
    ∃ (x0 : LineUnit) (x1 : OfficeQueue), s.pumpOffice = { s with lineO := x0, office := x1 } := by
  unfold State.pumpOffice
  repeat' split
  all_goals exact ⟨_, _, rfl⟩

@[simp] theorem State.pumpOffice_pending (s : State) : (s.pumpOffice).pending = s.pending := by
  obtain ⟨_, _, h⟩ := s.pumpOffice_frame
  rw [h]
@[simp] theorem State.pumpOffice_heldInReset (s : State) : (s.pumpOffice).heldInReset = s.heldInReset := by
  obtain ⟨_, _, h⟩ := s.pumpOffice_frame
  rw [h]
@[simp] theorem State.pumpOffice_ready (s : State) : (s.pumpOffice).ready = s.ready := by
  obtain ⟨_, _, h⟩ := s.pumpOffice_frame
  rw [h]
@[simp] theorem State.pumpOffice_lastReset (s : State) : (s.pumpOffice).lastReset = s.lastReset := by
  obtain ⟨_, _, h⟩ := s.pumpOffice_frame
  rw [h]
@[simp] theorem State.pumpOffice_takenReset (s : State) : (s.pumpOffice).takenReset = s.takenReset := by
  obtain ⟨_, _, h⟩ := s.pumpOffice_frame
  rw [h]
@[simp] theorem State.pumpOffice_lineT (s : State) : (s.pumpOffice).lineT = s.lineT := by
  obtain ⟨_, _, h⟩ := s.pumpOffice_frame
  rw [h]
@[simp] theorem State.pumpOffice_lineS (s : State) : (s.pumpOffice).lineS = s.lineS := by
  obtain ⟨_, _, h⟩ := s.pumpOffice_frame
  rw [h]
@[simp] theorem State.pumpOffice_lsc (s : State) : (s.pumpOffice).lsc = s.lsc := by
  obtain ⟨_, _, h⟩ := s.pumpOffice_frame
  rw [h]
@[simp] theorem State.pumpOffice_tables (s : State) : (s.pumpOffice).tables = s.tables := by
  obtain ⟨_, _, h⟩ := s.pumpOffice_frame
  rw [h]
@[simp] theorem State.pumpOffice_hck (s : State) : (s.pumpOffice).hck = s.hck := by
  obtain ⟨_, _, h⟩ := s.pumpOffice_frame
  rw [h]
@[simp] theorem State.pumpOffice_wnd (s : State) : (s.pumpOffice).wnd = s.wnd := by
  obtain ⟨_, _, h⟩ := s.pumpOffice_frame
  rw [h]
@[simp] theorem State.pumpOffice_stu (s : State) : (s.pumpOffice).stu = s.stu := by
  obtain ⟨_, _, h⟩ := s.pumpOffice_frame
  rw [h]
@[simp] theorem State.pumpOffice_flu (s : State) : (s.pumpOffice).flu = s.flu := by
  obtain ⟨_, _, h⟩ := s.pumpOffice_frame
  rw [h]
@[simp] theorem State.pumpOffice_jtb (s : State) : (s.pumpOffice).jtb = s.jtb := by
  obtain ⟨_, _, h⟩ := s.pumpOffice_frame
  rw [h]
@[simp] theorem State.pumpOffice_startList (s : State) : (s.pumpOffice).startList = s.startList := by
  obtain ⟨_, _, h⟩ := s.pumpOffice_frame
  rw [h]
@[simp] theorem State.pumpOffice_results (s : State) : (s.pumpOffice).results = s.results := by
  obtain ⟨_, _, h⟩ := s.pumpOffice_frame
  rw [h]
@[simp] theorem State.pumpOffice_competition (s : State) : (s.pumpOffice).competition = s.competition := by
  obtain ⟨_, _, h⟩ := s.pumpOffice_frame
  rw [h]
@[simp] theorem State.pumpOffice_dsp (s : State) : (s.pumpOffice).dsp = s.dsp := by
  obtain ⟨_, _, h⟩ := s.pumpOffice_frame
  rw [h]
@[simp] theorem State.pumpOffice_conditions (s : State) : (s.pumpOffice).conditions = s.conditions := by
  obtain ⟨_, _, h⟩ := s.pumpOffice_frame
  rw [h]
@[simp] theorem State.pumpOffice_enables (s : State) : (s.pumpOffice).enables = s.enables := by
  obtain ⟨_, _, h⟩ := s.pumpOffice_frame
  rw [h]
@[simp] theorem State.pumpOffice_snapshot (s : State) : (s.pumpOffice).snapshot = s.snapshot := by
  obtain ⟨_, _, h⟩ := s.pumpOffice_frame
  rw [h]
@[simp] theorem State.pumpOffice_loadBuffer (s : State) : (s.pumpOffice).loadBuffer = s.loadBuffer := by
  obtain ⟨_, _, h⟩ := s.pumpOffice_frame
  rw [h]
@[simp] theorem State.pumpOffice_engine (s : State) : (s.pumpOffice).engine = s.engine := by
  obtain ⟨_, _, h⟩ := s.pumpOffice_frame
  rw [h]
@[simp] theorem State.pumpOffice_store (s : State) : (s.pumpOffice).store = s.store := by
  obtain ⟨_, _, h⟩ := s.pumpOffice_frame
  rw [h]
@[simp] theorem State.now_pumpOffice (s : State) : (s.pumpOffice).now = s.now := by
  simp [State.now]

/-- `sendPage` changes lsc at most. -/
theorem State.sendPage_frame (s : State) (kind : PageKind) :
    ∃ (x0 : Scheduler), s.sendPage kind = { s with lsc := x0 } := by
  exact ⟨_, rfl⟩

@[simp] theorem State.sendPage_pending (s : State) (kind : PageKind) : (s.sendPage kind).pending = s.pending := by
  obtain ⟨_, h⟩ := s.sendPage_frame kind
  rw [h]
@[simp] theorem State.sendPage_heldInReset (s : State) (kind : PageKind) : (s.sendPage kind).heldInReset = s.heldInReset := by
  obtain ⟨_, h⟩ := s.sendPage_frame kind
  rw [h]
@[simp] theorem State.sendPage_ready (s : State) (kind : PageKind) : (s.sendPage kind).ready = s.ready := by
  obtain ⟨_, h⟩ := s.sendPage_frame kind
  rw [h]
@[simp] theorem State.sendPage_lastReset (s : State) (kind : PageKind) : (s.sendPage kind).lastReset = s.lastReset := by
  obtain ⟨_, h⟩ := s.sendPage_frame kind
  rw [h]
@[simp] theorem State.sendPage_takenReset (s : State) (kind : PageKind) : (s.sendPage kind).takenReset = s.takenReset := by
  obtain ⟨_, h⟩ := s.sendPage_frame kind
  rw [h]
@[simp] theorem State.sendPage_lineT (s : State) (kind : PageKind) : (s.sendPage kind).lineT = s.lineT := by
  obtain ⟨_, h⟩ := s.sendPage_frame kind
  rw [h]
@[simp] theorem State.sendPage_lineS (s : State) (kind : PageKind) : (s.sendPage kind).lineS = s.lineS := by
  obtain ⟨_, h⟩ := s.sendPage_frame kind
  rw [h]
@[simp] theorem State.sendPage_lineO (s : State) (kind : PageKind) : (s.sendPage kind).lineO = s.lineO := by
  obtain ⟨_, h⟩ := s.sendPage_frame kind
  rw [h]
@[simp] theorem State.sendPage_tables (s : State) (kind : PageKind) : (s.sendPage kind).tables = s.tables := by
  obtain ⟨_, h⟩ := s.sendPage_frame kind
  rw [h]
@[simp] theorem State.sendPage_hck (s : State) (kind : PageKind) : (s.sendPage kind).hck = s.hck := by
  obtain ⟨_, h⟩ := s.sendPage_frame kind
  rw [h]
@[simp] theorem State.sendPage_wnd (s : State) (kind : PageKind) : (s.sendPage kind).wnd = s.wnd := by
  obtain ⟨_, h⟩ := s.sendPage_frame kind
  rw [h]
@[simp] theorem State.sendPage_stu (s : State) (kind : PageKind) : (s.sendPage kind).stu = s.stu := by
  obtain ⟨_, h⟩ := s.sendPage_frame kind
  rw [h]
@[simp] theorem State.sendPage_flu (s : State) (kind : PageKind) : (s.sendPage kind).flu = s.flu := by
  obtain ⟨_, h⟩ := s.sendPage_frame kind
  rw [h]
@[simp] theorem State.sendPage_jtb (s : State) (kind : PageKind) : (s.sendPage kind).jtb = s.jtb := by
  obtain ⟨_, h⟩ := s.sendPage_frame kind
  rw [h]
@[simp] theorem State.sendPage_startList (s : State) (kind : PageKind) : (s.sendPage kind).startList = s.startList := by
  obtain ⟨_, h⟩ := s.sendPage_frame kind
  rw [h]
@[simp] theorem State.sendPage_results (s : State) (kind : PageKind) : (s.sendPage kind).results = s.results := by
  obtain ⟨_, h⟩ := s.sendPage_frame kind
  rw [h]
@[simp] theorem State.sendPage_competition (s : State) (kind : PageKind) : (s.sendPage kind).competition = s.competition := by
  obtain ⟨_, h⟩ := s.sendPage_frame kind
  rw [h]
@[simp] theorem State.sendPage_dsp (s : State) (kind : PageKind) : (s.sendPage kind).dsp = s.dsp := by
  obtain ⟨_, h⟩ := s.sendPage_frame kind
  rw [h]
@[simp] theorem State.sendPage_conditions (s : State) (kind : PageKind) : (s.sendPage kind).conditions = s.conditions := by
  obtain ⟨_, h⟩ := s.sendPage_frame kind
  rw [h]
@[simp] theorem State.sendPage_enables (s : State) (kind : PageKind) : (s.sendPage kind).enables = s.enables := by
  obtain ⟨_, h⟩ := s.sendPage_frame kind
  rw [h]
@[simp] theorem State.sendPage_office (s : State) (kind : PageKind) : (s.sendPage kind).office = s.office := by
  obtain ⟨_, h⟩ := s.sendPage_frame kind
  rw [h]
@[simp] theorem State.sendPage_snapshot (s : State) (kind : PageKind) : (s.sendPage kind).snapshot = s.snapshot := by
  obtain ⟨_, h⟩ := s.sendPage_frame kind
  rw [h]
@[simp] theorem State.sendPage_loadBuffer (s : State) (kind : PageKind) : (s.sendPage kind).loadBuffer = s.loadBuffer := by
  obtain ⟨_, h⟩ := s.sendPage_frame kind
  rw [h]
@[simp] theorem State.sendPage_engine (s : State) (kind : PageKind) : (s.sendPage kind).engine = s.engine := by
  obtain ⟨_, h⟩ := s.sendPage_frame kind
  rw [h]
@[simp] theorem State.sendPage_store (s : State) (kind : PageKind) : (s.sendPage kind).store = s.store := by
  obtain ⟨_, h⟩ := s.sendPage_frame kind
  rw [h]
@[simp] theorem State.now_sendPage (s : State) (kind : PageKind) : (s.sendPage kind).now = s.now := by
  simp [State.now]

/-- `sendCurrent` changes dsp and lsc at most. -/
theorem State.sendCurrent_frame (s : State) (k : Fin 4) :
    ∃ (x0 : Display) (x1 : Scheduler), s.sendCurrent k = { s with dsp := x0, lsc := x1 } := by
  unfold State.sendCurrent
  split
  · exact ⟨_, _, rfl⟩
  · exact ⟨_, _, rfl⟩

@[simp] theorem State.sendCurrent_pending (s : State) (k : Fin 4) : (s.sendCurrent k).pending = s.pending := by
  obtain ⟨_, _, h⟩ := s.sendCurrent_frame k
  rw [h]
@[simp] theorem State.sendCurrent_heldInReset (s : State) (k : Fin 4) : (s.sendCurrent k).heldInReset = s.heldInReset := by
  obtain ⟨_, _, h⟩ := s.sendCurrent_frame k
  rw [h]
@[simp] theorem State.sendCurrent_ready (s : State) (k : Fin 4) : (s.sendCurrent k).ready = s.ready := by
  obtain ⟨_, _, h⟩ := s.sendCurrent_frame k
  rw [h]
@[simp] theorem State.sendCurrent_lastReset (s : State) (k : Fin 4) : (s.sendCurrent k).lastReset = s.lastReset := by
  obtain ⟨_, _, h⟩ := s.sendCurrent_frame k
  rw [h]
@[simp] theorem State.sendCurrent_takenReset (s : State) (k : Fin 4) : (s.sendCurrent k).takenReset = s.takenReset := by
  obtain ⟨_, _, h⟩ := s.sendCurrent_frame k
  rw [h]
@[simp] theorem State.sendCurrent_lineT (s : State) (k : Fin 4) : (s.sendCurrent k).lineT = s.lineT := by
  obtain ⟨_, _, h⟩ := s.sendCurrent_frame k
  rw [h]
@[simp] theorem State.sendCurrent_lineS (s : State) (k : Fin 4) : (s.sendCurrent k).lineS = s.lineS := by
  obtain ⟨_, _, h⟩ := s.sendCurrent_frame k
  rw [h]
@[simp] theorem State.sendCurrent_lineO (s : State) (k : Fin 4) : (s.sendCurrent k).lineO = s.lineO := by
  obtain ⟨_, _, h⟩ := s.sendCurrent_frame k
  rw [h]
@[simp] theorem State.sendCurrent_tables (s : State) (k : Fin 4) : (s.sendCurrent k).tables = s.tables := by
  obtain ⟨_, _, h⟩ := s.sendCurrent_frame k
  rw [h]
@[simp] theorem State.sendCurrent_hck (s : State) (k : Fin 4) : (s.sendCurrent k).hck = s.hck := by
  obtain ⟨_, _, h⟩ := s.sendCurrent_frame k
  rw [h]
@[simp] theorem State.sendCurrent_wnd (s : State) (k : Fin 4) : (s.sendCurrent k).wnd = s.wnd := by
  obtain ⟨_, _, h⟩ := s.sendCurrent_frame k
  rw [h]
@[simp] theorem State.sendCurrent_stu (s : State) (k : Fin 4) : (s.sendCurrent k).stu = s.stu := by
  obtain ⟨_, _, h⟩ := s.sendCurrent_frame k
  rw [h]
@[simp] theorem State.sendCurrent_flu (s : State) (k : Fin 4) : (s.sendCurrent k).flu = s.flu := by
  obtain ⟨_, _, h⟩ := s.sendCurrent_frame k
  rw [h]
@[simp] theorem State.sendCurrent_jtb (s : State) (k : Fin 4) : (s.sendCurrent k).jtb = s.jtb := by
  obtain ⟨_, _, h⟩ := s.sendCurrent_frame k
  rw [h]
@[simp] theorem State.sendCurrent_startList (s : State) (k : Fin 4) : (s.sendCurrent k).startList = s.startList := by
  obtain ⟨_, _, h⟩ := s.sendCurrent_frame k
  rw [h]
@[simp] theorem State.sendCurrent_results (s : State) (k : Fin 4) : (s.sendCurrent k).results = s.results := by
  obtain ⟨_, _, h⟩ := s.sendCurrent_frame k
  rw [h]
@[simp] theorem State.sendCurrent_competition (s : State) (k : Fin 4) : (s.sendCurrent k).competition = s.competition := by
  obtain ⟨_, _, h⟩ := s.sendCurrent_frame k
  rw [h]
@[simp] theorem State.sendCurrent_conditions (s : State) (k : Fin 4) : (s.sendCurrent k).conditions = s.conditions := by
  obtain ⟨_, _, h⟩ := s.sendCurrent_frame k
  rw [h]
@[simp] theorem State.sendCurrent_enables (s : State) (k : Fin 4) : (s.sendCurrent k).enables = s.enables := by
  obtain ⟨_, _, h⟩ := s.sendCurrent_frame k
  rw [h]
@[simp] theorem State.sendCurrent_office (s : State) (k : Fin 4) : (s.sendCurrent k).office = s.office := by
  obtain ⟨_, _, h⟩ := s.sendCurrent_frame k
  rw [h]
@[simp] theorem State.sendCurrent_snapshot (s : State) (k : Fin 4) : (s.sendCurrent k).snapshot = s.snapshot := by
  obtain ⟨_, _, h⟩ := s.sendCurrent_frame k
  rw [h]
@[simp] theorem State.sendCurrent_loadBuffer (s : State) (k : Fin 4) : (s.sendCurrent k).loadBuffer = s.loadBuffer := by
  obtain ⟨_, _, h⟩ := s.sendCurrent_frame k
  rw [h]
@[simp] theorem State.sendCurrent_engine (s : State) (k : Fin 4) : (s.sendCurrent k).engine = s.engine := by
  obtain ⟨_, _, h⟩ := s.sendCurrent_frame k
  rw [h]
@[simp] theorem State.sendCurrent_store (s : State) (k : Fin 4) : (s.sendCurrent k).store = s.store := by
  obtain ⟨_, _, h⟩ := s.sendCurrent_frame k
  rw [h]
@[simp] theorem State.now_sendCurrent (s : State) (k : Fin 4) : (s.sendCurrent k).now = s.now := by
  simp [State.now]

/-- `sendResult` changes dsp and lsc at most. -/
theorem State.sendResult_frame (s : State) (e : ResultEntry) :
    ∃ (x0 : Display) (x1 : Scheduler), s.sendResult e = { s with dsp := x0, lsc := x1 } := by
  exact ⟨_, _, rfl⟩

@[simp] theorem State.sendResult_pending (s : State) (e : ResultEntry) : (s.sendResult e).pending = s.pending := by
  obtain ⟨_, _, h⟩ := s.sendResult_frame e
  rw [h]
@[simp] theorem State.sendResult_heldInReset (s : State) (e : ResultEntry) : (s.sendResult e).heldInReset = s.heldInReset := by
  obtain ⟨_, _, h⟩ := s.sendResult_frame e
  rw [h]
@[simp] theorem State.sendResult_ready (s : State) (e : ResultEntry) : (s.sendResult e).ready = s.ready := by
  obtain ⟨_, _, h⟩ := s.sendResult_frame e
  rw [h]
@[simp] theorem State.sendResult_lastReset (s : State) (e : ResultEntry) : (s.sendResult e).lastReset = s.lastReset := by
  obtain ⟨_, _, h⟩ := s.sendResult_frame e
  rw [h]
@[simp] theorem State.sendResult_takenReset (s : State) (e : ResultEntry) : (s.sendResult e).takenReset = s.takenReset := by
  obtain ⟨_, _, h⟩ := s.sendResult_frame e
  rw [h]
@[simp] theorem State.sendResult_lineT (s : State) (e : ResultEntry) : (s.sendResult e).lineT = s.lineT := by
  obtain ⟨_, _, h⟩ := s.sendResult_frame e
  rw [h]
@[simp] theorem State.sendResult_lineS (s : State) (e : ResultEntry) : (s.sendResult e).lineS = s.lineS := by
  obtain ⟨_, _, h⟩ := s.sendResult_frame e
  rw [h]
@[simp] theorem State.sendResult_lineO (s : State) (e : ResultEntry) : (s.sendResult e).lineO = s.lineO := by
  obtain ⟨_, _, h⟩ := s.sendResult_frame e
  rw [h]
@[simp] theorem State.sendResult_tables (s : State) (e : ResultEntry) : (s.sendResult e).tables = s.tables := by
  obtain ⟨_, _, h⟩ := s.sendResult_frame e
  rw [h]
@[simp] theorem State.sendResult_hck (s : State) (e : ResultEntry) : (s.sendResult e).hck = s.hck := by
  obtain ⟨_, _, h⟩ := s.sendResult_frame e
  rw [h]
@[simp] theorem State.sendResult_wnd (s : State) (e : ResultEntry) : (s.sendResult e).wnd = s.wnd := by
  obtain ⟨_, _, h⟩ := s.sendResult_frame e
  rw [h]
@[simp] theorem State.sendResult_stu (s : State) (e : ResultEntry) : (s.sendResult e).stu = s.stu := by
  obtain ⟨_, _, h⟩ := s.sendResult_frame e
  rw [h]
@[simp] theorem State.sendResult_flu (s : State) (e : ResultEntry) : (s.sendResult e).flu = s.flu := by
  obtain ⟨_, _, h⟩ := s.sendResult_frame e
  rw [h]
@[simp] theorem State.sendResult_jtb (s : State) (e : ResultEntry) : (s.sendResult e).jtb = s.jtb := by
  obtain ⟨_, _, h⟩ := s.sendResult_frame e
  rw [h]
@[simp] theorem State.sendResult_startList (s : State) (e : ResultEntry) : (s.sendResult e).startList = s.startList := by
  obtain ⟨_, _, h⟩ := s.sendResult_frame e
  rw [h]
@[simp] theorem State.sendResult_results (s : State) (e : ResultEntry) : (s.sendResult e).results = s.results := by
  obtain ⟨_, _, h⟩ := s.sendResult_frame e
  rw [h]
@[simp] theorem State.sendResult_competition (s : State) (e : ResultEntry) : (s.sendResult e).competition = s.competition := by
  obtain ⟨_, _, h⟩ := s.sendResult_frame e
  rw [h]
@[simp] theorem State.sendResult_conditions (s : State) (e : ResultEntry) : (s.sendResult e).conditions = s.conditions := by
  obtain ⟨_, _, h⟩ := s.sendResult_frame e
  rw [h]
@[simp] theorem State.sendResult_enables (s : State) (e : ResultEntry) : (s.sendResult e).enables = s.enables := by
  obtain ⟨_, _, h⟩ := s.sendResult_frame e
  rw [h]
@[simp] theorem State.sendResult_office (s : State) (e : ResultEntry) : (s.sendResult e).office = s.office := by
  obtain ⟨_, _, h⟩ := s.sendResult_frame e
  rw [h]
@[simp] theorem State.sendResult_snapshot (s : State) (e : ResultEntry) : (s.sendResult e).snapshot = s.snapshot := by
  obtain ⟨_, _, h⟩ := s.sendResult_frame e
  rw [h]
@[simp] theorem State.sendResult_loadBuffer (s : State) (e : ResultEntry) : (s.sendResult e).loadBuffer = s.loadBuffer := by
  obtain ⟨_, _, h⟩ := s.sendResult_frame e
  rw [h]
@[simp] theorem State.sendResult_engine (s : State) (e : ResultEntry) : (s.sendResult e).engine = s.engine := by
  obtain ⟨_, _, h⟩ := s.sendResult_frame e
  rw [h]
@[simp] theorem State.sendResult_store (s : State) (e : ResultEntry) : (s.sendResult e).store = s.store := by
  obtain ⟨_, _, h⟩ := s.sendResult_frame e
  rw [h]
@[simp] theorem State.now_sendResult (s : State) (e : ResultEntry) : (s.sendResult e).now = s.now := by
  simp [State.now]

/-- `emptyCurrent` changes dsp and lsc at most. -/
theorem State.emptyCurrent_frame (s : State) (bib : Nat) :
    ∃ (x0 : Display) (x1 : Scheduler), s.emptyCurrent bib = { s with dsp := x0, lsc := x1 } := by
  unfold State.emptyCurrent
  split
  · exact ⟨_, _, rfl⟩
  · exact ⟨_, _, rfl⟩

@[simp] theorem State.emptyCurrent_pending (s : State) (bib : Nat) : (s.emptyCurrent bib).pending = s.pending := by
  obtain ⟨_, _, h⟩ := s.emptyCurrent_frame bib
  rw [h]
@[simp] theorem State.emptyCurrent_heldInReset (s : State) (bib : Nat) : (s.emptyCurrent bib).heldInReset = s.heldInReset := by
  obtain ⟨_, _, h⟩ := s.emptyCurrent_frame bib
  rw [h]
@[simp] theorem State.emptyCurrent_ready (s : State) (bib : Nat) : (s.emptyCurrent bib).ready = s.ready := by
  obtain ⟨_, _, h⟩ := s.emptyCurrent_frame bib
  rw [h]
@[simp] theorem State.emptyCurrent_lastReset (s : State) (bib : Nat) : (s.emptyCurrent bib).lastReset = s.lastReset := by
  obtain ⟨_, _, h⟩ := s.emptyCurrent_frame bib
  rw [h]
@[simp] theorem State.emptyCurrent_takenReset (s : State) (bib : Nat) : (s.emptyCurrent bib).takenReset = s.takenReset := by
  obtain ⟨_, _, h⟩ := s.emptyCurrent_frame bib
  rw [h]
@[simp] theorem State.emptyCurrent_lineT (s : State) (bib : Nat) : (s.emptyCurrent bib).lineT = s.lineT := by
  obtain ⟨_, _, h⟩ := s.emptyCurrent_frame bib
  rw [h]
@[simp] theorem State.emptyCurrent_lineS (s : State) (bib : Nat) : (s.emptyCurrent bib).lineS = s.lineS := by
  obtain ⟨_, _, h⟩ := s.emptyCurrent_frame bib
  rw [h]
@[simp] theorem State.emptyCurrent_lineO (s : State) (bib : Nat) : (s.emptyCurrent bib).lineO = s.lineO := by
  obtain ⟨_, _, h⟩ := s.emptyCurrent_frame bib
  rw [h]
@[simp] theorem State.emptyCurrent_tables (s : State) (bib : Nat) : (s.emptyCurrent bib).tables = s.tables := by
  obtain ⟨_, _, h⟩ := s.emptyCurrent_frame bib
  rw [h]
@[simp] theorem State.emptyCurrent_hck (s : State) (bib : Nat) : (s.emptyCurrent bib).hck = s.hck := by
  obtain ⟨_, _, h⟩ := s.emptyCurrent_frame bib
  rw [h]
@[simp] theorem State.emptyCurrent_wnd (s : State) (bib : Nat) : (s.emptyCurrent bib).wnd = s.wnd := by
  obtain ⟨_, _, h⟩ := s.emptyCurrent_frame bib
  rw [h]
@[simp] theorem State.emptyCurrent_stu (s : State) (bib : Nat) : (s.emptyCurrent bib).stu = s.stu := by
  obtain ⟨_, _, h⟩ := s.emptyCurrent_frame bib
  rw [h]
@[simp] theorem State.emptyCurrent_flu (s : State) (bib : Nat) : (s.emptyCurrent bib).flu = s.flu := by
  obtain ⟨_, _, h⟩ := s.emptyCurrent_frame bib
  rw [h]
@[simp] theorem State.emptyCurrent_jtb (s : State) (bib : Nat) : (s.emptyCurrent bib).jtb = s.jtb := by
  obtain ⟨_, _, h⟩ := s.emptyCurrent_frame bib
  rw [h]
@[simp] theorem State.emptyCurrent_startList (s : State) (bib : Nat) : (s.emptyCurrent bib).startList = s.startList := by
  obtain ⟨_, _, h⟩ := s.emptyCurrent_frame bib
  rw [h]
@[simp] theorem State.emptyCurrent_results (s : State) (bib : Nat) : (s.emptyCurrent bib).results = s.results := by
  obtain ⟨_, _, h⟩ := s.emptyCurrent_frame bib
  rw [h]
@[simp] theorem State.emptyCurrent_competition (s : State) (bib : Nat) : (s.emptyCurrent bib).competition = s.competition := by
  obtain ⟨_, _, h⟩ := s.emptyCurrent_frame bib
  rw [h]
@[simp] theorem State.emptyCurrent_conditions (s : State) (bib : Nat) : (s.emptyCurrent bib).conditions = s.conditions := by
  obtain ⟨_, _, h⟩ := s.emptyCurrent_frame bib
  rw [h]
@[simp] theorem State.emptyCurrent_enables (s : State) (bib : Nat) : (s.emptyCurrent bib).enables = s.enables := by
  obtain ⟨_, _, h⟩ := s.emptyCurrent_frame bib
  rw [h]
@[simp] theorem State.emptyCurrent_office (s : State) (bib : Nat) : (s.emptyCurrent bib).office = s.office := by
  obtain ⟨_, _, h⟩ := s.emptyCurrent_frame bib
  rw [h]
@[simp] theorem State.emptyCurrent_snapshot (s : State) (bib : Nat) : (s.emptyCurrent bib).snapshot = s.snapshot := by
  obtain ⟨_, _, h⟩ := s.emptyCurrent_frame bib
  rw [h]
@[simp] theorem State.emptyCurrent_loadBuffer (s : State) (bib : Nat) : (s.emptyCurrent bib).loadBuffer = s.loadBuffer := by
  obtain ⟨_, _, h⟩ := s.emptyCurrent_frame bib
  rw [h]
@[simp] theorem State.emptyCurrent_engine (s : State) (bib : Nat) : (s.emptyCurrent bib).engine = s.engine := by
  obtain ⟨_, _, h⟩ := s.emptyCurrent_frame bib
  rw [h]
@[simp] theorem State.emptyCurrent_store (s : State) (bib : Nat) : (s.emptyCurrent bib).store = s.store := by
  obtain ⟨_, _, h⟩ := s.emptyCurrent_frame bib
  rw [h]
@[simp] theorem State.now_emptyCurrent (s : State) (bib : Nat) : (s.emptyCurrent bib).now = s.now := by
  simp [State.now]

/-- `sendLeaders` changes dsp and lsc at most. -/
theorem State.sendLeaders_frame (s : State) :
    ∃ (x0 : Display) (x1 : Scheduler), s.sendLeaders = { s with dsp := x0, lsc := x1 } := by
  exact ⟨_, _, rfl⟩

@[simp] theorem State.sendLeaders_pending (s : State) : (s.sendLeaders).pending = s.pending := by
  obtain ⟨_, _, h⟩ := s.sendLeaders_frame
  rw [h]
@[simp] theorem State.sendLeaders_heldInReset (s : State) : (s.sendLeaders).heldInReset = s.heldInReset := by
  obtain ⟨_, _, h⟩ := s.sendLeaders_frame
  rw [h]
@[simp] theorem State.sendLeaders_ready (s : State) : (s.sendLeaders).ready = s.ready := by
  obtain ⟨_, _, h⟩ := s.sendLeaders_frame
  rw [h]
@[simp] theorem State.sendLeaders_lastReset (s : State) : (s.sendLeaders).lastReset = s.lastReset := by
  obtain ⟨_, _, h⟩ := s.sendLeaders_frame
  rw [h]
@[simp] theorem State.sendLeaders_takenReset (s : State) : (s.sendLeaders).takenReset = s.takenReset := by
  obtain ⟨_, _, h⟩ := s.sendLeaders_frame
  rw [h]
@[simp] theorem State.sendLeaders_lineT (s : State) : (s.sendLeaders).lineT = s.lineT := by
  obtain ⟨_, _, h⟩ := s.sendLeaders_frame
  rw [h]
@[simp] theorem State.sendLeaders_lineS (s : State) : (s.sendLeaders).lineS = s.lineS := by
  obtain ⟨_, _, h⟩ := s.sendLeaders_frame
  rw [h]
@[simp] theorem State.sendLeaders_lineO (s : State) : (s.sendLeaders).lineO = s.lineO := by
  obtain ⟨_, _, h⟩ := s.sendLeaders_frame
  rw [h]
@[simp] theorem State.sendLeaders_tables (s : State) : (s.sendLeaders).tables = s.tables := by
  obtain ⟨_, _, h⟩ := s.sendLeaders_frame
  rw [h]
@[simp] theorem State.sendLeaders_hck (s : State) : (s.sendLeaders).hck = s.hck := by
  obtain ⟨_, _, h⟩ := s.sendLeaders_frame
  rw [h]
@[simp] theorem State.sendLeaders_wnd (s : State) : (s.sendLeaders).wnd = s.wnd := by
  obtain ⟨_, _, h⟩ := s.sendLeaders_frame
  rw [h]
@[simp] theorem State.sendLeaders_stu (s : State) : (s.sendLeaders).stu = s.stu := by
  obtain ⟨_, _, h⟩ := s.sendLeaders_frame
  rw [h]
@[simp] theorem State.sendLeaders_flu (s : State) : (s.sendLeaders).flu = s.flu := by
  obtain ⟨_, _, h⟩ := s.sendLeaders_frame
  rw [h]
@[simp] theorem State.sendLeaders_jtb (s : State) : (s.sendLeaders).jtb = s.jtb := by
  obtain ⟨_, _, h⟩ := s.sendLeaders_frame
  rw [h]
@[simp] theorem State.sendLeaders_startList (s : State) : (s.sendLeaders).startList = s.startList := by
  obtain ⟨_, _, h⟩ := s.sendLeaders_frame
  rw [h]
@[simp] theorem State.sendLeaders_results (s : State) : (s.sendLeaders).results = s.results := by
  obtain ⟨_, _, h⟩ := s.sendLeaders_frame
  rw [h]
@[simp] theorem State.sendLeaders_competition (s : State) : (s.sendLeaders).competition = s.competition := by
  obtain ⟨_, _, h⟩ := s.sendLeaders_frame
  rw [h]
@[simp] theorem State.sendLeaders_conditions (s : State) : (s.sendLeaders).conditions = s.conditions := by
  obtain ⟨_, _, h⟩ := s.sendLeaders_frame
  rw [h]
@[simp] theorem State.sendLeaders_enables (s : State) : (s.sendLeaders).enables = s.enables := by
  obtain ⟨_, _, h⟩ := s.sendLeaders_frame
  rw [h]
@[simp] theorem State.sendLeaders_office (s : State) : (s.sendLeaders).office = s.office := by
  obtain ⟨_, _, h⟩ := s.sendLeaders_frame
  rw [h]
@[simp] theorem State.sendLeaders_snapshot (s : State) : (s.sendLeaders).snapshot = s.snapshot := by
  obtain ⟨_, _, h⟩ := s.sendLeaders_frame
  rw [h]
@[simp] theorem State.sendLeaders_loadBuffer (s : State) : (s.sendLeaders).loadBuffer = s.loadBuffer := by
  obtain ⟨_, _, h⟩ := s.sendLeaders_frame
  rw [h]
@[simp] theorem State.sendLeaders_engine (s : State) : (s.sendLeaders).engine = s.engine := by
  obtain ⟨_, _, h⟩ := s.sendLeaders_frame
  rw [h]
@[simp] theorem State.sendLeaders_store (s : State) : (s.sendLeaders).store = s.store := by
  obtain ⟨_, _, h⟩ := s.sendLeaders_frame
  rw [h]
@[simp] theorem State.now_sendLeaders (s : State) : (s.sendLeaders).now = s.now := by
  simp [State.now]

/-- `sendCountdown` changes dsp and lsc at most. -/
theorem State.sendCountdown_frame (s : State) (seconds : Nat) :
    ∃ (x0 : Display) (x1 : Scheduler), s.sendCountdown seconds = { s with dsp := x0, lsc := x1 } := by
  exact ⟨_, _, rfl⟩

@[simp] theorem State.sendCountdown_pending (s : State) (seconds : Nat) : (s.sendCountdown seconds).pending = s.pending := by
  obtain ⟨_, _, h⟩ := s.sendCountdown_frame seconds
  rw [h]
@[simp] theorem State.sendCountdown_heldInReset (s : State) (seconds : Nat) : (s.sendCountdown seconds).heldInReset = s.heldInReset := by
  obtain ⟨_, _, h⟩ := s.sendCountdown_frame seconds
  rw [h]
@[simp] theorem State.sendCountdown_ready (s : State) (seconds : Nat) : (s.sendCountdown seconds).ready = s.ready := by
  obtain ⟨_, _, h⟩ := s.sendCountdown_frame seconds
  rw [h]
@[simp] theorem State.sendCountdown_lastReset (s : State) (seconds : Nat) : (s.sendCountdown seconds).lastReset = s.lastReset := by
  obtain ⟨_, _, h⟩ := s.sendCountdown_frame seconds
  rw [h]
@[simp] theorem State.sendCountdown_takenReset (s : State) (seconds : Nat) : (s.sendCountdown seconds).takenReset = s.takenReset := by
  obtain ⟨_, _, h⟩ := s.sendCountdown_frame seconds
  rw [h]
@[simp] theorem State.sendCountdown_lineT (s : State) (seconds : Nat) : (s.sendCountdown seconds).lineT = s.lineT := by
  obtain ⟨_, _, h⟩ := s.sendCountdown_frame seconds
  rw [h]
@[simp] theorem State.sendCountdown_lineS (s : State) (seconds : Nat) : (s.sendCountdown seconds).lineS = s.lineS := by
  obtain ⟨_, _, h⟩ := s.sendCountdown_frame seconds
  rw [h]
@[simp] theorem State.sendCountdown_lineO (s : State) (seconds : Nat) : (s.sendCountdown seconds).lineO = s.lineO := by
  obtain ⟨_, _, h⟩ := s.sendCountdown_frame seconds
  rw [h]
@[simp] theorem State.sendCountdown_tables (s : State) (seconds : Nat) : (s.sendCountdown seconds).tables = s.tables := by
  obtain ⟨_, _, h⟩ := s.sendCountdown_frame seconds
  rw [h]
@[simp] theorem State.sendCountdown_hck (s : State) (seconds : Nat) : (s.sendCountdown seconds).hck = s.hck := by
  obtain ⟨_, _, h⟩ := s.sendCountdown_frame seconds
  rw [h]
@[simp] theorem State.sendCountdown_wnd (s : State) (seconds : Nat) : (s.sendCountdown seconds).wnd = s.wnd := by
  obtain ⟨_, _, h⟩ := s.sendCountdown_frame seconds
  rw [h]
@[simp] theorem State.sendCountdown_stu (s : State) (seconds : Nat) : (s.sendCountdown seconds).stu = s.stu := by
  obtain ⟨_, _, h⟩ := s.sendCountdown_frame seconds
  rw [h]
@[simp] theorem State.sendCountdown_flu (s : State) (seconds : Nat) : (s.sendCountdown seconds).flu = s.flu := by
  obtain ⟨_, _, h⟩ := s.sendCountdown_frame seconds
  rw [h]
@[simp] theorem State.sendCountdown_jtb (s : State) (seconds : Nat) : (s.sendCountdown seconds).jtb = s.jtb := by
  obtain ⟨_, _, h⟩ := s.sendCountdown_frame seconds
  rw [h]
@[simp] theorem State.sendCountdown_startList (s : State) (seconds : Nat) : (s.sendCountdown seconds).startList = s.startList := by
  obtain ⟨_, _, h⟩ := s.sendCountdown_frame seconds
  rw [h]
@[simp] theorem State.sendCountdown_results (s : State) (seconds : Nat) : (s.sendCountdown seconds).results = s.results := by
  obtain ⟨_, _, h⟩ := s.sendCountdown_frame seconds
  rw [h]
@[simp] theorem State.sendCountdown_competition (s : State) (seconds : Nat) : (s.sendCountdown seconds).competition = s.competition := by
  obtain ⟨_, _, h⟩ := s.sendCountdown_frame seconds
  rw [h]
@[simp] theorem State.sendCountdown_conditions (s : State) (seconds : Nat) : (s.sendCountdown seconds).conditions = s.conditions := by
  obtain ⟨_, _, h⟩ := s.sendCountdown_frame seconds
  rw [h]
@[simp] theorem State.sendCountdown_enables (s : State) (seconds : Nat) : (s.sendCountdown seconds).enables = s.enables := by
  obtain ⟨_, _, h⟩ := s.sendCountdown_frame seconds
  rw [h]
@[simp] theorem State.sendCountdown_office (s : State) (seconds : Nat) : (s.sendCountdown seconds).office = s.office := by
  obtain ⟨_, _, h⟩ := s.sendCountdown_frame seconds
  rw [h]
@[simp] theorem State.sendCountdown_snapshot (s : State) (seconds : Nat) : (s.sendCountdown seconds).snapshot = s.snapshot := by
  obtain ⟨_, _, h⟩ := s.sendCountdown_frame seconds
  rw [h]
@[simp] theorem State.sendCountdown_loadBuffer (s : State) (seconds : Nat) : (s.sendCountdown seconds).loadBuffer = s.loadBuffer := by
  obtain ⟨_, _, h⟩ := s.sendCountdown_frame seconds
  rw [h]
@[simp] theorem State.sendCountdown_engine (s : State) (seconds : Nat) : (s.sendCountdown seconds).engine = s.engine := by
  obtain ⟨_, _, h⟩ := s.sendCountdown_frame seconds
  rw [h]
@[simp] theorem State.sendCountdown_store (s : State) (seconds : Nat) : (s.sendCountdown seconds).store = s.store := by
  obtain ⟨_, _, h⟩ := s.sendCountdown_frame seconds
  rw [h]
@[simp] theorem State.now_sendCountdown (s : State) (seconds : Nat) : (s.sendCountdown seconds).now = s.now := by
  simp [State.now]

end Sys2Proof.Machine
end

