-- ==== Sys2Proof/Laws/Jumps.lean ====
section
/-! SUPPORT. The jump table's search, exactly, and the change of one record. -/

namespace Sys2Proof.Machine

/-- A slot read after one is written: that slot's new contents, or the other slot's own. -/
theorem JumpTable.get_set (t : JumpTable) (k j : Fin 4) (r : Option JumpRecord) :
    (t.set k r).get j = if j = k then r else t.get j := by
  split
  · rename_i h
    rw [h, JumpTable.get_set_self]
  · rename_i h
    exact JumpTable.get_set_ne t j k r h

/-- A search finds nothing exactly when no record meets the test. -/
theorem JumpTable.find_none_iff {t : JumpTable} {p : JumpRecord → Bool} :
    t.find p = none ↔ ∀ k r, t.get k = some r → p r = false := by
  refine ⟨fun h k r hr => JumpTable.find_none h k r hr, fun h => List.find?_eq_none.2 ?_⟩
  rintro ⟨k, r⟩ hr
  simp [h k r ((t.mem_records _ _).1 hr)]

/-- A search finds the one record that meets the test. -/
theorem JumpTable.find_unique {t : JumpTable} {p : JumpRecord → Bool} {k : Fin 4} {r : JumpRecord}
    (only : ∀ j a, t.get j = some a → p a = true → j = k) (h : t.get k = some r) (hp : p r = true) : t.find p = some (k, r) := by
  cases hf : t.find p with
  | none =>
    rw [JumpTable.find_none hf k r h] at hp
    cases hp
  | some x =>
    obtain ⟨j, a⟩ := x
    obtain ⟨h1, h2⟩ := JumpTable.find_some hf
    have := only j a h1 h2
    subst this
    rw [h] at h1
    cases h1
    rfl

/-- No record is in one of some states exactly when none is found there. -/
theorem JumpTable.inState_none_iff {t : JumpTable} {p : RecState → Bool} :
    t.inState p = none ↔ ∀ k r, t.get k = some r → p r.state = false := JumpTable.find_none_iff

/-- The one record in some states is found. -/
theorem JumpTable.inState_unique {t : JumpTable} {p : RecState → Bool} {k : Fin 4} {r : JumpRecord}
    (only : ∀ j a, t.get j = some a → p a.state = true → j = k) (h : t.get k = some r) (hp : p r.state = true) :
    t.inState p = some (k, r) := JumpTable.find_unique only h hp

/-- A record that a slot holds, changed. -/
theorem State.updateRecord_of_get (s : State) (k : Fin 4) (f : JumpRecord → JumpRecord) {r : JumpRecord}
    (h : s.jtb.get k = some r) : s.updateRecord k f = { s with jtb := s.jtb.set k (some (f r)) } := by
  unfold State.updateRecord
  rw [h]
  rfl

/-- A free slot stays free. -/
theorem State.updateRecord_of_free (s : State) (k : Fin 4) (f : JumpRecord → JumpRecord) (h : s.jtb.get k = none) :
    s.updateRecord k f = s := by
  have same := JumpTable.set_get_self s.jtb k
  rw [h] at same
  unfold State.updateRecord
  rw [h, Option.map_none, same]

end Sys2Proof.Machine
end

