-- ==== Sys2Proof/Laws/Shared.lean ====
section
/-! SUPPORT. What the shared operations can do, exactly: the conditions an indication touches, the reports the office queue gains,
what waits after the pump, the fields of a state entry, and the fields a slot's end leaves alone. -/

namespace Sys2Proof.Machine

/-- Two states equal in every field are equal. -/
theorem State.ext_fields {a b : State} (pending : a.pending = b.pending) (held : a.heldInReset = b.heldInReset)
    (ready : a.ready = b.ready) (last : a.lastReset = b.lastReset) (taken : a.takenReset = b.takenReset)
    (lineT : a.lineT = b.lineT) (lineS : a.lineS = b.lineS) (lineO : a.lineO = b.lineO) (lsc : a.lsc = b.lsc)
    (tables : a.tables = b.tables) (hck : a.hck = b.hck) (wnd : a.wnd = b.wnd) (stu : a.stu = b.stu) (flu : a.flu = b.flu)
    (jtb : a.jtb = b.jtb) (list : a.startList = b.startList) (results : a.results = b.results)
    (competition : a.competition = b.competition) (dsp : a.dsp = b.dsp) (conditions : a.conditions = b.conditions)
    (enables : a.enables = b.enables) (office : a.office = b.office) (snapshot : a.snapshot = b.snapshot)
    (load : a.loadBuffer = b.loadBuffer) (engine : a.engine = b.engine) (store : a.store = b.store) : a = b := by
  cases a
  cases b
  simp_all

/-! ### What reporting touches -/

/-- The offer of a report touches the office queue and REPORT_LOST. -/
theorem State.offerReport_touches (s : State) (r : Report) :
    ∃ lost o, s.offerReport r = { s with conditions := { s.conditions with reportLost := lost }, office := o } := by
  unfold State.offerReport State.loseReport
  split
  · exact ⟨_, _, rfl⟩
  · split <;> exact ⟨_, _, rfl⟩

theorem State.reportJump_touches (s : State) (r : Report) :
    ∃ lost o, s.reportJump r = { s with conditions := { s.conditions with reportLost := lost }, office := o } := by
  unfold State.reportJump
  split
  · exact s.offerReport_touches r
  · exact ⟨_, _, rfl⟩

theorem State.reportResult_touches (s : State) (r : Report) :
    ∃ lost o, s.reportResult r = { s with conditions := { s.conditions with reportLost := lost }, office := o } := by
  unfold State.reportResult
  split
  · exact s.offerReport_touches r
  · exact ⟨_, _, rfl⟩

theorem State.reportStation_touches (s : State) (addr : Nat) (old new : Presence) :
    ∃ lost o, s.reportStation addr old new = { s with conditions := { s.conditions with reportLost := lost }, office := o } := by
  unfold State.reportStation
  split
  · exact s.offerReport_touches _
  · exact ⟨_, _, rfl⟩

theorem State.reportRecord_touches (s : State) (k : Fin 4) (reason : JumpReason) :
    ∃ lost o, s.reportRecord k reason = { s with conditions := { s.conditions with reportLost := lost }, office := o } := by
  unfold State.reportRecord
  split
  · exact ⟨_, _, rfl⟩
  · exact s.reportJump_touches _

theorem State.offerCondition_touches (s : State) (c : CondName) :
    ∃ lost o, s.offerCondition c = { s with conditions := { s.conditions with reportLost := lost }, office := o } := by
  unfold State.offerCondition
  split
  · exact s.offerReport_touches _
  · exact ⟨_, _, rfl⟩

/-- An indication touches its own condition, REPORT_LOST and the office queue. -/
theorem State.raise_touches (s : State) (c : CondName) (n : Nat) :
    ∃ y lost o, s.raise c n = { s with conditions := { s.conditions.set c y with reportLost := lost }, office := o } := by
  unfold State.raise
  split
  · refine ⟨s.conditions.get c, s.conditions.reportLost, s.office, ?_⟩
    have same : s.conditions.set c (s.conditions.get c) = s.conditions := by cases c <;> rfl
    rw [same]
  · obtain ⟨lost, o, h⟩ := State.offerCondition_touches (s.setCondition c { s.conditions.get c with i := true, argument := n }) c
    exact ⟨_, lost, o, h⟩

/-- A state condition's new value touches that condition, REPORT_LOST and the office queue. -/
theorem State.setV_touches (s : State) (c : CondName) (v : Bool) :
    ∃ y lost o, s.setV c v = { s with conditions := { s.conditions.set c y with reportLost := lost }, office := o } := by
  unfold State.setV
  have twice : ∀ y z, (s.conditions.set c y).set c z = s.conditions.set c z := by
    intro y z
    cases c <;> rfl
  dsimp only
  split
  · obtain ⟨y, lost, o, h⟩ := State.raise_touches (s.setCondition c { s.conditions.get c with v := v }) c 0
    refine ⟨y, lost, o, ?_⟩
    rw [h]
    simp only [State.setCondition, twice]
  · exact ⟨{ s.conditions.get c with v := v }, (s.conditions.set c { s.conditions.get c with v := v }).reportLost, s.office, rfl⟩

theorem State.updateHeld_touches (s : State) :
    ∃ y lost o, s.updateHeld =
      { s with conditions := { s.conditions with jumpHeld := y, reportLost := lost }, office := o } := s.setV_touches .jumpHeld _

/-! ### Indications and values -/

/-- An indication that is raised reads 1, with its own argument when it stood at 0. -/
theorem State.raise_indicates (s : State) (c : CondName) (n : Nat) (other : c ≠ .reportLost) :
    ((s.raise c n).conditions.get c).i = true ∧
      ((s.conditions.get c).i = false → ((s.raise c n).conditions.get c).argument = n) := by
  unfold State.raise
  split
  · rename_i h
    exact ⟨h, fun h' => by rw [h] at h'; cases h'⟩
  · obtain ⟨lost, o, h⟩ := State.offerCondition_touches (s.setCondition c { s.conditions.get c with i := true, argument := n }) c
    rw [h]
    cases c <;> first | exact ⟨rfl, fun _ => rfl⟩ | exact absurd rfl other

/-- An indication already 1 changes nothing. -/
theorem State.raise_again (s : State) (c : CondName) (n : Nat) (h : (s.conditions.get c).i = true) : s.raise c n = s := by
  unfold State.raise
  rw [if_pos h]

/-- An indication leaves every other condition but REPORT_LOST as it stands. -/
theorem State.raise_others (s : State) (c d : CondName) (n : Nat) (apart : d ≠ c) (other : d ≠ .reportLost) :
    (s.raise c n).conditions.get d = s.conditions.get d := by
  obtain ⟨y, lost, o, h⟩ := s.raise_touches c n
  rw [h]
  cases c <;> cases d <;> first | rfl | exact absurd rfl apart | exact absurd rfl other

/-- An indication leaves every value as it stands. -/
theorem State.raise_values (s : State) (c d : CondName) (n : Nat) (other : d ≠ .reportLost) :
    ((s.raise c n).conditions.get d).v = (s.conditions.get d).v := by
  unfold State.raise
  split
  · rfl
  · obtain ⟨lost, o, h⟩ := State.offerCondition_touches (s.setCondition c { s.conditions.get c with i := true, argument := n }) c
    rw [h]
    cases d <;> cases c <;> first | rfl | exact absurd rfl other

/-- A state condition takes the value it is given. -/
theorem State.setV_value (s : State) (c : CondName) (v : Bool) (other : c ≠ .reportLost) :
    ((s.setV c v).conditions.get c).v = v := by
  unfold State.setV
  dsimp only
  split
  · rw [State.raise_values _ _ _ _ other]
    cases c <;> rfl
  · cases c <;> rfl

/-- JUMP_HELD's value says that a record is HELD. -/
theorem State.updateHeld_value (s : State) :
    s.updateHeld.conditions.jumpHeld.v = (s.jtb.inState fun x => decide (x = .held)).isSome :=
  s.setV_value .jumpHeld _ (by decide)

/-! ### The office queue -/

/-- The office queue of `v` is that of `u` with at most `n` reports at the end. -/
def Gains (n : Nat) (u v : State) : Prop :=
  v.office.replies = u.office.replies ∧ v.office.mirrors = u.office.mirrors ∧ v.office.sending = u.office.sending ∧
    v.office.place = u.office.place ∧ ∃ l, v.office.reports = u.office.reports ++ l ∧ l.length ≤ n

theorem Gains.refl (u : State) (n : Nat) : Gains n u u := ⟨rfl, rfl, rfl, rfl, [], by simp⟩

theorem Gains.of_eq {u v : State} (h : v.office = u.office) (n : Nat) : Gains n u v := by
  unfold Gains
  rw [h]
  exact Gains.refl u n

theorem Gains.trans {m n : Nat} {u v w : State} (h1 : Gains m u v) (h2 : Gains n v w) : Gains (m + n) u w := by
  obtain ⟨a, b, c, d, l, e, f⟩ := h1
  obtain ⟨a', b', c', d', l', e', f'⟩ := h2
  exact ⟨by rw [a', a], by rw [b', b], by rw [c', c], by rw [d', d], l ++ l', by rw [e', e, List.append_assoc], by simp; omega⟩

theorem Gains.count {n : Nat} {u v : State} (h : Gains n u v) : v.office.count ≤ u.office.count + n := by
  obtain ⟨a, b, c, d, l, e, f⟩ := h
  simp only [OfficeQueue.count, a, b, c, d, e, List.length_append]
  omega

theorem Gains.keeps_report {n : Nat} {u v : State} (h : Gains n u v) {r : Report} (hr : r ∈ u.office.reports) :
    r ∈ v.office.reports := by
  obtain ⟨a, b, c, d, l, e, f⟩ := h
  rw [e]
  simp [hr]

theorem State.offerReport_gains (s : State) (r : Report) : Gains 1 s (s.offerReport r) := by
  unfold State.offerReport State.loseReport
  split
  · exact ⟨rfl, rfl, rfl, rfl, [r], rfl, by simp⟩
  · split <;> exact Gains.of_eq rfl 1

/-- A report offered below the report limit waits. -/
theorem State.offerReport_waits (s : State) (r : Report) (room : s.office.count < 60) : r ∈ (s.offerReport r).office.reports := by
  unfold State.offerReport
  rw [if_pos (show s.office.count < Config.reportLimit from room)]
  simp

theorem State.reportJump_gains (s : State) (r : Report) : Gains 1 s (s.reportJump r) := by
  unfold State.reportJump
  split
  · exact s.offerReport_gains r
  · exact Gains.refl s 1

theorem State.reportResult_gains (s : State) (r : Report) : Gains 1 s (s.reportResult r) := by
  unfold State.reportResult
  split
  · exact s.offerReport_gains r
  · exact Gains.refl s 1

theorem State.reportRecord_gains (s : State) (k : Fin 4) (reason : JumpReason) : Gains 1 s (s.reportRecord k reason) := by
  unfold State.reportRecord
  split
  · exact Gains.refl s 1
  · exact s.reportJump_gains _

/-- A record's JUMP report, enabled and offered below the report limit, waits. -/
theorem State.reportRecord_waits (s : State) (k : Fin 4) (reason : JumpReason) {r : JumpRecord} (h : s.jtb.get k = some r)
    (room : s.office.count < 60) (enabled : s.enables.jump = true) :
    .jump r.bib (some k) (some r.state) reason r.needs r.flags ∈ (s.reportRecord k reason).office.reports := by
  unfold State.reportRecord State.reportJump
  rw [h]
  simp only [enabled, if_true]
  exact s.offerReport_waits _ room

theorem State.offerCondition_gains (s : State) (c : CondName) : Gains 1 s (s.offerCondition c) := by
  unfold State.offerCondition
  split
  · exact s.offerReport_gains _
  · exact Gains.refl s 1

theorem State.raise_gains (s : State) (c : CondName) (n : Nat) : Gains 1 s (s.raise c n) := by
  unfold State.raise
  split
  · exact Gains.refl s 1
  · exact State.offerCondition_gains (s.setCondition c { s.conditions.get c with i := true, argument := n }) c

theorem State.setV_gains (s : State) (c : CondName) (v : Bool) : Gains 1 s (s.setV c v) := by
  unfold State.setV
  dsimp only
  split
  · exact State.raise_gains (s.setCondition c { s.conditions.get c with v := v }) c 0
  · exact Gains.of_eq rfl 1

theorem State.updateHeld_gains (s : State) : Gains 1 s s.updateHeld := s.setV_gains ..

/-- A reply that waits before the pump waits after it, or is being sent. -/
theorem State.pumpOffice_reply (s : State) (r : Reply) (h : r ∈ s.office.replies) :
    r ∈ s.pumpOffice.office.replies ∨ s.pumpOffice.office.sending = some (.reply r) := by
  unfold State.pumpOffice
  split
  · exact .inl h
  · split
    · rename_i first rest hr
      rw [hr] at h
      rcases List.mem_cons.1 h with h | h
      · subst h
        exact .inr rfl
      · exact .inl h
    · rename_i hr
      rw [hr] at h
      cases h

/-- A report that waits before the pump waits after it, or is being sent. -/
theorem State.pumpOffice_report (s : State) (r : Report) (h : r ∈ s.office.reports) :
    r ∈ s.pumpOffice.office.reports ∨ s.pumpOffice.office.sending = some (.report r) := by
  unfold State.pumpOffice
  split
  · exact .inl h
  · split
    · exact .inl h
    · split
      · rename_i first rest hr
        rw [hr] at h
        rcases List.mem_cons.1 h with h | h
        · subst h
          exact .inr rfl
        · exact .inl h
      · rename_i hr
        rw [hr] at h
        cases h

/-! ### A state entry -/

/-- A record enters a state: the record, the lamp in STU and in LSC's lamp command slot, the office queue, JUMP_HELD and
REPORT_LOST, and nothing else. -/
theorem State.enterState_spec (s : State) (k : Fin 4) (x : RecState) {r : JumpRecord} (h : s.jtb.get k = some r) :
    ∃ lamp held lost o, lamp = derivedLamp s.competition (s.jtb.set k (some (r.inState x))) s.stu.flashing ∧
      s.enterState k x =
        { s with
          jtb := s.jtb.set k (some (r.inState x))
          stu := { s.stu with lamp := lamp }
          lsc := { s.lsc with lampSlot := lamp }
          conditions := { s.conditions with jumpHeld := held, reportLost := lost }
          office := o } ∧
      held.v = ((s.jtb.set k (some (r.inState x))).inState fun y => decide (y = .held)).isSome ∧
      Gains 2 s (s.enterState k x) := by
  have entered : (s.updateRecord k (·.inState x)).deriveLamp =
      { s with
        jtb := s.jtb.set k (some (r.inState x))
        stu := { s.stu with lamp := derivedLamp s.competition (s.jtb.set k (some (r.inState x))) s.stu.flashing }
        lsc := { s.lsc with lampSlot := derivedLamp s.competition (s.jtb.set k (some (r.inState x))) s.stu.flashing } } := by
    rw [State.updateRecord_of_get _ _ _ h]
    rfl
  have value := State.updateHeld_value (((s.updateRecord k (·.inState x)).deriveLamp).reportRecord k .advance)
  have gains : Gains 2 s (s.enterState k x) :=
    ((Gains.of_eq (by rw [entered]) 0 : Gains 0 s (s.updateRecord k (·.inState x)).deriveLamp).trans
      (State.reportRecord_gains _ k .advance)).trans (State.updateHeld_gains _)
  obtain ⟨lost, o, h1⟩ := State.reportRecord_touches (s.updateRecord k (·.inState x)).deriveLamp k .advance
  obtain ⟨held, lost', o', h2⟩ := State.updateHeld_touches (((s.updateRecord k (·.inState x)).deriveLamp).reportRecord k .advance)
  refine ⟨_, held, lost', o', rfl, ?_, ?_, gains⟩
  · unfold State.enterState
    rw [h2, h1, entered]
  · rw [h2, h1, entered] at value
    exact value

/-! ### What a slot's end, a presence change and a freed record leave alone -/

/-- `v` has the fields of `u` that no slot end, presence change, state entry or freed record touches. -/
def Spares (u v : State) : Prop :=
  v.pending = u.pending ∧ v.heldInReset = u.heldInReset ∧ v.ready = u.ready ∧ v.lastReset = u.lastReset ∧
    v.takenReset = u.takenReset ∧ v.lineT = u.lineT ∧ v.lineS = u.lineS ∧ v.lineO = u.lineO ∧ v.tables = u.tables ∧
    v.hck = u.hck ∧ v.wnd = u.wnd ∧ v.results = u.results ∧ v.competition = u.competition ∧ v.enables = u.enables ∧
    v.snapshot = u.snapshot ∧ v.loadBuffer = u.loadBuffer ∧ v.engine = u.engine ∧ v.store = u.store

theorem Spares.refl (u : State) : Spares u u := by simp [Spares]

theorem Spares.trans {u v w : State} (h1 : Spares u v) (h2 : Spares v w) : Spares u w := by
  unfold Spares at *
  simp_all

theorem State.raise_spares (u : State) (c : CondName) (n : Nat) : Spares u (u.raise c n) := by
  obtain ⟨y, lost, o, h⟩ := u.raise_touches c n
  rw [h]
  simp [Spares]

theorem State.setV_spares (u : State) (c : CondName) (v : Bool) : Spares u (u.setV c v) := by
  obtain ⟨y, lost, o, h⟩ := u.setV_touches c v
  rw [h]
  simp [Spares]

theorem State.reportJump_spares (u : State) (r : Report) : Spares u (u.reportJump r) := by
  obtain ⟨lost, o, h⟩ := u.reportJump_touches r
  rw [h]
  simp [Spares]

theorem State.reportStation_spares (u : State) (addr : Nat) (old new : Presence) : Spares u (u.reportStation addr old new) := by
  obtain ⟨lost, o, h⟩ := u.reportStation_touches addr old new
  rw [h]
  simp [Spares]

theorem State.sendPage_spares (u : State) (kind : PageKind) : Spares u (u.sendPage kind) := by
  simp [Spares, State.sendPage, State.setSeg]

theorem State.sendCountdown_spares (u : State) (seconds : Nat) : Spares u (u.sendCountdown seconds) := by
  simp [Spares, State.sendCountdown, State.sendPage, State.setSeg]

theorem State.emptyCurrent_spares (u : State) (bib : Nat) : Spares u (u.emptyCurrent bib) := by
  unfold State.emptyCurrent
  split
  · simp [Spares, State.sendPage, State.setSeg]
  · exact Spares.refl u

theorem State.freeRecord_spares (u : State) (k : Fin 4) (reason : JumpReason) (returns : Bool) :
    Spares u (u.freeRecord k reason returns) := by
  unfold State.freeRecord
  split
  · exact Spares.refl u
  · dsimp only
    refine Spares.trans (Spares.trans ?_ (State.reportJump_spares _ _)) (State.setV_spares _ _ _)
    simp [Spares, State.deriveLamp, State.disarmFor]

theorem State.withdraw_spares (u : State) (k : Fin 4) (reason : JumpReason) : Spares u (u.withdraw k reason) := by
  unfold State.withdraw
  split
  · exact Spares.refl u
  · dsimp only
    split
    · exact ((State.freeRecord_spares _ _ _ _).trans (State.emptyCurrent_spares _ _)).trans (State.sendCountdown_spares _ _)
    · exact (State.freeRecord_spares _ _ _ _).trans (State.emptyCurrent_spares _ _)

theorem State.loseLight_spares (u : State) : Spares u u.loseLight := by
  unfold State.loseLight
  split
  · exact Spares.refl u
  · exact State.withdraw_spares _ _ _

theorem State.endEcho_spares (u : State) : Spares u u.endEcho :=
  (show Spares u { u with stu := { u.stu with echoRun := 0 } } by simp [Spares]).trans (State.setV_spares _ _ _)

/-- R120: the echo run after a LAMPSTAT. -/
theorem State.takeEcho_run (u : State) (sent : Option Lamp) (shown : Lamp) :
    (u.takeEcho sent shown).stu.echoRun =
      if u.lightAway = true ∨ sent = some shown then 0 else min 2 (u.stu.echoRun + 1) := by
  unfold State.takeEcho
  split
  · simp [State.endEcho]
  · dsimp only
    split <;> simp [*]

theorem State.takeEcho_spares (u : State) (sent : Option Lamp) (shown : Lamp) : Spares u (u.takeEcho sent shown) := by
  unfold State.takeEcho
  split
  · exact State.endEcho_spares u
  · dsimp only
    split
    · exact (show Spares u { u with stu := { u.stu with echoRun := _ } } by simp [Spares]).trans (State.setV_spares _ _ _)
    · simp [Spares]

theorem State.lightChanged_spares (u : State) (old new : Presence) : Spares u (u.lightChanged old new) := by
  unfold State.lightChanged
  dsimp only
  split <;> split
  · exact (State.loseLight_spares u).trans (State.endEcho_spares _)
  · exact State.endEcho_spares u
  · exact State.loseLight_spares u
  · exact Spares.refl u

theorem State.gateChanged_spares (u : State) (new : Presence) : Spares u (u.gateChanged new) := by
  unfold State.gateChanged
  refine Spares.trans ?_ (State.setV_spares _ _ _)
  split <;> simp [Spares]

theorem State.announcePresence_spares (u : State) (addr : Nat) (old new : Presence) :
    Spares u (u.announcePresence addr old new) := (State.reportStation_spares _ _ _ _).trans (State.raise_spares _ _ _)

theorem State.presenceChanged_spares (u : State) (addr : Nat) (kind : StationKind) (old new : Presence) :
    Spares u (u.presenceChanged addr kind old new) := by
  unfold State.presenceChanged
  dsimp only
  split
  · exact (State.announcePresence_spares _ _ _ _).trans (State.lightChanged_spares _ _ _)
  · exact (State.announcePresence_spares _ _ _ _).trans (State.gateChanged_spares _ _)
  · exact State.announcePresence_spares _ _ _ _

theorem State.applyOutcome_spares (u : State) (e : StationEntry) (good : Bool) : Spares u (u.applyOutcome e good) := by
  unfold State.applyOutcome
  split
  · exact Spares.refl u
  · rename_i l _
    dsimp only
    have moved : Spares u (u.setLink (l.afterSlot e.missLimit good)) := by simp [Spares, State.setLink]
    split
    · exact moved
    · exact moved.trans (State.presenceChanged_spares _ _ _ _ _)

/-- A slot's end leaves the tables, the winds, the results, the competition, the lines and the requests' own state alone. -/
theorem State.endSlot_spares (u : State) (p : Seg) (good : Bool) : Spares u (u.endSlot p good) := by
  unfold State.endSlot
  split
  · exact Spares.refl u
  · have moved : ∀ g, Spares u (u.setSeg p g) := by
      intro g
      cases p <;> simp [Spares, State.setSeg]
    dsimp only
    split
    · exact moved _
    · exact (moved _).trans (State.applyOutcome_spares _ _ _)

end Sys2Proof.Machine
end

