-- ==== Sys2Proof/Laws/Lines.lean ====
section
/-! SUPPORT. What the operations of the lines can do: the frame a line unit starts, closes or aborts, the bytes it drops, the slot a
frame ends, and the entries that fit into a reply. -/

namespace Sys2Proof.Machine

/-! ### The transmit side of a line unit -/

@[simp] theorem LineUnit.start_counters (u : LineUnit) (now : Time) (f : Frame) : (u.start now f).counters = u.counters := rfl
@[simp] theorem LineUnit.start_txSeq (u : LineUnit) (now : Time) (f : Frame) : (u.start now f).txSeq = u.txSeq := rfl
@[simp] theorem LineUnit.start_shifter (u : LineUnit) (now : Time) (f : Frame) : (u.start now f).shifter = some f := rfl
@[simp] theorem LineUnit.start_dropping (u : LineUnit) (now : Time) (f : Frame) : (u.start now f).dropping = u.dropping := rfl
@[simp] theorem LineUnit.close_counters (u : LineUnit) (now : Time) : (u.close now).counters = u.counters := rfl
@[simp] theorem LineUnit.close_txSeq (u : LineUnit) (now : Time) : (u.close now).txSeq = u.txSeq := rfl
@[simp] theorem LineUnit.close_shifter (u : LineUnit) (now : Time) : (u.close now).shifter = none := rfl
@[simp] theorem LineUnit.close_ahead (u : LineUnit) (now : Time) : (u.close now).ahead = .delimiter now := rfl
@[simp] theorem LineUnit.close_dropping (u : LineUnit) (now : Time) : (u.close now).dropping = u.dropping := rfl

/-- A frame started where another closes shares its delimiter. -/
theorem LineUnit.start_close (u : LineUnit) (now : Time) (f : Frame) : ((u.close now).start now f).ahead = .delimiter now :=
  if_pos rfl

/-- The bytes of a started frame: without its opening delimiter when that of the frame before stands right ahead of it. -/
theorem LineUnit.start_bytes (u : LineUnit) (now : Time) (f : Frame) :
    (u.start now f).bytes = if u.ahead = .delimiter now then f.behindDelimiter else f.line := by
  by_cases h : u.ahead = .delimiter now <;> simp [LineUnit.bytes, LineUnit.start, h]

/-- An abort ends a frame being sent, and changes nothing else; a unit that sends nothing stays as it is. -/
theorem LineUnit.abortSending_spec (u : LineUnit) (now : Time) :
    u.abortSending now = if u.shifter = none then u else { u with shifter := none, ahead := .abort now } := by
  unfold LineUnit.abortSending
  split <;> simp_all

/-- A frame that was sent some time ago leaves the shifter, and nothing of it stands ahead of the next. -/
theorem LineUnit.settle_spec (u : LineUnit) :
    u.settle = if u.shifter = none then u else { u with shifter := none, ahead := .idle } := by
  unfold LineUnit.settle
  split <;> simp_all

/-- A line unit that sends nothing does nothing at a RESTART but let go of a frame sent before; with an empty shifter it is as it
was. -/
theorem State.not_sending_of_empty (s : State) (p : Seg) (h : (s.line (portOfSeg p)).shifter = none) : s.sending p = false := by
  unfold State.sending
  rw [h]

/-! ### What arrives -/

/-- A dropping assembler takes the arrival and stops dropping; any other hands it on. -/
theorem State.dropOr_spec (s : State) (port : Port) (body : State → State) :
    ((s.line port).dropping = true → s.dropOr port body = s.setLine port { s.line port with dropping := false }) ∧
      ((s.line port).dropping = false → s.dropOr port body = body s) := by
  unfold State.dropOr
  constructor <;> intro h <;> simp [h]

/-- A frame ends the open slot it began in, and leaves alone one that it did not. -/
theorem State.endBegun_spec (s : State) (p : Seg) (good : Bool) :
    ((s.seg p).slot = none → s.endBegun p good = s) ∧
      ∀ slot, (s.seg p).slot = some slot → s.endBegun p good = if slot.frameBegun then s.endSlot p good else s := by
  unfold State.endBegun
  constructor
  · intro h; rw [h]
  · intro slot h; rw [h]

/-- A frame's arrival spares what a slot's end spares. -/
theorem State.endBegun_spares (s : State) (p : Seg) (good : Bool) : Spares s (s.endBegun p good) := by
  unfold State.endBegun
  split
  · exact .refl _
  · split
    · exact s.endSlot_spares p good
    · exact .refl _

/-! ### Lists cut to a room -/

/-- What fits is the longest start of a list whose sizes sum up to the room at most. -/
theorem takeFitting_spec {α : Type} (size : α → Nat) (room : Nat) (l : List α) :
    takeFitting size room l <+: l ∧ ((takeFitting size room l).map size).sum ≤ room ∧
      ∀ longer, longer <+: l → (takeFitting size room l).length < longer.length → room < (longer.map size).sum := by
  induction l generalizing room with
  | nil =>
    refine ⟨List.prefix_refl _, by simp [takeFitting], fun longer h hl => ?_⟩
    rw [List.prefix_nil.mp h] at hl
    simp at hl
  | cons a rest ih =>
    unfold takeFitting
    split
    · next fits =>
      obtain ⟨h1, h2, h3⟩ := ih (room - size a)
      refine ⟨List.cons_prefix_cons.mpr ⟨rfl, h1⟩, by simp; omega, fun longer h hl => ?_⟩
      match longer, h with
      | [], _ => simp at hl
      | b :: more, h =>
        obtain ⟨rfl, tail⟩ := List.cons_prefix_cons.mp h
        have := h3 more tail (by simpa using hl)
        simp; omega
    · next full =>
      refine ⟨List.nil_prefix, by simp, fun longer h hl => ?_⟩
      match longer, h with
      | [], _ => simp at hl
      | b :: more, h =>
        obtain ⟨rfl, -⟩ := List.cons_prefix_cons.mp h
        simp; omega

end Sys2Proof.Machine
end

