-- ==== Sys2Proof/Laws/Requests.lean ====
section
/-! SUPPORT. What an event and a request can do, once: an event taken outside reset, and a request that is taken, refused or
answered. -/

namespace Sys2Proof.Machine

/-- An event outside reset takes its body at its hill time, and then OLU may start a frame. -/
theorem event_outside_reset (t : Time) (body : State → State) (s : State) (h : s.heldInReset = false) :
    event t body s = .next (body (s.setNow t)).pumpOffice := by
  simp [event, h]

/-- An event held in reset changes nothing. -/
theorem event_held (t : Time) (body : State → State) (s : State) (h : s.heldInReset = true) :
    event t body s = .next s := by
  simp [event, h]

/-- An event always answers a next state. -/
theorem event_goes_on (t : Time) (body : State → State) (s : State) : ∃ u, event t body s = .next u := by
  unfold event
  split <;> exact ⟨_, rfl⟩

/-- A request always answers a next state. -/
theorem request_goes_on (t : Time) (seq code : Byte) (body : State → Answer) (s : State) :
    ∃ u, request t seq code body s = .next u := event_goes_on ..

/-- The state a request's own rule is judged in: its hill time, and the place taken for its reply. -/
def State.asked (t : Time) (s : State) : State := { s.setNow t with office := { s.office with place := true } }

/-- A request taken as an event with its own view of READY. -/
theorem event_takeRequest (t : Time) (seq code : Byte) (early : Bool) (body : State → Answer) (s : State)
    (held : s.heldInReset = false) (free : s.takenReset = none) (room : s.office.count < 64)
    (listens : s.ready = true ∨ early = true) :
    event t (State.takeRequest seq code early body) s =
      .next (State.pumpOffice (State.fillPlace seq code (body (s.asked t)))) := by
  have h : (s.ready || early) = true := by rcases listens with h | h <;> simp [h]
  have hr : ¬64 ≤ s.office.count := by omega
  rw [event_outside_reset _ _ _ held]
  simp [State.takeRequest, free, Config.replyLimit, h, hr, State.asked]

/-- A request that its own rule judges. -/
theorem request_judged (t : Time) (seq code : Byte) (body : State → Answer) (s : State) (held : s.heldInReset = false)
    (free : s.takenReset = none) (room : s.office.count < 64) (ready : s.ready = true) :
    request t seq code body s = .next (State.pumpOffice (State.fillPlace seq code (body (s.asked t)))) :=
  event_takeRequest _ _ _ _ _ _ held free room (.inl ready)

end Sys2Proof.Machine
end

