-- ==== Sys2Proof/Safety.lean ====
section
/-! DEFINITION. What counts as a safe step: one that goes on. -/

namespace Sys2Proof.Machine

/-- A step that answers a next state: no fault and no refusal. -/
def goesOn (o : Out) : Bool :=
  match o with
  | .next _ => true
  | .fault _ => false
  | .refused _ => false

end Sys2Proof.Machine
end

