-- ==== Sys2Proof/WellFormed.lean ====
section
/-! DEFINITION. Which commands can reach the part at all: the bounds that the frame envelope sets on an operand whose type
does not set them. An argument that is present but out of its range is no matter of form (R188); it is a reply's status. -/

namespace Sys2Proof

/-- A payload of a frame holds 0..120 bytes (Table 2-1). -/
def payloadFits (payload : List Byte) : Bool := decide (payload.length ≤ 120)

/-- The bytes between two delimiters hold no delimiter themselves (R3). -/
def lineFits (line : List Byte) : Bool := line.all fun b => decide (b ≠ 0x7A#8)

/-- The form of a command. -/
def Instr.wellFormed : Instr → Bool
  | .loadData _ _ _ data => decide (1 ≤ data.length ∧ data.length ≤ 117)
  | .unknownRequest _ _ _ args => decide (args.length ≤ 119)
  | .officePass _ _ _ payload => payloadFits payload
  | .frameDiscarded _ _ line => lineFits line
  | .windFrame _ _ _ _ payload => payloadFits payload
  | .gateFrame _ _ _ _ payload => payloadFits payload
  | .edgeFrame _ _ _ _ payload => payloadFits payload
  | .coachFrame _ _ _ _ payload => payloadFits payload
  | .styleFrame _ _ _ _ payload => payloadFits payload
  | .distFrame _ _ _ _ payload => payloadFits payload
  | .lampstatFrame _ _ _ _ payload => payloadFits payload
  | .stationPassFrame _ _ _ _ payload => payloadFits payload
  | .noneFrame _ _ _ _ payload => payloadFits payload
  | .stationFrameNotAdmitted _ _ _ _ _ payload => payloadFits payload
  | .identify .. => true
  | .reset .. => true
  | .resetEffect .. => true
  | .powerOnReset => true
  | .ready .. => true
  | .restart .. => true
  | .restartSilenceEnd .. => true
  | .store .. => true
  | .storeCompletion .. => true
  | .loadBegin .. => true
  | .loadEnd .. => true
  | .readTable .. => true
  | .readCounters .. => true
  | .readStation .. => true
  | .readConditions .. => true
  | .setReportEnables .. => true
  | .snapshot .. => true
  | .snapshotPart .. => true
  | .roundOpen .. => true
  | .roundClose .. => true
  | .resultsClear .. => true
  | .listInsert .. => true
  | .listRemove .. => true
  | .listMove .. => true
  | .listRead .. => true
  | .resultsRead .. => true
  | .clear .. => true
  | .hold .. => true
  | .windGate .. => true
  | .setReferenceGate .. => true
  | .enterDistance .. => true
  | .enterMark .. => true
  | .annul .. => true
  | .disqualify .. => true
  | .reinstate .. => true
  | .readJump .. => true
  | .abortReceived .. => true
  | .cycleStart .. => true
  | .slotOpen .. => true
  | .replyWindowOpen .. => true
  | .replyWindowClose .. => true
  | .slotBudgetEnd .. => true
  | .windWaitExpiry .. => true
  | .greenFlashExpiry .. => true
  | .greenExpiry .. => true
  | .countdownSecondExpiry .. => true
  | .inRunExpiry .. => true
  | .flightExpiry .. => true
  | .landingSettle .. => true
  | .windClose .. => true
  | .confirmExpiry .. => true
  | .marksWindowExpiry .. => true
  | .officeFrameSent .. => true
  | .resetPinDrivenLow .. => true
  | .frameBegun .. => true

end Sys2Proof
end

