-- ==== Sys2Proof/Tests/Slice0.lean ====
section
/-! SUPPORT. Tests on small states, with expected values from the manual's tables and worked sequences, and for every statement
with hypotheses a state and operands that meet them. -/

namespace Sys2Proof.Tests

open Sys2Proof.Machine Sys2Proof.Claims

/-! ### A small hill -/

/-- The state a step leaves; the state itself when there is none. -/
def ran (i : Instr) (s : State) : State :=
  match exec i s with
  | .next t => t
  | _ => s

/-- The status of the reply a request gives when the office queue is empty and OLU is free. -/
def statusOf (i : Instr) (s : State) : Option Status :=
  match (ran i s).office.sending with
  | some (.reply r) => some r.status
  | _ => none

def stations : List StationEntry :=
  [⟨0x10, .wind ⟨0, 175, 100, 10, true⟩, .T, false, 3⟩, ⟨0x20, .gate, .T, true, 3⟩, ⟨0x21, .light, .T, false, 3⟩,
    ⟨0x22, .coach, .T, false, 3⟩, ⟨0x23, .cellA, .T, false, 3⟩, ⟨0x24, .cellB, .T, false, 3⟩,
    ⟨0x25, .takeoff, .T, false, 3⟩, ⟨0x48, .landing 8 64, .S, false, 3⟩, ⟨0x50, .judge 1, .S, false, 3⟩,
    ⟨0x58, .dist, .S, false, 3⟩, ⟨0x60, .board ⟨true, true, true⟩, .S, false, 2⟩]

def competitors : List Competitor := [⟨12, [0x41, 0x42], [0x41, 0x41, 0x41]⟩, ⟨31, [0x43], [0x42, 0x42, 0x42]⟩]

def gateEntry : StationEntry := ⟨0x20, .gate, .T, true, 3⟩
def lightEntry : StationEntry := ⟨0x21, .light, .T, false, 3⟩
def coachEntry : StationEntry := ⟨0x22, .coach, .T, false, 3⟩
def cellAEntry : StationEntry := ⟨0x23, .cellA, .T, false, 3⟩
def cellBEntry : StationEntry := ⟨0x24, .cellB, .T, false, 3⟩
def takeoffEntry : StationEntry := ⟨0x25, .takeoff, .T, false, 3⟩
def landingEntry : StationEntry := ⟨0x48, .landing 8 64, .S, false, 3⟩
def judgeEntry : StationEntry := ⟨0x50, .judge 1, .S, false, 3⟩
def distEntry : StationEntry := ⟨0x58, .dist, .S, false, 3⟩
def windEntry : StationEntry := ⟨0x10, .wind ⟨0, 175, 100, 10, true⟩, .T, false, 3⟩

/-- A hill that is READY in PREPARE at hill time 5500, every station PRESENT. -/
def base : State :=
  { State.reset with
    ready := true
    tables := ⟨stations, [⟨0x20, 1, 0⟩], [⟨0x60, 4, 0⟩], .defaults, [⟨8, 30, 251⟩, ⟨8, 31, 250⟩], competitors⟩
    hck := ⟨5500, [(4, 5000), (3, 4000), (2, 3000), (1, 2000), (0, 1000)]⟩
    lsc := ⟨5, .fresh, .fresh, stations.map fun e => ⟨e.addr, .present, 0, 0⟩, .off⟩
    wnd := ⟨[.begin 0 175], none, []⟩
    stu := { State.reset.stu with gate := some 16, candidate := some 16, candidateCount := 3 } }

/-- The same hill with round 1 open and two bibs to start. -/
def round1 : State :=
  { base with
    competition := .r1Open
    startList := [12, 31]
    stu := { base.stu with lamp := .red }
    lsc := { base.lsc with lampSlot := .red } }

/-- A record of bib 12 in round 1, in a state of its course. -/
def jumper (x : RecState) : JumpRecord :=
  { clearedRecord round1 5100 12 with
    state := x
    greenTime := some 5200
    greenExpiryTime := some 105200
    gate := some 16
    gateLeftTime := some 5300
    takeoffTime := some 5400 }

/-- Round 1 with one record, in slot 0, and bib 31 to start. -/
def jumping (r : JumpRecord) : State :=
  { round1 with jtb := ⟨some r, none, none, none⟩, startList := [31], stu := { round1.stu with windGate := true } }

/-- The slot of a station, with a frame begun in it. -/
def slotOf (s : State) (e : StationEntry) : Slot := { openedSlot e (some s.lsc.lampSlot) 5490 with frameBegun := true }

/-- The state with that slot open for a station on a segment. -/
def slotted (seg : Seg) (addr : Nat) (s : State) : State :=
  match stationAt s.tables.stations addr with
  | none => s
  | some e => s.setSeg seg { s.seg seg with slot := some (slotOf s e) }

theorem one_get {r x : JumpRecord} {k : Fin 4} :
    (JumpTable.mk (some r) none none none).get k = some x ↔ k = 0 ∧ x = r := by
  fin_cases k <;> simp [JumpTable.get, eq_comm]

theorem empty_get (k : Fin 4) : (JumpTable.mk none none none none).get k = none := by
  fin_cases k <;> rfl

theorem one_active (r : JumpRecord) : OneActive (JumpTable.mk (some r) none none none) := by
  intro j k a b ha hb _ _
  rw [(one_get.mp ha).1, (one_get.mp hb).1]

theorem in_round (r : JumpRecord) : RecordsInRound (jumping r) := fun _ _ _ => .inl rfl

/-! ### Form -/

theorem test_form_load_data_empty : Instr.wellFormed (.loadData 0 0 0 []) = false := by decide
theorem test_form_load_data_long : Instr.wellFormed (.loadData 0 0 0 (List.replicate 118 0)) = false := by decide
theorem test_form_request_long : Instr.wellFormed (.unknownRequest 0 0 0 (List.replicate 120 0)) = false := by decide
theorem test_form_office_pass : Instr.wellFormed (.officePass 0 0 0x20 (List.replicate 121 0)) = false := by decide
theorem test_form_discarded_line : Instr.wellFormed (.frameDiscarded 0 .T [0x01, 0x7A]) = false := by decide
theorem test_form_wind : Instr.wellFormed (.windFrame 0 .T 0x10 0 (List.replicate 121 0)) = false := by decide
theorem test_form_gate : Instr.wellFormed (.gateFrame 0 .T 0x20 0 (List.replicate 121 0)) = false := by decide
theorem test_form_edge : Instr.wellFormed (.edgeFrame 0 .T 0x23 0 (List.replicate 121 0)) = false := by decide
theorem test_form_coach : Instr.wellFormed (.coachFrame 0 .T 0x22 0 (List.replicate 121 0)) = false := by decide
theorem test_form_style : Instr.wellFormed (.styleFrame 0 .S 0x50 0 (List.replicate 121 0)) = false := by decide
theorem test_form_dist : Instr.wellFormed (.distFrame 0 .S 0x58 0 (List.replicate 121 0)) = false := by decide
theorem test_form_lampstat : Instr.wellFormed (.lampstatFrame 0 .T 0x21 0 (List.replicate 121 0)) = false := by decide
theorem test_form_station_pass : Instr.wellFormed (.stationPassFrame 0 .S 0x60 0 (List.replicate 121 0)) = false := by decide
theorem test_form_none : Instr.wellFormed (.noneFrame 0 .S 0x60 0 (List.replicate 121 0)) = false := by decide
theorem test_form_not_admitted :
    Instr.wellFormed (.stationFrameNotAdmitted 0 .S 0x60 0x11 0 (List.replicate 121 0)) = false := by decide
theorem test_form_accepts : Instr.wellFormed (.loadData 0 0 0 [0x01]) = true := by decide

/-! ### Request frames (Table 2-17) -/

theorem test_decode_list_insert :
    decodeRequest 7 9 0x23 [0x01, 0x02, 0x00, 0x05] = some (.listInsert 7 9 258 5) := by decide
theorem test_decode_clear : decodeRequest 7 9 0x30 [] = some (.clear 7 9) := by decide
theorem test_decode_load_data : decodeRequest 7 9 0x06 [0x01, 0x00, 0xAB] = some (.loadData 7 9 256 [0xAB]) := by decide
theorem test_decode_refuses_size : decodeRequest 7 9 0x30 [0x00] = none := by decide
theorem test_decode_refuses_code : decodeRequest 7 9 0x3A [] = none := by decide

/-! ### The manual's examples -/

/-- R2: the text "123456789". -/
theorem test_crc_check_text : crc16 [0x31, 0x32, 0x33, 0x34, 0x35, 0x36, 0x37, 0x38, 0x39] = 0x29B1 := by
  decide +kernel

/-- R1: a delimiter and an escape byte inside a frame. -/
theorem test_escapes : [0x7A#8, 0x7B#8, 0x20#8].flatMap escapeByte = [0x7B, 0x3A, 0x7B, 0x3B, 0x20] := by decide

/-- Table 6-1. -/
theorem test_cosines :
    [0, 10, 15, 20, 30, 40, 45, 50, 60, 70, 80, 85, 89, 90].map cosine =
      [10000, 9848, 9659, 9397, 8660, 7660, 7071, 6428, 5000, 3420, 1736, 872, 175, 0] := by decide

/-- Table 6-3. -/
theorem test_components :
    [component 175 250 190, component 175 300 10, component 350 400 20, component 175 500 275, component 0 900 270,
      component 90 4000 90] = [241, -290, 346, -87, 0, 4000] := by decide

/-- Table 9-1, each quotient over 1000 or 2. -/
theorem test_rounding :
    [roundDiv 241475 1000, roundDiv (-289770) 1000, roundDiv 271 2, roundDiv (-491) 2, roundDiv (-41) 4, roundDiv 19 1,
      roundDiv (-152) 10, roundDiv (-5) 2, roundDiv 1 2] = [241, -290, 136, -246, -10, 19, -15, -3, 1] := by decide

/-- Table 3-4: the mark history of 3.8 at 316 420. -/
theorem test_stamps_convert :
    ([(59, 350), (59, 800), (50, 9999), (44, 9000), (43, 2000)] : List (Nat × Nat)).map (fun x =>
        State.convert
          { base with hck := ⟨316420, (List.range 16).map fun i =>
              (BitVec.ofNat 8 (59 - i), BitVec.ofNat 32 (316000 - 1000 * i))⟩ } (BitVec.ofNat 8 x.1) x.2) =
      [⟨316350, false⟩, ⟨316420, false⟩, ⟨316420, false⟩, ⟨310000, false⟩, ⟨316420, true⟩] := by decide

/-- 6.12: the live wind of one cycle start, with L = 5; the ring holds its newest entry first. -/
theorem test_live_wind :
    let ws1 := stationMean 5 [⟨0, .good, some 44⟩, ⟨0, .good, some 41⟩, ⟨0, .missing, none⟩, ⟨0, .good, some 42⟩, ⟨0, .good, some 40⟩]
    let ws2 := stationMean 5 [⟨0, .good, some 31⟩, ⟨0, .good, some 30⟩, ⟨0, .missing, none⟩, ⟨0, .missing, none⟩, ⟨0, .missing, none⟩]
    let ws7 := stationMean 5 [⟨0, .good, some (-13)⟩, ⟨0, .good, some (-9)⟩, ⟨0, .repeated, some (-12)⟩, ⟨0, .good, some (-12)⟩, ⟨0, .good, some (-10)⟩]
    (ws1, ws2, ws7, liveWindOf [(1, ws1), (2, ws2), (7, ws7)]) = (some 42, none, some (-11), some 16) := by decide

/-- Table 10-2. -/
theorem test_distance_points :
    [253, 240, 200, 173, 40, 300].map (fun d => (pointsOf .defaults 14 (jumper .marking) d).distancePoints) =
      [717, 600, 240, 0, 0, 1140] := by decide

/-- Table 10-3. -/
theorem test_gate_compensation :
    ([(14, 12, none, 253), (14, 12, some 14, 253), (14, 12, some 14, 266), (14, 15, none, 253), (14, 11, some 13, 250),
        (40, 1, none, 300)] : List (Nat × Nat × Option Nat × Nat)).map (fun x =>
        (pointsOf .defaults x.1 { jumper .marking with gate := some x.2.1, coachRequest := x.2.2.1.isSome, juryGate := x.2.2.1 }
          x.2.2.2).gateComp) = [140, 0, 140, -70, 70, 2000] := by decide

/-- R163. -/
theorem test_style :
    (pointsOf .defaults 14 { jumper .marking with marks := ⟨some 37, some 36, some 37, some 38, some 35⟩ } 253).style = 550 := by
  decide

/-- Table 9-2. -/
theorem test_wind_compensation :
    [(pointsOf .defaults 14 { jumper .marking with windValue := some 19 } 253).windComp,
      (pointsOf { HillTable.defaults with headFactor := 100 } 14 { jumper .marking with windValue := some 25 } 253).windComp,
      (pointsOf .defaults 14 { jumper .marking with windValue := some (-1) } 253).windComp,
      (pointsOf .defaults 14 { jumper .marking with windValue := some (-35) } 253).windComp,
      (pointsOf .defaults 14 { jumper .marking with windValue := some 3000 } 253).windComp,
      (pointsOf .defaults 14 { jumper .marking with windValue := some (-2500) } 253).windComp,
      (pointsOf .defaults 14 (jumper .marking) 253).windComp] = [-15, -3, 1, 34, -2000, 2000, 0] := by decide

/-- 8.3: the default spacing with dt = 3870, the least dt that gives a speed, and one below it. -/
theorem test_speed :
    (speedOf .defaults 4994100 4997970, speedOf .defaults 0 2400, speedOf .defaults 0 2399) =
      (some 930, some 1500, none) := by decide

/-! ### Single steps -/

theorem test_step_takes_front :
    (match step { base with pending := [.identify 5600 1, .clear 5700 2] } with
      | .next t => t.pending
      | _ => []) = [.clear 5700 2] := by decide

/-- R191. -/
theorem test_identify :
    (ran (.identify 5600 1) State.reset).office.sending =
      some (.reply ⟨1, 0x01, .ok, .identity 0x2100 1 false⟩) := by decide

theorem test_not_ready : statusOf (.clear 5600 1) State.reset = some .notReady := by decide
theorem test_clear_no_round : statusOf (.clear 5600 1) base = some .wrongState := by decide
theorem test_clear_yellow : (ran (.clear 5600 1) round1).stu.lamp = .yellow := by decide
theorem test_round_open_full_list : statusOf (.roundOpen 5600 1 1) base = some .notFound := by decide
theorem test_list_insert_unknown_bib : statusOf (.listInsert 5600 1 13 0) base = some .notFound := by decide
theorem test_list_insert : (ran (.listInsert 5600 1 31 0) { base with startList := [12] }).startList = [31, 12] := by decide
theorem test_list_move : (ran (.listMove 5600 1 12 1) round1).startList = [31, 12] := by decide
theorem test_list_remove : (ran (.listRemove 5600 1 12) round1).startList = [31] := by decide
theorem test_hold_returns :
    (ran (.hold 5600 1) (jumping (jumper .green))).startList = [12, 31] := by decide
theorem test_annul_frees : (ran (.annul 5600 1 12) (jumping (jumper .flight))).jtb = .empty := by decide
theorem test_reinstate_refused : statusOf (.reinstate 5600 1 12) (jumping (jumper .inRun)) = some .wrongState := by decide
theorem test_disqualify_entry :
    (ran (.disqualify 5600 1 12) (jumping (jumper .green))).results = [⟨12, none, none, .dsq, none⟩] := by decide

/-- Table 4-2, with Q = 3: the round-2 order and its reply. -/
theorem test_round_two_order :
    let ok (bib total : Nat) : ResultEntry := ⟨bib, some total, none, .ok, none⟩
    let t := ran (.roundOpen 5600 1 2)
      { base with
        competition := .r1Closed
        tables := { base.tables with hill := { HillTable.defaults with q := 3 } }
        results := [ok 7 1450, ok 12 1392, ok 3 1310, ok 21 1310, ok 9 1200, ⟨16, none, none, .dsq, none⟩] }
    (t.startList, t.office.sending) =
      ([21, 3, 12, 7], some (.reply ⟨1, 0x20, .ok, .round2Opened .r2Open 4 1310 1⟩)) := by decide

/-- R9: the TIME frame of a cycle start carries the mark number and hill time. -/
theorem test_cycle_start_time_frame :
    (ran (.cycleStart 6000) base).lineT.shifter =
      some ⟨0xFF, 0x01, 0x01, 0, [0x05, 0x00, 0x00, 0x17, 0x70]⟩ := by decide

theorem test_slot_open_polls :
    ((ran (.slotOpen 5600 .T) { base with lsc := { base.lsc with segT := { Segment.fresh with granted := [0x20] } } }).lineT.shifter.map
      fun f => (f.destination, f.kind)) = some (0x20, 0x02) := by decide

/-- R119, R103: a light station gets LAMP with the lamp command. -/
theorem test_slot_open_lamp :
    ((ran (.slotOpen 5600 .T) { round1 with lsc := { round1.lsc with segT := { Segment.fresh with granted := [0x21] } } }).lineT.shifter.map
      fun f => (f.kind, f.payload)) = some (0x03, [0x01]) := by decide

/-- R4: with no slot open a frame counts SOURCE. -/
theorem test_frame_without_slot_counts :
    (ran (.gateFrame 5600 .T 0x20 0 [16, 0]) base).lineT.counters.source = 1 := by decide

theorem test_frame_of_wrong_kind_is_bad :
    (ran (.stationFrameNotAdmitted 5600 .T 0x20 0x11 0 [0]) (slotted .T 0x20 base)).conditions.stationDataBad =
      ⟨false, true, 0x20⟩ := by decide

theorem test_gate_left_from_green :
    (((ran (.gateFrame 5600 .T 0x20 0 [16, 1, 2, 0, 4, 0x01, 0x90]) (slotted .T 0x20 (jumping (jumper .green)))).jtb.get 0).map
      fun r => (r.state, r.gateLeftTime)) = some (.inRun, some 5400) := by decide

theorem test_mark_of_seat :
    (((ran (.styleFrame 5600 .S 0x50 0 [0, 12, 37]) (slotted .S 0x50 (jumping (jumper .landing)))).jtb.get 0).map
      fun r => r.marks.seat1) = some (some 37) := by decide

theorem test_lampstat_mismatch_counts :
    (ran (.lampstatFrame 5600 .T 0x21 0 [3]) (slotted .T 0x21 round1)).stu.echoRun = 1 := by decide

/-- The light station ABSENT, its slot open, and an echo that began before the slot. -/
def lightAbsent : State :=
  { round1 with
    lsc := { round1.lsc with
      links := [⟨0x21, .absent, 0, 0⟩]
      segT := { Segment.fresh with slot := some { slotOf round1 lightEntry with frameBegun := false } } } }

/-- R120: no echo run while the light station is ABSENT. -/
theorem test_lampstat_absent_light :
    (ran (.lampstatFrame 5600 .T 0x21 0 [3]) lightAbsent).stu.echoRun = 0 := by decide

/-- R120: a table with no LIGHT station ends the echo run and LAMP_MISMATCH, whatever the presence of the station it drops. -/
theorem test_swap_without_light :
    let s := State.swapStations (stations.filter fun e => decide (e.role.kind ≠ .light))
      (State.setV .lampMismatch true { lightAbsent with stu := { lightAbsent.stu with echoRun := 2 } })
    s.stu.echoRun = 0 ∧ s.conditions.lampMismatch.v = false := by decide

theorem test_coach_request :
    (ran (.coachFrame 5600 .T 0x22 0 [0, 31]) (slotted .T 0x22 round1)).stu.coachRequest = some 31 := by decide

theorem test_dist_without_record :
    (ran (.distFrame 5600 .S 0x58 0 [0, 31, 0, 250]) (slotted .S 0x58 round1)).conditions.lateData =
      ⟨false, true, 0x58⟩ := by decide

theorem test_wind_sample_buffers :
    ((ran (.windFrame 5600 .T 0x10 0 [1, 0, 250, 0, 190, 0, 250, 0, 190, 0]) (slotted .T 0x10 base)).wnd.contexts.map
      fun c => c.buffer.length) = [1] := by decide

theorem test_abort_counts_framing : (ran (.abortReceived 5600 .O) base).lineO.counters.framing = 1 := by decide

/-- R3: what follows a frame that the budget cut is dropped and not counted again. -/
theorem test_cut_frame_counts_once :
    (ran (.frameDiscarded 5540 .T [0x00]) (ran (.slotBudgetEnd 5520 .T) (slotted .T 0x20 base))).lineT.counters.framing = 1 := by
  decide

/-- R10: a frame that began before the slot does not end it. -/
theorem test_early_frame_keeps_slot :
    ((ran (.noneFrame 5600 .T 0x20 0 []) (base.setSeg .T { base.seg .T with
      slot := some { slotOf base gateEntry with frameBegun := false } })).lsc.segT.slot).isSome = true := by decide

/-- R1: two frames to the office with no pause between them share a delimiter. -/
theorem test_shared_delimiter :
    let f : Frame := ⟨0x20, 0x01, 0x02, 0x00, []⟩
    linesOf [f, f] = f.line ++ f.line.drop 1 := by decide +kernel

/-- R26: RESTART ends the frame being sent with an abort. -/
theorem test_restart_aborts :
    ((ran (.restart 6002 1 1) (ran (.cycleStart 6000) base)).lineT.shifter,
      (ran (.restart 6002 1 1) (ran (.cycleStart 6000) base)).lineT.ahead) = (none, .abort 6002) := by decide

/-- R26: a RESTART long after TIME, with no slot granted, finds nothing being sent and puts no abort on the line. -/
theorem test_restart_after_time :
    ((ran (.restart 6500 1 1) (ran (.cycleStart 6000) base)).lineT.shifter,
      (ran (.restart 6500 1 1) (ran (.cycleStart 6000) base)).lineT.ahead) = (none, .idle) := by decide

/-- R17, R18: the items of one EDGE frame are taken in their order, the unfit one between them removed. -/
theorem test_items_in_order :
    let s := ran (.edgeFrame 5600 .T 0x24 0 (3 :: [1, 0, 4, 0x01, 0x90] ++ [2, 0, 4, 0x01, 0x91] ++ [1, 0, 4, 0x01, 0x92]))
      (slotted .T 0x24 (jumping (jumper .inRun)))
    (s.flu.heldB, s.conditions.stationDataBad.i) = ([⟨5400, false⟩, ⟨5402, false⟩], true) := by decide

/-- R21: before READY a PASS from the office sets OFFICE_OVERRUN, whatever its destination. -/
theorem test_pass_before_ready :
    ((ran (.frameDiscarded 300 .O ((⟨0x01, 0x00, 0x05, 0x00, []⟩ : Frame).content.flatMap escapeByte)) State.reset).conditions.officeOverrun,
      (ran (.frameDiscarded 300 .O ((⟨0x01, 0x00, 0x05, 0x00, []⟩ : Frame).content.flatMap escapeByte)) State.reset).lineO.counters.address) =
      (⟨false, true, 0x05⟩, 0) := by decide +kernel

/-- Table 2-16: of eight entries of 16 bytes, seven fit behind the three bytes of a RESULTS_READ reply. -/
theorem test_results_read_fits :
    (match (ran (.resultsRead 5600 1 0 0) { base with results := (List.range 8).map fun i =>
        ⟨i + 1, some 900, some 800, .ok, none⟩ }).office.sending with
      | some (.reply ⟨_, _, _, .resultsView _ _ entries _⟩) => entries.length
      | _ => 0) = 7 := by decide

/-- R31, R49: of clear times exactly 2^31 apart, that of the record created first is the older. -/
theorem test_returning_order :
    (JumpTable.mk (some { jumper .cleared with serial := 1, clearTime := 0x80001000 })
      (some { jumper .held with serial := 0, clearTime := 0x00001000, bib := 31 }) none none).returning = [31, 12] := by decide

theorem test_restart_silences : (ran (.restart 5600 1 1) base).lsc.segT.silentUntil = some 6100 := by decide

theorem test_reset_keep_returns_bib :
    (ran (.resetEffect 5600) { jumping (jumper .green) with takenReset := some ⟨false, true⟩ }).startList = [12, 31] := by
  decide

theorem test_power_on_defaults :
    (ran .powerOnReset (jumping (jumper .green))).tables = ⟨[], [], [], .defaults, [], []⟩ := by decide

theorem test_ready_reports_restarted :
    (ran (.ready 300) State.reset).office.sending = some (.report (.condition 1 false 0)) := by decide

/-- R193: a short load is refused and the buffer closes. -/
theorem test_load_end_short :
    (statusOf (.loadEnd 5600 1) { base with loadBuffer := some ⟨.schedT, 5, [0]⟩ },
      (ran (.loadEnd 5600 1) { base with loadBuffer := some ⟨.schedT, 5, [0]⟩ }).loadBuffer) =
      (some .badValue, none) := by decide

theorem test_store_busy : statusOf (.store 5600 1) { base with engine := some ⟨base.storedItems, 5000⟩ } = some .busy := by
  decide

/-! ### Witnesses: for every statement with hypotheses, states and operands that meet them, clause by clause -/

theorem base_takes : Takes base := by unfold Takes; decide
theorem base_listens : Listens base := ⟨base_takes, rfl⟩
theorem round1_listens : Listens round1 := ⟨⟨rfl, rfl, by decide⟩, rfl⟩
theorem jumping_listens (r : JumpRecord) : Listens (jumping r) := ⟨⟨rfl, rfl, (by decide : (0 : Nat) < 64)⟩, rfl⟩
theorem base_legal : StatusLegal base := by
  refine ⟨by unfold CountersFit; decide, by unfold CountersFit; decide, by unfold CountersFit; decide, rfl, rfl, ?_⟩
  intro c; cases c <;> decide
theorem base_round : RecordsInRound base := fun k r h => by simp [base, State.reset, JumpTable.empty, empty_get] at h
theorem round1_active : OneActive round1.jtb := fun j k a b h => by
  simp [round1, base, State.reset, JumpTable.empty, empty_get] at h

theorem witness_StepRunsFrontCommand :
    ({ base with pending := [.identify 5600 1] } : State).pending = .identify 5600 1 :: [] := rfl

theorem witness_EveryStepGoesOn :
    (State.reset.pending = [] ∧ ({ base with heldInReset := true } : State).heldInReset = true) ∧
    ∃ s : State, s.pending = [] ∧ s.heldInReset = false ∧ CycleDue s (s.hck.time + 1) ∧
      Due s (s.hck.time + 1) (.confirmExpiry 6000 0) ∧ Due s (s.hck.time + 1) (.marksWindowExpiry 6000 0) ∧
      Due s (s.hck.time + 1) (.windWaitExpiry 6000) ∧ Due s (s.hck.time + 1) (.slotBudgetEnd 6000 .T) :=
  ⟨by decide,
    { jumping { jumper .measuring with confirmExpiry := some 6000, marksExpiry := some 6000 } with
      hck := ⟨5999, []⟩
      stu := { round1.stu with windWait := some 6000 }
      lsc := { round1.lsc with segT := { Segment.fresh with slot := some { slotOf base gateEntry with budgetEnd := 6000 } } } },
    rfl, rfl, ⟨rfl, by decide, by decide⟩, ⟨rfl, _, rfl, rfl⟩, ⟨rfl, _, rfl, rfl⟩, ⟨rfl, rfl⟩, ⟨rfl, _, rfl, rfl⟩⟩

theorem witness_RequestsAreGated :
    (requestOf (.clear 5600 1) = some (5600, 1, 0x30) ∧ base.heldInReset = false) ∧
    ({ base with takenReset := some ⟨false, false⟩ } : State).takenReset ≠ none ∧
    64 ≤ ({ base with office := ⟨List.replicate 64 ⟨0, 0, .ok, .nothing⟩, [], [], none, false⟩ } : State).office.count ∧
    (Takes State.reset ∧ State.reset.ready = false ∧ (0x30 : Byte) ≠ 0x01) ∧
    (Takes base ∧ Malformed (.unknownRequest 5600 1 0x30 [0]) 5600 1 0x30) ∧
    Malformed (.loadData 5600 1 0 []) 5600 1 0x06 := by
  refine ⟨by decide, by decide, by decide, ⟨⟨rfl, rfl, by decide⟩, rfl, by decide⟩, ⟨base_takes, .inl ⟨_, rfl, ?_⟩⟩,
    .inr ⟨0, [], rfl, rfl, by decide⟩⟩
  intro least most h
  simp [argumentBytes] at h
  simp [← h.1, ← h.2]

theorem witness_IdentifyAnswers : Takes State.reset := ⟨rfl, rfl, by decide⟩

theorem witness_PartReadsChangeNothing :
    Listens base ∧ 3 < (4 : Byte).toNat ∧ 1 < (2 : Byte).toNat ∧ ((3 : Byte).toNat = (3 : Fin 4).val ∧ (1 : Byte).toNat ≤ 1) ∧
    ((3 : Byte).toNat ≤ 3 ∧ base.snapshot = none) ∧
    ({ base with snapshot := some base.takeSnapshot } : State).snapshot = some base.takeSnapshot ∧
    ¬(1 ≤ (0 : Byte).toNat ∧ (0 : Byte).toNat ≤ 6) ∧ ¬(1 ≤ (7 : Byte).toNat ∧ (7 : Byte).toNat ≤ 6) ∧
    ((6 : Byte).toNat = TableCode.competitors.code ∧
      FirstOf [((base.tables.image .competitors).length < (0 : Half).toNat, .badValue)] none ∧
      FirstOf [((base.tables.image .competitors).length < (4000 : Half).toNat, .badValue)] (some .badValue)) :=
  ⟨base_listens, by decide, by decide, by decide, by decide, rfl, by decide, by decide, by decide,
    .inr ⟨by decide, rfl⟩, .inl ⟨by decide, rfl⟩⟩

theorem witness_ReadCountersClears :
    Listens base ∧ StatusLegal base ∧ (1 : Byte).toNat = 1 ∧ (2 : Byte).toNat = 2 ∧ (3 : Byte).toNat = 3 ∧
      ¬(1 ≤ (0 : Byte).toNat ∧ (0 : Byte).toNat ≤ 3) ∧ ¬(1 ≤ (4 : Byte).toNat ∧ (4 : Byte).toNat ≤ 3) :=
  ⟨base_listens, base_legal, by decide⟩

theorem witness_ReadStationAnswers :
    Listens base ∧
    (∀ a : Byte, a = 0x10 ∨ a = 0x20 → FirstOf
      [(¬(0x10 ≤ a.toNat ∧ a.toNat ≤ 0xEF) ∨ ¬((1 : Byte).toNat = 0 ∨ (1 : Byte).toNat = 1), .badValue),
        (stationAt base.tables.stations a.toNat = none, .notFound)] none) ∧
    FirstOf
      [(¬(0x10 ≤ (0xEF : Byte).toNat ∧ (0xEF : Byte).toNat ≤ 0xEF) ∨ ¬((0 : Byte).toNat = 0 ∨ (0 : Byte).toNat = 1), .badValue),
        (stationAt base.tables.stations (0xEF : Byte).toNat = none, .notFound)] (some .notFound) ∧
    (stationAt base.tables.stations 0x10 = some ⟨0x10, .wind ⟨0, 175, 100, 10, true⟩, .T, false, 3⟩ ∧
      linkAt base.lsc.links 0x10 = some ⟨0x10, .present, 0, 0⟩ ∧
      base.wnd.contexts.find? (fun x => decide (x.index = 0)) = some (.begin 0 175)) ∧
    (stationAt base.tables.stations 0x20 = some ⟨0x20, .gate, .T, true, 3⟩ ∧
      linkAt base.lsc.links 0x20 = some ⟨0x20, .present, 0, 0⟩ ∧ ∀ w, StationRole.gate ≠ .wind w) := by
  refine ⟨base_listens, ?_, .inr ⟨by decide, .inl ⟨by decide, rfl⟩⟩, by decide, by decide, by decide, by simp⟩
  rintro a (rfl | rfl) <;> exact .inr ⟨by decide, .inr ⟨by decide, rfl⟩⟩

theorem witness_ConditionsReadAndEnabled :
    Listens base ∧ StatusLegal base ∧
      (CondName.restarted.isState = false ∧ CondName.gateFrozen.isState = true ∧ (base.conditions.get .gateFrozen).v = true) :=
  ⟨base_listens, base_legal, by decide⟩

theorem witness_SnapshotCopies :
    (Listens (jumping (jumper .green)) ∧ OneActive (jumping (jumper .green)).jtb ∧
      (jumping (jumper .green)).jtb.get 0 = some (jumper .green) ∧ (jumper .green).state = .green ∧
      (jumper .green).greenExpiryTime = some 105200 ∧ (jumper .green).state.active = true) ∧
    (∃ s : State, Listens s ∧ OneActive s.jtb ∧ s.stu.referenceFixed = true ∧ s.stu.roundReference = some 16) ∧
    (∃ s : State, Listens s ∧ OneActive s.jtb ∧ s.stu.referenceFixed = false ∧ s.stu.pendingReference = some 16) ∧
    (Listens base ∧ OneActive base.jtb ∧ base.stu.referenceFixed = false ∧ base.stu.pendingReference = none) ∧
    (∀ k r, base.jtb.get k = some r → r.state ≠ .green ∧ r.state.active = false) ∧
    (base.tables.stations[0]? = some ⟨0x10, .wind ⟨0, 175, 100, 10, true⟩, .T, false, 3⟩ ∧
      linkAt base.lsc.links 0x10 = some ⟨0x10, .present, 0, 0⟩) := by
  refine ⟨⟨jumping_listens _, one_active _, by decide⟩,
    ⟨{ base with stu := { base.stu with referenceFixed := true, roundReference := some 16 } },
      ⟨⟨rfl, rfl, (by decide : (0 : Nat) < 64)⟩, rfl⟩, round1_active, by decide⟩,
    ⟨{ base with stu := { base.stu with pendingReference := some 16 } },
      ⟨⟨rfl, rfl, (by decide : (0 : Nat) < 64)⟩, rfl⟩, round1_active, by decide⟩,
    ⟨base_listens, round1_active, by decide⟩, ?_, by decide⟩
  intro k r h
  simp [base, State.reset, JumpTable.empty, empty_get] at h

theorem witness_ListInsertPlacesBib :
    Listens base ∧ FirstOf
      [(¬(1 ≤ (31 : Half).toNat ∧ (31 : Half).toNat ≤ 999), .badValue),
        (base.competition = .r1Closed ∨ base.competition = .final, .wrongState),
        (∀ c ∈ base.tables.competitors, c.bib ≠ (31 : Half).toNat, .notFound),
        ((31 : Half).toNat ∈ base.startList, .wrongState),
        (∃ k r, base.jtb.get k = some r ∧ r.bib = (31 : Half).toNat, .wrongState),
        (∃ e, entryOf base.results (31 : Half).toNat = some e ∧
          ((base.competition = .r1Open ∧ e.round1 ≠ none) ∨ (base.competition = .r2Open ∧ e.round2 ≠ none)), .wrongState),
        (∃ e, entryOf base.results (31 : Half).toNat = some e ∧ e.status = .dsq, .wrongState),
        (96 ≤ base.startList.length, .full),
        (base.startList.length < (0 : Half).toNat, .badValue)] none := by
  refine ⟨base_listens, .inr ⟨by decide, .inr ⟨by decide, .inr ⟨by decide, .inr ⟨by decide, .inr ⟨?_, .inr ⟨?_, .inr ⟨?_,
    .inr ⟨by decide, .inr ⟨by decide, rfl⟩⟩⟩⟩⟩⟩⟩⟩⟩⟩
  · rintro ⟨k, r, h, -⟩; simp [base, State.reset, JumpTable.empty, empty_get] at h
  · rintro ⟨e, h, -⟩; simp [base, State.reset, entryOf] at h
  · rintro ⟨e, h, -⟩; simp [base, State.reset, entryOf] at h

theorem witness_StartListEdits :
    Listens round1 ∧
    FirstOf
      [(¬(1 ≤ (12 : Half).toNat ∧ (12 : Half).toNat ≤ 999), .badValue),
        (round1.competition = .r1Closed ∨ round1.competition = .final, .wrongState),
        ((12 : Half).toNat ∉ round1.startList, .notFound)] none ∧
    FirstOf
      [(¬(1 ≤ (12 : Half).toNat ∧ (12 : Half).toNat ≤ 999), .badValue),
        (round1.competition = .r1Closed ∨ round1.competition = .final, .wrongState),
        ((12 : Half).toNat ∉ round1.startList, .notFound),
        (round1.startList.length - 1 < (1 : Half).toNat, .badValue)] none ∧
    FirstOf
      [(¬(1 ≤ (12 : Half).toNat ∧ (12 : Half).toNat ≤ 999), .badValue),
        (round1.competition = .r1Closed ∨ round1.competition = .final, .wrongState),
        ((12 : Half).toNat ∉ round1.startList, .notFound),
        (round1.startList.length - 1 < (2 : Half).toNat, .badValue)] (some .badValue) ∧ round1.startList.Nodup :=
  ⟨round1_listens, .inr ⟨by decide, .inr ⟨by decide, .inr ⟨by decide, rfl⟩⟩⟩,
    .inr ⟨by decide, .inr ⟨by decide, .inr ⟨by decide, .inr ⟨by decide, rfl⟩⟩⟩⟩,
    .inr ⟨by decide, .inr ⟨by decide, .inr ⟨by decide, .inl ⟨by decide, rfl⟩⟩⟩⟩, by decide⟩

theorem witness_ListsAreRead :
    Listens round1 ∧ FirstOf [(round1.startList.length < (2 : Half).toNat, .badValue)] none ∧
    FirstOf [(round1.startList.length < (3 : Half).toNat, .badValue)] (some .badValue) ∧
    FirstOf [(¬((1 : Byte).toNat = 0 ∨ (1 : Byte).toNat = 1) ∨ round1.results.length < (0 : Half).toNat, .badValue)] none ∧
    FirstOf [(¬((2 : Byte).toNat = 0 ∨ (2 : Byte).toNat = 1) ∨ round1.results.length < (0 : Half).toNat, .badValue)]
      (some .badValue) :=
  ⟨round1_listens, .inr ⟨by decide, rfl⟩, .inl ⟨by decide, rfl⟩, .inr ⟨by decide, rfl⟩, .inl ⟨by decide, rfl⟩⟩

theorem witness_RoundsOpenAndClose :
    (Listens { base with startList := [12] } ∧ RecordsInRound { base with startList := [12] } ∧
      ¬((3 : Byte).toNat = 1 ∨ (3 : Byte).toNat = 2) ∧ (1 : Byte).toNat = 1 ∧
      FirstOf [(({ base with startList := [12] } : State).competition ≠ .prepare, .wrongState),
        (({ base with startList := [12] } : State).startList = [], .notFound)] none ∧
      FirstOf [(RoundOpen { base with startList := [12] }, .wrongState)] none) ∧
    Listens round1 ∧ FirstOf [(RoundOpen round1, .wrongState)] (some .wrongState) ∧
    FirstOf [(¬RoundOpen round1, .wrongState), (∃ k r, round1.jtb.get k = some r, .wrongState)] none ∧
    FirstOf [(¬RoundOpen (jumping (jumper .held)), .wrongState),
      (∃ k r, (jumping (jumper .held)).jtb.get k = some r, .wrongState)] (some .wrongState) ∧
    (round1.enables.jump = true ∧ round1.office.count + 1 + round1.startList.length ≤ 60) := by
  refine ⟨⟨⟨⟨rfl, rfl, by decide⟩, rfl⟩, base_round, by decide, by decide, .inr ⟨by decide, .inr ⟨by decide, rfl⟩⟩,
    .inr ⟨by simp [RoundOpen, base, State.reset], rfl⟩⟩, round1_listens, .inl ⟨.inl rfl, rfl⟩,
    .inr ⟨fun h => h (.inl rfl), .inr ⟨?_, rfl⟩⟩, .inr ⟨fun h => h (.inl rfl), .inl ⟨⟨0, _, rfl⟩, rfl⟩⟩, by decide⟩
  rintro ⟨k, r, h⟩; simp [round1, base, State.reset, JumpTable.empty, empty_get] at h

/-- Round 1 closed with one OK entry. -/
def closed : State :=
  { base with competition := .r1Closed, results := [⟨12, some 1450, none, .ok, none⟩, ⟨31, none, none, .dsq, none⟩] }

theorem witness_RoundTwoOrder :
    Listens closed ∧ RecordsInRound closed ∧ (2 : Byte).toNat = 2 ∧ base.competition ≠ .r1Closed ∧
    closed.competition = .r1Closed ∧ ResultsOrdered closed ∧ 1 ≤ closed.tables.hill.q ∧
    (∀ e ∈ closed.results, e.status = .ok → e.rounds = 1) := by
  refine ⟨⟨⟨rfl, rfl, by decide⟩, rfl⟩, fun k r h => ?_, by decide, by decide, rfl, ⟨?_, by decide⟩, by decide, by decide⟩
  · simp [closed, base, State.reset, JumpTable.empty, empty_get] at h
  exact List.pairwise_cons.mpr ⟨by simp [StandsBefore], by simp⟩

theorem light_present : StationPresent round1 .light := ⟨⟨0x21, .light, .T, false, 3⟩, ⟨0x21, .present, 0, 0⟩, by decide⟩

/-- Nothing refuses CLEAR in round 1, with the wind-gate switch in either position. -/
theorem clear_unrefused (on : Bool) : FirstOf (clearRefusals { round1 with stu := { round1.stu with windGate := on } }) none := by
  refine .inr ⟨fun h => h (.inl rfl), .inr ⟨List.cons_ne_nil _ _, .inr ⟨?_, .inr ⟨fun h => h 0 rfl, .inr ⟨fun h => h light_present,
    .inr ⟨by cases on <;> decide, rfl⟩⟩⟩⟩⟩⟩
  rintro ⟨k, r, h, -⟩
  simp [round1, base, State.reset, JumpTable.empty, empty_get] at h

theorem witness_ClearIsJudged :
    Listens round1 ∧ FirstOf (clearRefusals { round1 with stu := { round1.stu with windGate := true } }) none ∧
      Listens base ∧ FirstOf (clearRefusals base) (some .wrongState) :=
  ⟨round1_listens, clear_unrefused true, base_listens, .inl ⟨by simp [RoundOpen, base, State.reset], rfl⟩⟩

theorem witness_GreenIsEntered :
    (∀ on, Listens { round1 with stu := { round1.stu with windGate := on } } ∧
      FirstOf (clearRefusals { round1 with stu := { round1.stu with windGate := on } }) none ∧
      round1.startList = 12 :: [31] ∧ round1.jtb.get 0 = none ∧ ∀ j < (0 : Fin 4), round1.jtb.get j ≠ none) ∧
    (round1.enables.jump = true ∧ round1.office.count + 2 < 60) ∧
    (Listens (jumping (jumper .cleared)) ∧ OneActive (jumping (jumper .cleared)).jtb ∧
      RecordsInRound (jumping (jumper .cleared)) ∧ (jumping (jumper .cleared)).jtb.get 0 = some (jumper .cleared) ∧
      (jumper .cleared).state = .cleared) ∧
    (Listens round1 ∧ OneActive round1.jtb ∧ RecordsInRound round1 ∧
      (∀ k r, round1.jtb.get k = some r → r.state ≠ .cleared) ∧ 1 < (2 : Byte).toNat ∧ (1 : Byte).toNat = 1 ∧
      (0 : Byte).toNat = 0) := by
  refine ⟨fun on => ⟨⟨⟨rfl, rfl, (by decide : (0 : Nat) < 64)⟩, rfl⟩, clear_unrefused on, rfl, rfl, by decide⟩, by decide,
    ⟨jumping_listens _, one_active _, in_round _, rfl, rfl⟩,
    round1_listens, round1_active, fun _ _ _ => .inl rfl, fun k r h => ?_, by decide⟩
  simp [round1, base, State.reset, JumpTable.empty, empty_get] at h

theorem witness_ReferenceGateSet :
    Listens round1 ∧
    FirstOf [(40 < (40 : Byte).toNat, .badValue), (RoundOpen round1 ∧ round1.stu.referenceFixed = true, .wrongState)] none ∧
    FirstOf [(40 < (41 : Byte).toNat, .badValue), (RoundOpen round1 ∧ round1.stu.referenceFixed = true, .wrongState)]
      (some .badValue) ∧
    (∃ t, exec (.resultsClear 5600 1) round1 = .next t) :=
  ⟨round1_listens, .inr ⟨by decide, .inr ⟨fun h => by simp [round1, base, State.reset, StartUnit.afterPowerOn] at h, rfl⟩⟩,
    .inl ⟨by decide, rfl⟩, ⟨_, rfl⟩⟩

theorem witness_BarIsLeft :
    (Listens (jumping (jumper .late)) ∧ OneActive (jumping (jumper .late)).jtb ∧ RecordsInRound (jumping (jumper .late)) ∧
      (jumping (jumper .late)).jtb.get 0 = some (jumper .late) ∧ (jumper .late).state = .late ∧
      (jumping (jumper .late)).enables.jump = true ∧ (jumping (jumper .late)).office.count + 1 < 60) ∧
    (∀ k r, (jumping (jumper .marking)).jtb.get k = some r → r.state ≠ .cleared ∧ r.state ≠ .green ∧ r.state ≠ .late) ∧
    (FirstOf
        [(¬(1 ≤ (12 : Half).toNat ∧ (12 : Half).toNat ≤ 999), .badValue),
          (∀ k r, (jumping (jumper .late)).jtb.get k = some r → r.bib ≠ (12 : Half).toNat, .notFound)] none ∧
      (jumping (jumper .late)).jtb.holding (12 : Half).toNat = some (0, jumper .late)) ∧
    ∃ s : State, s.heldInReset = false ∧ OneActive s.jtb ∧ RecordsInRound s ∧ s.stu.windWait = some 5600 ∧
      s.jtb.get 0 = some (jumper .cleared) ∧ (jumper .cleared).state = .cleared ∧ s.enables.jump = true ∧
      s.office.count < 60 := by
  refine ⟨⟨jumping_listens _, one_active _, in_round _, rfl, rfl, by decide⟩, ?_,
    ⟨.inr ⟨by decide, .inr ⟨fun h => h 0 (jumper .late) rfl rfl, rfl⟩⟩, by decide⟩,
    { jumping (jumper .cleared) with stu := { (jumping (jumper .cleared)).stu with windWait := some 5600 } },
    rfl, one_active _, fun _ _ _ => .inl rfl, rfl, rfl, rfl, rfl, by decide⟩
  intro k r h
  rw [(one_get.mp h).2]; decide

theorem witness_GreenTimesOut :
    ∃ s : State, s.heldInReset = false ∧ OneActive s.jtb ∧ RecordsInRound s ∧ s.jtb.get 0 = some (jumper .green) ∧
      (jumper .green).state = .green ∧ (jumper .green).greenTime = some 5200 ∧ s.stu.greenFlash = some 15200 ∧
      s.dsp.countdownExpiry = some 15200 ∧ s.stu.greenExpiry = some 15200 ∧ s.enables.jump = true ∧ s.office.count < 60 :=
  ⟨{ jumping (jumper .green) with
      stu := { (jumping (jumper .green)).stu with greenFlash := some 15200, greenExpiry := some 15200 }
      dsp := { Display.fresh with countdownExpiry := some 15200 } },
    rfl, one_active _, fun _ _ _ => .inl rfl, rfl, rfl, rfl, rfl, rfl, rfl, rfl, by decide⟩

/-- A station frame's slot, open on its segment. -/
theorem open_slot (seg : Seg) (a : Byte) (k : StationKind) (e : StationEntry) (s : State)
    (h : s.heldInReset = false ∧ (s.seg seg).slot = some (slotOf s e) ∧ e.addr = a.toNat ∧ e.role.kind = k ∧
      (s.line (portFor seg)).dropping = false) :
    Slotted s seg a k (slotOf s e) := ⟨h.1, h.2.1, h.2.2.1, rfl, h.2.2.2.1, h.2.2.2.2⟩

theorem gate_present (s : State) (h : stationOfKind s.tables.stations .gate = some gateEntry ∧
      linkAt s.lsc.links 0x20 = some ⟨0x20, .present, 0, 0⟩) : StationPresent s .gate :=
  ⟨gateEntry, ⟨0x20, .present, 0, 0⟩, h.1, h.2, rfl⟩

theorem light_near (s : State) (h : stationOfKind s.tables.stations .light = some lightEntry ∧
      linkAt s.lsc.links 0x21 = some ⟨0x21, .present, 0, 0⟩) : ¬LightAway s :=
  fun hl => absurd (hl lightEntry _ h.1 h.2) (by decide)

theorem light_away (s : State) (h : s.lightAway = true) : LightAway s := by
  intro e l he hl
  simpa [State.lightAway, State.presenceOf, he, hl] using h

theorem witness_GateIsDebounced :
    (Slotted (slotted .T 0x20 round1) .T 0x20 .gate (slotOf (slotted .T 0x20 round1) gateEntry) ∧ (16 : Byte).toNat ≤ 40 ∧
      StationPresent (slotEnded .T 5600 (slotted .T 0x20 round1)) .gate ∧
      ¬(3 = 3 ∧ (16 : Byte).toNat ≠ 0 ∧ (slotEnded .T 5600 (slotted .T 0x20 round1)).stu.gate ≠ some (16 : Byte).toNat)) ∧
    (∃ s : State, Slotted s .T 0x20 .gate (slotOf s gateEntry) ∧ ¬StationPresent (slotEnded .T 5600 s) .gate) ∧
    (∃ s : State, Slotted s .T 0x20 .gate (slotOf s gateEntry) ∧ StationPresent (slotEnded .T 5600 s) .gate ∧
      (if (slotEnded .T 5600 s).stu.candidate = some (17 : Byte).toNat then
        min 3 ((slotEnded .T 5600 s).stu.candidateCount + 1) else 1) = 3 ∧
      (17 : Byte).toNat ≠ 0 ∧ (slotEnded .T 5600 s).stu.gate ≠ some (17 : Byte).toNat ∧
      OneActive (slotEnded .T 5600 s).jtb ∧ (slotEnded .T 5600 s).jtb.get 0 = some (jumper .green) ∧
      (jumper .green).state = .green) := by
  refine ⟨⟨open_slot _ _ _ _ _ (by decide), by decide, gate_present _ (by decide), by decide⟩,
    ⟨slotted .T 0x20 { round1 with lsc := { round1.lsc with links := round1.lsc.links.map fun l => { l with presence := .missing } } },
      open_slot _ _ _ _ _ (by decide), ?_⟩,
    ⟨slotted .T 0x20 { jumping (jumper .green) with
        stu := { (jumping (jumper .green)).stu with candidate := some 17, candidateCount := 2 } },
      open_slot _ _ _ _ _ (by decide), gate_present _ (by decide), by decide, by decide, by decide, one_active _, rfl, rfl⟩⟩
  rintro ⟨e, l, h1, h2, h3⟩
  have he : e = gateEntry := by
    have h : stationOfKind (slotEnded .T 5600 (slotted .T 0x20 { round1 with lsc := { round1.lsc with
      links := round1.lsc.links.map fun l => { l with presence := .missing } } })).tables.stations .gate = some gateEntry := by decide
    rw [h] at h1; exact (Option.some.inj h1).symm
  subst he
  have h : linkAt (slotEnded .T 5600 (slotted .T 0x20 { round1 with lsc := { round1.lsc with
      links := round1.lsc.links.map fun l => { l with presence := .missing } } })).lsc.links gateEntry.addr =
        some ⟨0x20, .missing, 0, 1⟩ := by decide
  rw [h] at h2
  rw [← Option.some.inj h2] at h3
  cases h3

theorem witness_GateLeftStartsRun :
    (Slotted (slotted .T 0x20 round1) .T 0x20 .gate (slotOf (slotted .T 0x20 round1) gateEntry) ∧ (16 : Byte).toNat ≤ 40 ∧
      (0x01 : Byte).toNat * 256 + (0x90 : Byte).toNat ≤ 9999 ∧
      ∀ k r, (State.takeGateReport 16 (slotEnded .T 5600 (slotted .T 0x20 round1))).jtb.get k = some r →
        r.state.onBar = true → atOrAfter 5400 r.clearTime = false) ∧
    ∀ x : RecState, x = .cleared ∨ x = .green ∨ x = .late →
      Slotted (slotted .T 0x20 (jumping (jumper x))) .T 0x20 .gate (slotOf (slotted .T 0x20 (jumping (jumper x))) gateEntry) ∧
      (∃ v, v = State.takeGateReport 16 (slotEnded .T 5600 (slotted .T 0x20 (jumping (jumper x)))) ∧
        OneActive v.jtb ∧ RecordsInRound v ∧ v.jtb.get 0 = some (jumper x) ∧ (jumper x).state.onBar = true ∧
        v.convert 4 400 = ⟨5400, false⟩ ∧ atOrAfter (5400 : Time) (jumper x).clearTime = true) := by
  refine ⟨⟨open_slot _ _ _ _ _ (by decide), by decide, by decide, fun k r h => ?_⟩, ?_⟩
  · have e : (State.takeGateReport 16 (slotEnded .T 5600 (slotted .T 0x20 round1))).jtb = ⟨none, none, none, none⟩ := by decide
    rw [e, empty_get] at h; cases h
  · rintro x (rfl | rfl | rfl) <;>
      exact ⟨open_slot _ _ _ _ _ (by decide), _, rfl, one_active _, fun _ _ _ => .inl rfl, rfl, rfl, by decide, by decide⟩

theorem witness_CoachAndEchoFrames :
    (∀ x : RecState, x = .cleared ∨ x = .green →
      Slotted (slotted .T 0x22 (jumping (jumper x))) .T 0x22 .coach (slotOf (slotted .T 0x22 (jumping (jumper x))) coachEntry) ∧
      (slotEnded .T 5600 (slotted .T 0x22 (jumping (jumper x)))).jtb.holding 12 = some (0, jumper x)) ∧
    (∀ k r, (slotEnded .T 5600 (slotted .T 0x22 (jumping (jumper .green)))).jtb.get k = some r → r.bib ≠ 31) ∧
    (Slotted (slotted .T 0x21 round1) .T 0x21 .light (slotOf (slotted .T 0x21 round1) lightEntry) ∧
      (1 : Byte).toNat = Lamp.red.code ∧ (slotOf (slotted .T 0x21 round1) lightEntry).lampSent = some .red ∧
      (3 : Byte).toNat = Lamp.green.code ∧ (slotOf (slotted .T 0x21 round1) lightEntry).lampSent ≠ some .green ∧
      (slotEnded .T 5600 (slotted .T 0x21 round1)).stu.echoRun = 0) ∧
    ¬LightAway (slotEnded .T 5600 (slotted .T 0x21 round1)) ∧
    (∃ s : State, Slotted s .T 0x21 .light (slotOf s lightEntry) ∧ 1 ≤ (slotEnded .T 5600 s).stu.echoRun ∧
      ¬LightAway (slotEnded .T 5600 s)) ∧
    ∃ slot : Slot, Slotted lightAbsent .T 0x21 .light slot ∧ slot.lampSent ≠ some .green ∧
      LightAway (slotEnded .T 5600 lightAbsent) := by
  refine ⟨?_, fun k r h => ?_, ⟨open_slot _ _ _ _ _ (by decide), by decide⟩, light_near _ (by decide),
    ⟨slotted .T 0x21 { round1 with stu := { round1.stu with echoRun := 1 } }, open_slot _ _ _ _ _ (by decide), by decide,
      light_near _ (by decide)⟩,
    { slotOf round1 lightEntry with frameBegun := false }, ⟨rfl, rfl, rfl, rfl, rfl, rfl⟩, by decide, light_away _ (by decide)⟩
  · rintro x (rfl | rfl) <;> exact ⟨open_slot _ _ _ _ _ (by decide), by decide⟩
  · have e : (slotEnded .T 5600 (slotted .T 0x22 (jumping (jumper .green)))).jtb = ⟨some (jumper .green), none, none, none⟩ := by
      decide
    rw [e, one_get] at h
    rw [h.2]; decide

theorem witness_StampsConvert :
    (((4 : Byte), (5000 : Time)) ∈ base.hck.marks ∧ ∀ x, ((4 : Byte), x) ∈ base.hck.marks → x = 5000) ∧
    ∀ t, ((9 : Byte), t) ∉ base.hck.marks := by
  refine ⟨⟨by decide, fun x h => ?_⟩, fun t h => ?_⟩ <;> simp [base] at h
  exact h

/-- The same hill later in the jump, after a cycle start at 20000. -/
def later (r : JumpRecord) : State := { jumping r with hck := ⟨20500, [(19, 20000)]⟩ }

theorem later_round (r : JumpRecord) : RecordsInRound (later r) := fun _ _ _ => .inl rfl

theorem witness_SpeedCellsMeasure :
    (∀ a : Option Time, a = none ∨ a = some 5350 →
      ∃ s : State, ∃ r : JumpRecord, Slotted s .T 0x23 .cellA (slotOf s cellAEntry) ∧ OneActive (slotEnded .T 5600 s).jtb ∧
        (slotEnded .T 5600 s).jtb.get 0 = some r ∧ r.state = .inRun ∧ r.cellATime = a ∧ r.gateLeftTime = some 5300 ∧
        atOrAfter (5400 : Time) 5300 = true ∧ (slotEnded .T 5600 s).convert 4 400 = ⟨5400, false⟩ ∧
        ∀ b ∈ (slotEnded .T 5600 s).flu.heldB, earlierThan (5400 : Time) b.time = false) ∧
    (∃ s : State, ∃ r : JumpRecord, Slotted s .T 0x23 .cellA (slotOf s cellAEntry) ∧ OneActive (slotEnded .T 5600 s).jtb ∧
        (slotEnded .T 5600 s).jtb.get 0 = some r ∧ r.state = .inRun ∧ r.cellATime = none ∧ r.gateLeftTime = some 5300 ∧
        atOrAfter (5400 : Time) 5300 = true ∧
        (slotEnded .T 5600 s).flu.heldB =
          [⟨5390, false⟩, ⟨5450, true⟩] ++ ⟨5420, false⟩ :: [⟨5420, true⟩, ⟨5500, false⟩] ∧
        earlierThan (5400 : Time) 5420 = true ∧ earlierThan (5400 : Time) 5390 = false ∧
        ((5420 : Time) - 5400).toNat < ((5450 : Time) - 5400).toNat) ∧
    (∃ s : State, ∃ r : JumpRecord, Slotted s .T 0x24 .cellB (slotOf s cellBEntry) ∧ OneActive (slotEnded .T 5600 s).jtb ∧
        (slotEnded .T 5600 s).jtb.get 0 = some r ∧ r.state = .inRun ∧ r.cellBTime = none ∧ r.cellATime = some 5350 ∧
        laterThan (5400 : Time) 5350 = true) ∧
    (∃ s : State, ∃ r : JumpRecord, Slotted s .T 0x24 .cellB (slotOf s cellBEntry) ∧ OneActive (slotEnded .T 5600 s).jtb ∧
        (slotEnded .T 5600 s).jtb.get 0 = some r ∧ r.state = .inRun ∧ r.cellBTime = none ∧ r.cellATime = none ∧
        r.gateLeftTime = some 5300 ∧ atOrAfter (5400 : Time) 5300 = true ∧ (slotEnded .T 5600 s).flu.heldB.length = 3) ∧
    (∃ s : State, ∃ r : JumpRecord, Slotted s .T 0x24 .cellB (slotOf s cellBEntry) ∧ OneActive (slotEnded .T 5600 s).jtb ∧
        (slotEnded .T 5600 s).jtb.get 0 = some r ∧ r.state = .inRun ∧ r.cellATime = none ∧
        4 ≤ (slotEnded .T 5600 s).flu.heldB.length) := by
  refine ⟨?_, ?_, ?_, ?_, ?_⟩
  · rintro a (rfl | rfl)
    · exact ⟨slotted .T 0x23 (jumping (jumper .inRun)), jumper .inRun, open_slot _ _ _ _ _ (by decide), one_active _, rfl,
        by decide⟩
    · exact ⟨slotted .T 0x23 (jumping { jumper .inRun with cellATime := some 5350 }), _, open_slot _ _ _ _ _ (by decide),
        one_active _, rfl, by decide⟩
  · exact ⟨slotted .T 0x23 { jumping (jumper .inRun) with flu := { FlightUnit.idle with
        heldB := [⟨5390, false⟩, ⟨5450, true⟩, ⟨5420, false⟩, ⟨5420, true⟩, ⟨5500, false⟩] } },
      jumper .inRun, open_slot _ _ _ _ _ (by decide), one_active _, rfl, by decide⟩
  · exact ⟨slotted .T 0x24 (jumping { jumper .inRun with cellATime := some 5350 }), _, open_slot _ _ _ _ _ (by decide),
      one_active _, rfl, by decide⟩
  · exact ⟨slotted .T 0x24 { jumping (jumper .inRun) with flu := { FlightUnit.idle with heldB := List.replicate 3 ⟨5450, false⟩ } },
      jumper .inRun, open_slot _ _ _ _ _ (by decide), one_active _, rfl, by decide⟩
  · exact ⟨slotted .T 0x24 { jumping (jumper .inRun) with flu := { FlightUnit.idle with heldB := List.replicate 4 ⟨5450, false⟩ } },
      jumper .inRun, open_slot _ _ _ _ _ (by decide), one_active _, rfl, by decide⟩

theorem witness_TakeoffStartsFlight :
    (∀ b : Option Time, b = none ∨ b = some 5450 →
      ∃ s : State, ∃ r : JumpRecord, Slotted s .T 0x25 .takeoff (slotOf s takeoffEntry) ∧ OneActive (slotEnded .T 5600 s).jtb ∧
        RecordsInRound (slotEnded .T 5600 s) ∧ (slotEnded .T 5600 s).jtb.get 0 = some r ∧ r.state = .inRun ∧
        r.gateLeftTime = some 5300 ∧ r.cellBTime = b ∧ atOrAfter (5400 : Time) 5300 = true ∧
        atOrAfter (5400 : Time) 5450 = false) ∧
    (∀ x : Option Time, x = none ∨ x = some 5400 →
      ∃ s : State, ∃ r : JumpRecord, Slotted s .T 0x25 .takeoff (slotOf s takeoffEntry) ∧ OneActive (slotEnded .T 5600 s).jtb ∧
        RecordsInRound (slotEnded .T 5600 s) ∧ (slotEnded .T 5600 s).jtb = ⟨some r, none, none, none⟩ ∧
        r.state = .held ∧ r.takeoffTime = x) := by
  refine ⟨?_, ?_⟩
  · rintro b (rfl | rfl)
    · exact ⟨slotted .T 0x25 (jumping (jumper .inRun)), _, open_slot _ _ _ _ _ (by decide), one_active _,
        fun _ _ _ => .inl rfl, rfl, by decide⟩
    · exact ⟨slotted .T 0x25 (jumping { jumper .inRun with cellBTime := some 5450 }), _, open_slot _ _ _ _ _ (by decide),
        one_active _, fun _ _ _ => .inl rfl, rfl, by decide⟩
  · rintro x (rfl | rfl)
    · exact ⟨slotted .T 0x25 (jumping { jumper .held with takeoffTime := none }), _, open_slot _ _ _ _ _ (by decide),
        one_active _, fun _ _ _ => .inl rfl, rfl, by decide⟩
    · exact ⟨slotted .T 0x25 (jumping (jumper .held)), _, open_slot _ _ _ _ _ (by decide), one_active _,
        fun _ _ _ => .inl rfl, rfl, by decide⟩

theorem witness_ContactsLand :
    ∃ s : State, ∃ d : DistanceEntry,
      Slotted s .S 0x48 .landing (slotOf s landingEntry) ∧ OneActive (slotEnded .S 20600 s).jtb ∧
      RecordsInRound (slotEnded .S 20600 s) ∧
      stationAt (slotEnded .S 20600 s).tables.stations 0x48 = some landingEntry ∧ landingEntry.role = .landing 8 64 ∧
      (slotEnded .S 20600 s).convert 19 400 = ⟨20400, false⟩ ∧
      (64 ≤ (64 : Byte).toNat ∧ ∀ x ∈ (slotEnded .S 20600 s).tables.distance, ¬(x.moduleIndex = 8 ∧ x.sensor = 63)) ∧
      ((30 : Byte).toNat < 64 ∧ (slotEnded .S 20600 s).tables.distance.find?
        (fun x => decide (x.moduleIndex = 8 ∧ x.sensor = (30 : Byte).toNat)) = some d) ∧
      (∀ x : RecState, x = .flight ∨ x = .landing →
        ∃ v : State, Slotted v .S 0x48 .landing (slotOf v landingEntry) ∧ OneActive (slotEnded .S 20600 v).jtb ∧
          RecordsInRound (slotEnded .S 20600 v) ∧ (slotEnded .S 20600 v).jtb.get 0 = some (jumper x) ∧
          (jumper x).takeoffTime = some 5400 ∧ (slotEnded .S 20600 v).flu.candidate = some ⟨20400, 252⟩ ∧
          inWindow (20400 : Time) (after 5400 ((slotEnded .S 20600 v).tables.hill.flightMin * 10))
            (after 5400 ((slotEnded .S 20600 v).tables.hill.flightMax * 10)) = true ∧
          ((20400 : Time) = 20400 ∧ d.distance < 252) ∧
          ¬(earlierThan (20401 : Time) 20400 = true ∨ ((20401 : Time) = 20400 ∧ d.distance < 252))) ∧
      (∀ k r t0, (slotEnded .S 20600 s).jtb.get k = some r → r.state = .flight ∨ r.state = .landing →
        r.takeoffTime = some t0 →
        inWindow (15399 : Time) (after t0 ((slotEnded .S 20600 s).tables.hill.flightMin * 10))
          (after t0 ((slotEnded .S 20600 s).tables.hill.flightMax * 10)) = false) := by
  refine ⟨slotted .S 0x48 (later (jumper .flight)), ⟨8, 30, 251⟩, open_slot _ _ _ _ _ (by decide), one_active _,
    fun _ _ _ => .inl rfl, by decide, by decide, by decide, by decide, by decide, ?_, ?_⟩
  · rintro x (rfl | rfl)
    · exact ⟨slotted .S 0x48 { later (jumper .flight) with flu := { FlightUnit.idle with candidate := some ⟨20400, 252⟩ } },
        open_slot _ _ _ _ _ (by decide), one_active _, fun _ _ _ => .inl rfl, rfl, by decide⟩
    · exact ⟨slotted .S 0x48 { later (jumper .landing) with flu := { FlightUnit.idle with candidate := some ⟨20400, 252⟩ } },
        open_slot _ _ _ _ _ (by decide), one_active _, fun _ _ _ => .inl rfl, rfl, by decide⟩
  · intro k r t0 h hs ht
    have e : (slotEnded .S 20600 (slotted .S 0x48 (later (jumper .flight)))).jtb = ⟨some (jumper .flight), none, none, none⟩ := by
      decide
    rw [e, one_get] at h
    rw [h.2] at ht
    rw [← Option.some.inj ht]; decide

theorem witness_InRunExpiryHolds :
    ∃ s : State, ∃ r : JumpRecord, s.heldInReset = false ∧ OneActive s.jtb ∧ RecordsInRound s ∧
      s.flu.inRunExpiry = some 20600 ∧ s.jtb.get 0 = some r ∧ r.state = .inRun ∧ 1 ≤ s.tables.hill.marksWindow ∧
      s.tables.hill.marksWindow ≤ 120 ∧ r.finalDistance = none ∧ r.marksLocked = false ∧ r.marksOverdue = false ∧
      s.enables.jump = true ∧ s.office.count < 60 :=
  ⟨{ later (jumper .inRun) with flu := { FlightUnit.idle with inRunExpiry := some 20600 } }, _, rfl, one_active _,
    later_round _, rfl, rfl, by decide⟩

theorem witness_MeasuringIsEntered :
    (∀ n, n = 1 ∨ n = 2 →
      ∃ s : State, s.heldInReset = false ∧ OneActive s.jtb ∧ RecordsInRound s ∧ s.jtb.get 0 = some (jumper .landing) ∧
        (jumper .landing).takeoffTime = some 5400 ∧ s.hck.marks = (19, 20000) :: [] ∧ 1 ≤ s.tables.hill.confirmWindow ∧
        (jumper .landing).windCloseDone = false ∧ (jumper .landing).finalDistance = none ∧
        (jumper .landing).landingTime = none ∧ (jumper .landing).state = .landing ∧
        s.flu.candidate = some ⟨19000, 251⟩ ∧ s.flu.settleCount = n ∧
        (jumper .landing).marksLocked = false ∧ laterThan (after 19000 (s.tables.hill.marksWindow * 10000)) 20000 = true) ∧
    (∀ locked now, (locked = true ∧ now = 20000) ∨ (locked = false ∧ now = 400000) →
      ∃ s : State, ∃ r : JumpRecord, s.heldInReset = false ∧ OneActive s.jtb ∧ RecordsInRound s ∧ s.jtb.get 0 = some r ∧
        r.takeoffTime = some 5400 ∧ s.hck.marks = (19, now) :: [] ∧ 1 ≤ s.tables.hill.confirmWindow ∧
        r.windCloseDone = false ∧ r.finalDistance = none ∧ r.landingTime = none ∧ r.marksLocked = locked ∧ r.state = .landing ∧
        s.flu.candidate = some ⟨19000, 251⟩ ∧ s.flu.settleCount = 2 ∧
        (locked = false → laterThan (after 19000 (s.tables.hill.marksWindow * 10000)) now = false)) ∧
    (∀ t : Time, t = 87000 ∨ t = 88000 →
      ∃ s : State, s.heldInReset = false ∧ OneActive s.jtb ∧ RecordsInRound s ∧ s.jtb.get 0 = some (jumper .flight) ∧
        s.hck.marks = (86, t) :: [] ∧ (jumper .flight).state = .flight ∧
        (atOrAfter t (after 5400 (s.tables.hill.flightMax * 10 + 2000)) = true ↔ t = 88000)) ∧
    ∀ d : Option Nat, d = none ∨ d = some 251 →
      ∃ s : State, s.heldInReset = false ∧ OneActive s.jtb ∧ RecordsInRound s ∧
        s.jtb.get 0 = some { jumper .flight with preliminary := d } ∧ s.hck.marks = (86, 88000) :: [] ∧
        s.tables.hill.confirmWindow = 0 ∧ s.enables.jump = true ∧ s.office.count + 2 < 60 ∧
        atOrAfter (88000 : Time) (after 5400 (s.tables.hill.flightMax * 10 + 2000)) = true := by
  refine ⟨?_, ?_, ?_, ?_⟩
  · rintro n (rfl | rfl) <;>
      exact ⟨{ later (jumper .landing) with flu := ⟨[], none, some ⟨19000, 251⟩, 18500, _⟩ }, rfl, one_active _,
        later_round _, rfl, rfl, rfl, by decide, rfl, rfl, rfl, rfl, rfl, rfl, rfl, by decide⟩
  · rintro locked now (⟨rfl, rfl⟩ | ⟨rfl, rfl⟩)
    · exact ⟨{ later { jumper .landing with marksLocked := true } with flu := ⟨[], none, some ⟨19000, 251⟩, 18500, 2⟩ }, _, rfl,
        one_active _, later_round _, rfl, by decide⟩
    · exact ⟨{ jumping (jumper .landing) with
          hck := ⟨400500, [(19, 400000)]⟩, flu := ⟨[], none, some ⟨19000, 251⟩, 18500, 2⟩ }, _, rfl,
        one_active _, fun _ _ _ => .inl rfl, rfl, by decide⟩
  · rintro t (rfl | rfl) <;>
      exact ⟨{ jumping (jumper .flight) with hck := ⟨87500, [(86, _)]⟩ }, rfl, one_active _, fun _ _ _ => .inl rfl, rfl, rfl,
        rfl, by decide⟩
  · rintro d (rfl | rfl) <;>
      exact ⟨{ jumping { jumper .flight with preliminary := _ } with
          hck := ⟨88500, [(86, 88000)]⟩, tables := { base.tables with hill := { HillTable.defaults with confirmWindow := 0 } } },
        rfl, one_active _, fun _ _ _ => .inl rfl, rfl, rfl, rfl, rfl, by decide, by decide⟩

theorem witness_WindCloseListsMeans :
    ∀ (x : Option Time) (d : Option Nat), x = some 18000 ∨ x = some 19500 →
      ∃ s : State, ∃ r : JumpRecord, s.heldInReset = false ∧ s.jtb.get 0 = some r ∧ r.state = .measuring ∧
        r.takeoffTime = some 5400 ∧ r.landingTime = x ∧ r.windCloseDone = false ∧ r.finalDistance = d ∧
        s.hck.marks = (19, 20000) :: [] ∧
        (atOrAfter (20000 : Time) (after (x.getD 0) 1000) = true ↔ x = some 18000) := by
  rintro x d (rfl | rfl)
  · exact ⟨later { jumper .measuring with landingTime := some 18000, finalDistance := d }, _, rfl, rfl, rfl, rfl, rfl, rfl, rfl,
      rfl, by decide⟩
  · exact ⟨later { jumper .measuring with landingTime := some 19500, finalDistance := d }, _, rfl, rfl, rfl, rfl, rfl, rfl, rfl,
      rfl, by decide⟩

/-- A record of every kind that takes a final distance. -/
def measured (done locked overdue : Bool) : JumpRecord :=
  { jumper .measuring with windCloseDone := done, marksLocked := locked, marksOverdue := overdue }

theorem witness_FinalDistanceTaken :
    (∀ done locked overdue : Bool,
      Listens (later (measured done locked overdue)) ∧
      FirstOf
        [(¬(1 ≤ (12 : Half).toNat ∧ (12 : Half).toNat ≤ 999) ∨ 600 < (600 : Half).toNat, .badValue),
          (∀ k r, (later (measured done locked overdue)).jtb.get k = some r → r.bib ≠ (12 : Half).toNat, .notFound),
          (∀ k r, (later (measured done locked overdue)).jtb.holding (12 : Half).toNat = some (k, r) →
            ¬((r.state = .measuring ∧ r.finalDistance = none) ∨ (r.state = .held ∧ r.needs.distance = true)),
            .wrongState)] none ∧
      (later (measured done locked overdue)).jtb.holding (12 : Half).toNat = some (0, measured done locked overdue)) ∧
    (∃ s : State, Slotted s .S 0x58 .dist (slotOf s distEntry) ∧ (0 : Byte).toNat * 256 + (12 : Byte).toNat = 12 ∧
      (0x02 : Byte).toNat * 256 + (0x58 : Byte).toNat = 600 ∧
      (slotEnded .S 20600 s).jtb.holding 12 = some (0, measured true true false)) ∧
    (∃ s : State, Slotted s .S 0x58 .dist (slotOf s distEntry) ∧
      ∀ k r, (slotEnded .S 20600 s).jtb.holding 12 = some (k, r) →
        ¬((r.state = .measuring ∧ r.finalDistance = none) ∨ (r.state = .held ∧ r.needs.distance = true))) := by
  refine ⟨fun done locked overdue => ?_,
    ⟨slotted .S 0x58 (later (measured true true false)), open_slot _ _ _ _ _ (by decide), by decide⟩,
    slotted .S 0x58 (later (jumper .marking)), open_slot _ _ _ _ _ (by decide), ?_⟩
  · have h : (later (measured done locked overdue)).jtb.holding (12 : Half).toNat = some (0, measured done locked overdue) := by
      cases done <;> cases locked <;> cases overdue <;> decide
    refine ⟨⟨⟨rfl, rfl, (by decide : (0 : Nat) < 64)⟩, rfl⟩, .inr ⟨by decide, .inr ⟨fun g => g 0 _ rfl rfl, .inr ⟨fun g => ?_, rfl⟩⟩⟩, h⟩
    exact g _ _ h (.inl ⟨rfl, rfl⟩)
  · intro k r h
    have e : (slotEnded .S 20600 (slotted .S 0x58 (later (jumper .marking)))).jtb.holding 12 = some (0, jumper .marking) := by
      decide
    rw [e] at h
    rw [← (Prod.mk.inj (Option.some.inj h)).2]; decide

theorem witness_WindowsEnd :
    (∃ s : State, ∃ r : JumpRecord, s.heldInReset = false ∧ s.jtb.get 0 = some r ∧ r.state = .measuring ∧
      r.confirmExpiry = some 20600 ∧ r.finalDistance = none ∧ s.tables.hill.autoConfirm = true ∧ r.preliminary = some 251) ∧
    (∃ s : State, ∃ r : JumpRecord, s.heldInReset = false ∧ s.jtb.get 0 = some r ∧ r.state = .measuring ∧
      r.confirmExpiry = some 20600 ∧ r.finalDistance = none ∧ r.preliminary = none ∧ s.enables.jump = true ∧
      s.office.count < 60) ∧
    ∀ x : RecState, x = .marking ∨ x = .held ∨ x = .measuring →
      ∃ s : State, ∃ r : JumpRecord, s.heldInReset = false ∧ s.jtb.get 0 = some r ∧ r.marksExpiry = some 20600 ∧
        r.marksLocked = false ∧ r.state = x ∧ r.needs.marks = false ∧ s.enables.jump = true ∧ s.office.count < 60 := by
  refine ⟨⟨later { jumper .measuring with confirmExpiry := some 20600, preliminary := some 251 }, _, rfl, rfl, by decide⟩,
    ⟨later { jumper .measuring with confirmExpiry := some 20600 }, _, rfl, rfl, by decide⟩, ?_⟩
  rintro x (rfl | rfl | rfl)
  · exact ⟨later { jumper .marking with marksExpiry := some 20600 }, _, rfl, rfl, by decide⟩
  · exact ⟨later { jumper .held with marksExpiry := some 20600 }, _, rfl, rfl, by decide⟩
  · exact ⟨later { jumper .measuring with marksExpiry := some 20600 }, _, rfl, rfl, by decide⟩

/-- Four seats with a mark. -/
def fourMarks : Marks := ⟨some 37, some 36, some 37, some 38, none⟩

theorem witness_MarksAreTaken :
    (∀ r : JumpRecord, r = jumper .landing ∨ r = { jumper .marking with marks := fourMarks } ∨
        r = { jumper .held with marks := fourMarks } ∨
        r = { jumper .held with marks := fourMarks, finalDistance := some 250, windCloseDone := true } →
      Listens (later r) ∧
      FirstOf
        [(¬(1 ≤ (12 : Half).toNat ∧ (12 : Half).toNat ≤ 999) ∨ ¬(1 ≤ (5 : Byte).toNat ∧ (5 : Byte).toNat ≤ 5) ∨
            40 < (40 : Byte).toNat, .badValue),
          (∀ k r', (later r).jtb.get k = some r' → r'.bib ≠ (12 : Half).toNat, .notFound),
          (∀ k r', (later r).jtb.holding (12 : Half).toNat = some (k, r') →
            r'.marksLocked = true ∨
              ¬(r'.state = .landing ∨ r'.state = .measuring ∨ r'.state = .marking ∨ r'.state = .held), .wrongState)] none ∧
      (later r).jtb.holding (12 : Half).toNat = some (0, r)) ∧
    (∃ s : State, Slotted s .S 0x50 (.judge) (slotOf s judgeEntry) ∧
      stationAt (slotEnded .S 20600 s).tables.stations 0x50 = some judgeEntry ∧ judgeEntry.role = .judge 1 ∧
      (slotEnded .S 20600 s).jtb.holding 12 = some (0, jumper .landing) ∧ (jumper .landing).marksLocked = false) ∧
    (∃ s : State, Slotted s .S 0x50 (.judge) (slotOf s judgeEntry) ∧
      ∀ k r, (slotEnded .S 20600 s).jtb.holding 12 = some (k, r) → r.marksLocked = true ∨
        ¬(r.state = .landing ∨ r.state = .measuring ∨ r.state = .marking ∨ r.state = .held)) := by
  refine ⟨?_, ⟨slotted .S 0x50 (later (jumper .landing)), open_slot _ _ _ _ _ (by decide), by decide⟩,
    slotted .S 0x50 (later (jumper .flight)), open_slot _ _ _ _ _ (by decide), ?_⟩
  · intro r hr
    have h : (later r).jtb.holding (12 : Half).toNat = some (0, r) := by
      rcases hr with rfl | rfl | rfl | rfl <;> decide
    refine ⟨⟨⟨rfl, rfl, (by decide : (0 : Nat) < 64)⟩, rfl⟩,
      .inr ⟨by decide, .inr ⟨fun g => ?_, .inr ⟨fun g => ?_, rfl⟩⟩⟩, h⟩
    · exact g 0 r rfl (by rcases hr with rfl | rfl | rfl | rfl <;> decide)
    · exact absurd (g _ _ h) (by rcases hr with rfl | rfl | rfl | rfl <;> decide)
  · intro k r h
    have e : (slotEnded .S 20600 (slotted .S 0x50 (later (jumper .flight)))).jtb.holding 12 = some (0, jumper .flight) := by decide
    rw [e] at h
    rw [← (Prod.mk.inj (Option.some.inj h)).2]; decide

theorem witness_FifthMarkScores :
    ∀ early : Bool, ∃ s : State, ∃ r : JumpRecord, Listens s ∧ s.jtb.holding (12 : Half).toNat = some (0, r) ∧
      r.state = .marking ∧ r.marksLocked = false ∧ r.finalDistance = some 253 ∧ r.flags.early = early ∧
      r.flags.reinstated = false ∧ r.flags.late = false ∧
      (r.marks.set (5 : Byte).toNat (35 : Byte).toNat).held = 5 ∧ s.stu.roundReference = some 14 ∧
      s.enables.jump = true ∧ s.enables.result = true ∧ s.office.count + 3 < 60 ∧ s.results ≠ [] ∧
      s.results.Pairwise StandsBefore := by
  intro early
  have h : ∀ b : Bool, (fourMarks.set (5 : Byte).toNat (35 : Byte).toNat).held = 5 ∧
      (later (jumper .marking)).office.count + 3 < 60 := by decide
  exact ⟨{ later { jumper .marking with
      marks := fourMarks, finalDistance := some 253, flags := { RecFlags.none with early := early } } with
      stu := { (later (jumper .marking)).stu with roundReference := some 14 }
      results := [⟨31, some 900, none, .ok, none⟩] }, _,
    ⟨⟨rfl, rfl, (by decide : (0 : Nat) < 64)⟩, rfl⟩, rfl, rfl, rfl, rfl, rfl, rfl, rfl, (h early).1, rfl, rfl, rfl, (h early).2,
    by simp, List.pairwise_singleton _ _⟩

theorem witness_ScorePartsAndWind :
    (∀ w : Option Int, w = none ∨ w = some 0 ∨ w = some (-1) →
      HillTable.defaults.m % 2 = 0 ∧ ∃ r : JumpRecord, r.gate = some 16 ∧ r.windValue = w ∧
        r.marks = ⟨some 40, some 0, some 37, some 38, some 35⟩ ∧ r.coachRequest = true ∧
        (if r.coachRequest = true ∧ 265 < HillTable.defaults.coachThreshold then r.juryGate else some 16) = some 15 ∧
        (if r.coachRequest = true ∧ 266 < HillTable.defaults.coachThreshold then r.juryGate else some 16) = some 16) ∧
    included stations [⟨0, 40, 3⟩] 100 ≠ [] ∧ included stations [⟨9, 40, 3⟩] 100 = [] := by
  refine ⟨?_, by decide, by decide⟩
  rintro w (rfl | rfl | rfl) <;>
    exact ⟨by decide, { jumper .marking with
      marks := ⟨some 40, some 0, some 37, some 38, some 35⟩, coachRequest := true, juryGate := some 15, windValue := _ },
      rfl, rfl, rfl, rfl, rfl, rfl⟩

theorem witness_DivisionRounds : 0 < 2 ∧ (-16 : Int) = roundDiv (-31) 2 ∧ ((-31 : Int) - -16 * 2).natAbs = (-31 - -15 * 2 : Int).natAbs := by
  decide

/-- Round 1 with a record of bib 12 and a result entry of bib 31. -/
def judged : State := { jumping (jumper .green) with results := [⟨31, some 900, none, .ok, none⟩] }

theorem witness_DisqualifyMarksEntry :
    Listens judged ∧
    (∀ b : Half, b = 12 ∨ b = 31 → FirstOf
      [(¬(1 ≤ b.toNat ∧ b.toNat ≤ 999), .badValue),
        ((∀ k r, judged.jtb.get k = some r → r.bib ≠ b.toNat) ∧ ∀ e ∈ judged.results, e.bib ≠ b.toNat, .notFound)] none) ∧
    (judged.jtb.holding 12 = some (0, jumper .green) ∧ entryOf judged.results 12 = none ∧ judged.enables.jump = true ∧
      judged.office.count + 1 < 60 ∧ (jumper .green).state.onBar = true) ∧
    (entryOf judged.results 31 = some ⟨31, some 900, none, .ok, none⟩ ∧ ∀ k r, judged.jtb.get k = some r → r.bib ≠ 31) ∧
    ∃ s : State, Listens s ∧ (∃ e ∈ s.results, e.bib = 31) ∧ entryOf s.results 31 = some ⟨31, some 900, none, .dsq, none⟩ := by
  refine ⟨⟨⟨rfl, rfl, (by decide : (0 : Nat) < 64)⟩, rfl⟩, ?_, by decide, ⟨by decide, fun k r h => ?_⟩,
    { judged with results := [⟨31, some 900, none, .dsq, none⟩] }, ⟨⟨rfl, rfl, (by decide : (0 : Nat) < 64)⟩, rfl⟩, by decide⟩
  · rintro b (rfl | rfl)
    · exact .inr ⟨by decide, .inr ⟨fun g => g.1 0 _ rfl rfl, rfl⟩⟩
    · exact .inr ⟨by decide, .inr ⟨fun g => g.2 ⟨31, some 900, none, .ok, none⟩ (by decide) rfl, rfl⟩⟩
  · rw [(one_get.mp h).2]; decide

theorem witness_ReinstateSetsFlag :
    ∃ s : State, ∃ r : JumpRecord, Listens s ∧
      FirstOf
        [(¬(1 ≤ (12 : Half).toNat ∧ (12 : Half).toNat ≤ 999), .badValue),
          (∀ k r', s.jtb.get k = some r' → r'.bib ≠ (12 : Half).toNat, .notFound),
          (∀ k r', s.jtb.holding (12 : Half).toNat = some (k, r') → r'.flags.early = false ∧ r'.flags.late = false,
            .wrongState)] none ∧
      s.jtb.holding (12 : Half).toNat = some (0, r) ∧ r.flags.early = true ∧
      ({ r with flags := { r.flags with reinstated := true } } : JumpRecord).flags.reinstated = true := by
  refine ⟨jumping { jumper .inRun with flags := { RecFlags.none with early := true } }, _, jumping_listens _,
    .inr ⟨by decide, .inr ⟨fun g => g 0 _ rfl rfl, .inr ⟨fun g => ?_, rfl⟩⟩⟩, rfl, rfl, rfl⟩
  have h := (g 0 { jumper .inRun with flags := { RecFlags.none with early := true } } rfl).1
  simp at h

theorem witness_LoadBufferFills :
    Listens base ∧
    (∀ n : Half, n = 1 ∨ n = 4098 → FirstOf
      [(¬(1 ≤ (6 : Byte).toNat ∧ (6 : Byte).toNat ≤ 6) ∨ ¬(1 ≤ n.toNat ∧ n.toNat ≤ 4098), .badValue)] none) ∧
    (1 ≤ ([0xAA] : List Byte).length ∧ ([0xAA] : List Byte).length ≤ 117 ∧ base.loadBuffer = none) ∧
    (∃ s : State, Listens s ∧ s.loadBuffer = some ⟨.schedT, 5, [0, 0, 0]⟩) ∧
    (FirstOf [((3 : Nat) < (3 : Half).toNat, .badValue), (5 < (3 : Half).toNat + 2, .badValue)] none ∧
      FirstOf [((3 : Nat) < (1 : Half).toNat, .badValue), (5 < (1 : Half).toNat + 1, .badValue)] none ∧
      FirstOf [((3 : Nat) < (4 : Half).toNat, .badValue), (5 < (4 : Half).toNat + 1, .badValue)] (some .badValue) ∧
      FirstOf [((3 : Nat) < (3 : Half).toNat, .badValue), (5 < (3 : Half).toNat + 3, .badValue)] (some .badValue)) := by
  refine ⟨base_listens, ?_, by decide,
    ⟨{ base with loadBuffer := some ⟨.schedT, 5, [0, 0, 0]⟩ }, ⟨⟨rfl, rfl, (by decide : (0 : Nat) < 64)⟩, rfl⟩, rfl⟩,
    .inr ⟨by decide, .inr ⟨by decide, rfl⟩⟩, .inr ⟨by decide, .inr ⟨by decide, rfl⟩⟩, .inl ⟨by decide, rfl⟩,
    .inr ⟨by decide, .inl ⟨by decide, rfl⟩⟩⟩
  rintro n (rfl | rfl) <;> exact .inr ⟨by decide, rfl⟩

/-- PREPARE with a load buffer. -/
def loading (b : LoadBuffer) : State := { base with loadBuffer := some b }

theorem loading_listens (b : LoadBuffer) : Listens (loading b) := ⟨⟨rfl, rfl, (by decide : (0 : Nat) < 64)⟩, rfl⟩

/-- Nothing refuses a table in PREPARE with empty lists. -/
theorem swap_unrefused (b : LoadBuffer) (x : LoadedTable) :
    FirstOf
      [(RoundOpen (loading b) ∧ ((∃ h, x = .hill h) ∨ ∃ d, x = .distance d), .locked),
        (RoundOpen (loading b) ∧ ∃ n, x = .stations n ∧
          ¬∀ w, w ∈ windPlaces n ↔ w ∈ windPlaces (loading b).tables.stations, .locked),
        (∃ c, x = .competitors c ∧
          ∃ bib, (bib ∈ (loading b).startList ∨ bib ∈ recordBibs (loading b) ∨ ∃ e ∈ (loading b).results, e.bib = bib) ∧
            ∀ y ∈ c, y.bib ≠ bib, .wrongState)] none := by
  have ho : ¬RoundOpen (loading b) := by simp [RoundOpen, loading, base, State.reset]
  refine .inr ⟨fun h => ho h.1, .inr ⟨fun h => ho h.1, .inr ⟨?_, rfl⟩⟩⟩
  rintro ⟨c, -, bib, h | h | ⟨e, h, -⟩, -⟩ <;> cases h

/-- The stations without the light. -/
def darkened : List StationEntry := stations.filter fun e => decide (e.role.kind ≠ .light)

/-- A table of each kind loaded whole, in PREPARE, and a STATIONS table that drops the light in an open round. -/
theorem witness_LoadEndSwapsTable :
    (Listens base ∧ base.loadBuffer = none) ∧
    (∃ s : State, Listens s ∧ s.loadBuffer = some ⟨.schedT, 5, [0]⟩ ∧ s.engine ≠ none) ∧
    (Listens (loading ⟨.schedT, 5, [0]⟩) ∧ (loading ⟨.schedT, 5, [0]⟩).engine = none ∧ ([0] : List Byte).length < 5) ∧
    (∀ y : TableCode × List Byte × LoadedTable,
      y ∈ [(.schedT, schedImage base.tables.schedT, .schedT base.tables.schedT),
        (.schedS, schedImage base.tables.schedS, .schedS base.tables.schedS),
        (.distance, distanceImage base.tables.distance, .distance base.tables.distance),
        (.competitors, competitorsImage competitors, .competitors competitors),
        (.hill, HillTable.defaults.image, .hill .defaults), (.stations, stationsImage stations, .stations stations)] →
      Listens (loading ⟨y.1, y.2.1.length, y.2.1⟩) ∧ (loading ⟨y.1, y.2.1.length, y.2.1⟩).engine = none ∧
        y.2.1.length ≤ y.2.1.length ∧ tableOfImage base.tables.stations y.1 y.2.1 = some y.2.2) ∧
    (∃ s : State, Listens s ∧ s.loadBuffer = some ⟨.hill, HillTable.defaults.image.length, HillTable.defaults.image⟩ ∧
      s.engine = none ∧ RoundOpen s) ∧
    ∃ s : State, ∃ n : List StationEntry, Listens s ∧ RoundOpen s ∧ s.engine = none ∧
      s.loadBuffer = some ⟨.stations, (stationsImage n).length, stationsImage n⟩ ∧
      tableOfImage s.tables.stations .stations (stationsImage n) = some (.stations n) ∧
      windPlaces n = windPlaces s.tables.stations ∧ lightEntry ∈ s.tables.stations ∧ ¬StandsIn n lightEntry ∧
      StandsIn n gateEntry ∧ linkAt s.lsc.links lightEntry.addr = some ⟨0x21, .present, 0, 0⟩ ∧ OneActive s.jtb ∧
      s.jtb.get 0 = some (jumper .cleared) ∧ (s.seg .T).slot = some (slotOf s lightEntry) ∧
      s.office.count + 1 + 4 * s.tables.stations.length < 60 ∧ LightAway (ran (.loadEnd 5600 0) s) ∧
      ¬LightAway (ran (.loadEnd 5600 0) (loading ⟨.stations, (stationsImage stations).length, stationsImage stations⟩)) := by
  refine ⟨⟨base_listens, rfl⟩,
    ⟨{ loading ⟨.schedT, 5, [0]⟩ with engine := some ⟨base.storedItems, 5000⟩ }, ⟨⟨rfl, rfl, (by decide : (0 : Nat) < 64)⟩, rfl⟩,
      by decide, by decide⟩, ⟨loading_listens _, by decide⟩, fun y hy => ⟨loading_listens _, rfl, Nat.le_refl _, ?_⟩,
    ⟨{ round1 with loadBuffer := some ⟨.hill, HillTable.defaults.image.length, HillTable.defaults.image⟩ },
    ⟨⟨rfl, rfl, (by decide : (0 : Nat) < 64)⟩, rfl⟩, rfl, rfl, .inl rfl⟩,
    { slotted .T 0x21 (jumping (jumper .cleared)) with
      loadBuffer := some ⟨.stations, (stationsImage darkened).length, stationsImage darkened⟩ },
    darkened, ⟨⟨rfl, rfl, (by decide : (0 : Nat) < 64)⟩, rfl⟩, .inl rfl, rfl, rfl, by decide +kernel, by decide, by decide, ?_,
    ⟨gateEntry, by decide⟩, by decide, one_active _, rfl, by decide, by decide, light_away _ (by decide +kernel),
    light_near _ (by decide +kernel)⟩
  rotate_left
  · rintro ⟨x, h, -⟩
    have h' : stationAt darkened lightEntry.addr = none := by decide
    rw [h'] at h; cases h
  simp only [List.mem_cons, List.not_mem_nil, or_false] at hy
  rcases hy with rfl | rfl | rfl | rfl | rfl | rfl <;> decide +kernel

theorem witness_TableImagesRoundTrip :
    stationsValid stations = true ∧ schedValid stations .T [⟨0x20, 1, 0⟩] = true ∧ HillTable.defaults.valid = true ∧
      distanceValid base.tables.distance = true ∧ competitorsValid competitors = true := by decide +kernel

/-- A store in flight since hill time 5000. -/
def storing : State := { base with engine := some ⟨base.storedItems, 5000⟩ }

theorem witness_StoreWritesItems :
    (Listens base ∧ FirstOf [(base.engine ≠ none, .busy)] none ∧ FirstOf [(storing.engine ≠ none, .busy)] (some .busy)) ∧
    (storing.heldInReset = false ∧ storing.engine = some ⟨base.storedItems, 5000⟩ ∧ ((9000 : Time) - 5000).toNat ≤ 4000 ∧
      storing.conditions.storeResult.i = false ∧
      (⟨true, true, true, false, true, true⟩ : StoreOutcome) ≠ ⟨true, true, true, true, true, true⟩) :=
  ⟨⟨base_listens, .inr ⟨by decide, rfl⟩, .inl ⟨by decide, rfl⟩⟩, by decide⟩

/-- A record of bib 31 created after that of bib 12. -/
def second (clearTime : Time) : JumpRecord := { jumper .cleared with serial := 1, bib := 31, clearTime := clearTime }

theorem witness_ResetTakesEffect :
    (Listens base ∧ (1 : Byte).toNat = 1 ∧ (2 : Byte).toNat = 2 ∧ ¬((0 : Byte).toNat = 1 ∨ (0 : Byte).toNat = 2) ∧
      ¬((3 : Byte).toNat = 1 ∨ (3 : Byte).toNat = 2)) ∧
    (∀ c sent : Bool, ∃ s : State, s.heldInReset = false ∧ s.engine = none ∧ s.takenReset = some ⟨c, sent⟩ ∧ RoundOpen s) ∧
    (∃ s : State, s.heldInReset = false ∧ s.engine ≠ none ∧ s.takenReset = some ⟨false, true⟩) ∧
    (∃ s : State, s.heldInReset = false ∧ s.engine = none ∧ s.takenReset = some ⟨false, true⟩ ∧ ¬RoundOpen s ∧
      s.store.stations = .stored stations ∧ s.store.schedT = .stored [] ∧ ∀ x, s.store.distance ≠ .stored x) ∧
    ∀ second : Time, second = 6100 ∨ second = 2147488748 →
      ∃ s : State, ∃ a b : JumpRecord, s.heldInReset = false ∧ s.engine = none ∧ s.takenReset = some ⟨false, true⟩ ∧
        s.jtb.records.map (·.2) = [b, a] ∧ a.serial < b.serial ∧ laterThan b.clearTime a.clearTime = true ∧
        b.clearTime = second ∧ ([b, a].map (·.clearTime)).Nodup ∧
        (second = 6100 → ∀ r ∈ [b, a], (r.clearTime - 5000).toNat < 2147483648) := by
  refine ⟨⟨base_listens, by decide⟩, fun c sent => ⟨{ round1 with takenReset := some ⟨c, sent⟩ }, rfl, rfl, rfl, .inl rfl⟩,
    ⟨{ storing with takenReset := some ⟨false, true⟩ }, by decide⟩,
    ⟨{ base with
        takenReset := some ⟨false, true⟩
        store := ⟨.stored stations, .stored [], .unwritten, .unwritten, .failing, .unwritten⟩ },
      rfl, rfl, rfl, by simp [RoundOpen, base, State.reset], rfl, rfl, fun _ h => (by cases h)⟩, ?_⟩
  rintro second (rfl | rfl)
  · exact ⟨{ round1 with takenReset := some ⟨false, true⟩, jtb := ⟨some (second 6100), some (jumper .held), none, none⟩ },
      jumper .held, second 6100, rfl, rfl, rfl, rfl, by decide⟩
  · exact ⟨{ round1 with takenReset := some ⟨false, true⟩, jtb := ⟨some (second 2147488748), some (jumper .held), none, none⟩ },
      jumper .held, second 2147488748, rfl, rfl, rfl, rfl, by decide⟩

theorem witness_PowerOnResets :
    (base.engine = none ∧ storing.engine = some ⟨base.storedItems, 5000⟩ ∧ 0 < (1 : Fin 7).val ∧ 5 < (6 : Fin 7).val ∧
      5 = (5 : Fin 7).val ∧ 0 = (0 : Fin 7).val ∧ (0 : Fin 7).val < 1 ∧ (4 : Fin 7).val < 5) ∧
    (({ base with heldInReset := true } : State).heldInReset = true ∧ Instr.ready 300 ≠ .powerOnReset ∧
      ∀ n mid, Instr.ready 300 ≠ .resetPinDrivenLow n mid) ∧
    (∃ s : State, AllStored s.store ∧ s.store.stations = .stored stations) ∧
    (∃ s : State, s.store.stations = .stored stations ∧ (∀ x, s.store.schedT ≠ .stored x) ∧ ∀ x, s.store.hill ≠ .stored x) ∧
    ∃ w, windPlaceOf stations w.index = some w ∧ w.startWindow = true :=
  ⟨by decide, ⟨rfl, by decide, fun _ _ => by simp⟩,
    ⟨{ base with
        store := ⟨.stored stations, .stored [], .stored [], .stored .defaults, .stored [], .stored .all⟩ },
      ⟨⟨_, rfl⟩, ⟨_, rfl⟩, ⟨_, rfl⟩, ⟨_, rfl⟩, ⟨_, rfl⟩, ⟨_, rfl⟩⟩, rfl⟩,
    ⟨{ base with store := { base.store with stations := .stored stations, schedT := .failing } }, rfl,
      fun _ h => (by cases h), fun _ h => (by cases h)⟩, ⟨0, 175, 100, 10, true⟩, by decide⟩

theorem witness_BecomesReady :
    State.reset.heldInReset = false ∧ State.reset.ready = false ∧ (600 : Time).toNat ≤ 600 ∧
      State.reset.conditions.restarted.i = false ∧ State.reset.office = .empty ∧ State.reset.enables.condition = true ∧
      State.reset.enables.conditions = 0xFFFF := by decide

theorem witness_EnvelopeRoundTrips :
    (⟨0x20, 0x01, 0x05, 0x7A, List.replicate 120 0x7B⟩ : Frame).payload.length ≤ 120 ∧
      validDestination (0x20 : Byte).toNat = true ∧ (⟨0x01, 0x20, 0x10, 0x7A, []⟩ : Frame).destination = 0x01 := by decide

theorem witness_LineFailuresAreCounted :
    (([] : List Byte).length < 7 ∧ 127 < (List.replicate 128 (0 : Byte)).length) ∧
    (∃ c : List Byte, c = 0x20 :: 0x01 :: 0x05 :: 0x00 :: 0x00 :: u16 (crc16 [0x20, 0x01, 0x05, 0x00, 0x00]).toNat ∧ 7 ≤ c.length ∧
      c.length ≤ 127 ∧ (0x00 : Byte).toNat + 7 = c.length ∧
      u16 (crc16 (c.take (c.length - 2))).toNat = c.drop (c.length - 2)) ∧
    ((0x00 : Byte).toNat + 7 ≠ ([0, 0, 0, 0, 0, 0, 0, 0] : List Byte).length ∧
      u16 (crc16 ([0, 0, 0, 0, 0, 0, 0] : List Byte)).toNat ≠ [0, 0]) ∧
    (base.heldInReset = false ∧ StatusLegal base ∧ unescape [0x7B] = none ∧ unescape [0x00] = some [0x00] ∧
      ([0x00] : List Byte) ≠ [] ∧ receiveCheck .T (base.slotStation .T) [0x00] = some .framing ∧
      (base.line .T).dropping = false) ∧
    (∃ s : State, s.heldInReset = false ∧ StatusLegal s ∧ (s.line .T).dropping = true) ∧
    ∀ f : Frame, f = ⟨0x22, 0, 0x05, 0, []⟩ ∨ f = ⟨0x01, 0, 0x20, 0, []⟩ ∨ f = ⟨0x21, 0, 0x05, 0, []⟩ →
      unescape (f.content.flatMap escapeByte) = some (f.destination :: f.source :: f.kind :: f.content.drop 3) ∧
      receiveCheck .O none (f.destination :: f.source :: f.kind :: f.content.drop 3) = none ∧
      (f.destination = 0x22 → stationAt base.tables.stations f.destination.toNat = some coachEntry) ∧
      (f.destination = 0x21 → stationAt base.tables.stations f.destination.toNat = some lightEntry) := by
  refine ⟨by decide +kernel, ⟨_, rfl, by decide +kernel⟩, by decide +kernel,
    ⟨rfl, base_legal, by decide, by decide, by decide, by decide, rfl⟩,
    ⟨{ base with lineT := { LineUnit.fresh with dropping := true } }, rfl, base_legal, rfl⟩, ?_⟩
  rintro f (rfl | rfl | rfl) <;> decide +kernel

/-- Two items of an edge kind with one of no kind between them. -/
def mixed (code : Byte) : List RawItem := [⟨code, 3, 4, 0, 5⟩, ⟨9, 0, 4, 0, 5⟩, ⟨code, 4, 4, 0, 6⟩]

theorem witness_StationFramesAreJudged :
    (base.heldInReset = false ∧ (base.seg .T).slot = none ∧ (base.line .T).dropping = false) ∧
    (∃ s : State, s.heldInReset = false ∧ (s.line .T).dropping = true) ∧
    (((slotted .T 0x20 base).seg .T).slot = some (slotOf base gateEntry) ∧ (slotOf base gateEntry).entry.addr ≠ (0x21 : Byte).toNat ∧
      (slotOf base gateEntry).entry.addr = (0x20 : Byte).toNat) ∧
    (∃ s : State, ∃ slot : Slot, (s.seg .T).slot = some slot ∧ slot.entry.addr = (0x20 : Byte).toNat ∧ slot.orphan = true ∧
      slot.frameBegun = true) ∧
    (Slotted (slotted .T 0x20 base) .T 0x20 (slotOf base gateEntry).entry.role.kind (slotOf base gateEntry) ∧
      (0x20 : Byte) ≠ 0x10 ∧ (0x20 : Byte) ≠ 0x05 ∧ (List.replicate 118 (0 : Byte)).length ≤ 118 ∧
      118 < (List.replicate 119 (0 : Byte)).length) ∧
    (∀ x : Seg × StationEntry × List Byte,
      x ∈ [(.T, windEntry, [3]), (.T, windEntry, [1]), (.T, gateEntry, [41, 0]), (.T, gateEntry, [16, 3]),
        (.T, cellAEntry, [0]), (.T, cellAEntry, [9]), (.T, coachEntry, [0, 0]), (.T, coachEntry, [0]),
        (.S, judgeEntry, [0x03, 0xE8, 30]), (.S, judgeEntry, [0, 12, 41]), (.S, distEntry, [0, 12, 0x02, 0x59]),
        (.T, lightEntry, [5])] →
      Slotted (slotted x.1 x.2.1.addr base) x.1 (BitVec.ofNat 8 x.2.1.addr) x.2.1.role.kind (slotOf base x.2.1) ∧
        ¬HasForm x.2.1.role.kind x.2.2 ∧ ownFrames 5600 x.1 0 0 x.2.2 x.2.1.role.kind ≠ []) ∧
    (∀ x : Seg × StationEntry,
      x ∈ [(.T, cellAEntry), (.T, cellBEntry), (.T, takeoffEntry), (.S, landingEntry), (.T, gateEntry)] →
      Slotted (slotted x.1 x.2.addr base) x.1 (BitVec.ofNat 8 x.2.addr) x.2.role.kind (slotOf base x.2)) ∧
    (∀ x : StationEntry × Byte,
      x ∈ [(cellAEntry, 1), (cellBEntry, 1), (takeoffEntry, 1), (landingEntry, 3)] →
      ∃ (items kept : List RawItem) (hand : State → EdgeItem → State), HandsEdge x.1 base x.2 hand ∧
        kept = items.filter (RawItem.fits x.2) ∧ 1 ≤ items.length ∧ items.length ≤ 8 ∧ kept.length < items.length ∧
        2 ≤ kept.length) ∧
    ((40 : Byte).toNat ≤ 40 ∧ ([⟨2, 0, 4, 0, 5⟩, ⟨2, 0, 4, 0x27, 0x10⟩] : List RawItem).length ≤ 2) := by
  refine ⟨by decide, ⟨{ base with lineT := { LineUnit.fresh with dropping := true } }, rfl, rfl⟩, by decide,
    ⟨base.setSeg .T { base.seg .T with slot := some { slotOf base gateEntry with orphan := true } },
    { slotOf base gateEntry with orphan := true }, by decide⟩, ⟨open_slot _ _ _ _ _ (by decide), by decide⟩,
    fun x hx => ?_, fun x hx => ?_, fun x hx => ?_, by decide⟩
  · simp only [List.mem_cons, List.not_mem_nil, or_false] at hx
    rcases hx with rfl | rfl | rfl | rfl | rfl | rfl | rfl | rfl | rfl | rfl | rfl | rfl <;>
      refine ⟨open_slot _ _ _ _ _ (by decide), ?_, by decide⟩ <;>
      simp only [StationRole.kind, windEntry, gateEntry, cellAEntry, coachEntry, judgeEntry, distEntry,
        lightEntry, HasForm] <;> simp
  · simp only [List.mem_cons, List.not_mem_nil, or_false] at hx
    rcases hx with rfl | rfl | rfl | rfl | rfl <;> exact open_slot _ _ _ _ _ (by decide)
  · simp only [List.mem_cons, List.not_mem_nil, or_false] at hx
    rcases hx with rfl | rfl | rfl | rfl
    · exact ⟨mixed 1, _, _, .inl ⟨rfl, rfl, rfl⟩, rfl, by decide⟩
    · exact ⟨mixed 1, _, _, .inr (.inl ⟨rfl, rfl, rfl⟩), rfl, by decide⟩
    · exact ⟨mixed 1, _, _, .inr (.inr (.inl ⟨rfl, rfl, rfl⟩)), rfl, by decide⟩
    · exact ⟨mixed 3, _, _, .inr (.inr (.inr ⟨rfl, rfl, landingEntry, 8, 64, rfl, rfl, rfl⟩)), rfl, by decide⟩

theorem witness_PresenceFollowsSlots :
    (((slotted .T 0x20 base).seg .T).slot = some (slotOf base gateEntry) ∧ (slotOf base gateEntry).orphan = false ∧
      linkAt (slotted .T 0x20 base).lsc.links 0x20 = some ⟨0x20, .present, 0, 0⟩ ∧
      (presenceAfter 3 true ⟨0x20, .present, 0, 0⟩).presence = .present) ∧
    (∃ s : State, (s.seg .T).slot = some (slotOf s gateEntry) ∧ linkAt s.lsc.links 0x20 = some ⟨0x20, .present, 2, 0⟩ ∧
      (presenceAfter 3 false ⟨0x20, .present, 2, 0⟩).presence = .missing ∧ s.enables.station = true ∧ s.office.count < 60) ∧
    (∃ s : State, (s.seg .T).slot = some (slotOf s gateEntry) ∧ linkAt s.lsc.links 0x20 = some ⟨0x20, .missing, 0, 1⟩ ∧
      (presenceAfter 3 true ⟨0x20, .missing, 0, 1⟩).presence = .present) ∧
    ∀ x : RecState, x = .cleared ∨ x = .late →
      ∃ s : State, (s.seg .T).slot = some (slotOf s lightEntry) ∧ linkAt s.lsc.links 0x21 = some ⟨0x21, .present, 2, 0⟩ ∧
        (presenceAfter 3 false ⟨0x21, .present, 2, 0⟩).presence ≠ .present ∧ OneActive s.jtb ∧
        s.jtb = ⟨some (jumper x), none, none, none⟩ := by
  refine ⟨by decide, ⟨slotted .T 0x20 { base with lsc := { base.lsc with links := [⟨0x20, .present, 2, 0⟩] } }, by decide⟩,
    ⟨slotted .T 0x20 { base with lsc := { base.lsc with links := [⟨0x20, .missing, 0, 1⟩] } }, by decide⟩, ?_⟩
  rintro x (rfl | rfl) <;>
    exact ⟨slotted .T 0x21 { jumping (jumper _) with lsc := { round1.lsc with links := [⟨0x21, .present, 2, 0⟩] } },
      by decide, by decide, by decide, one_active _, rfl⟩

/-- PREPARE with slots granted on the tower segment and a PASS waiting. -/
def granting (a : Nat) : State :=
  { base with lsc := { base.lsc with segT := { Segment.fresh with granted := [a], queue := [.pass 0x22 7 [1]] } } }

/-- A line unit that holds the TIME frame of the cycle start at 5000. -/
def timing : LineUnit := { LineUnit.fresh with shifter := some ⟨0xFF, 0x01, 0x01, 0, [4, 0, 0, 0x13, 0x88]⟩ }

theorem sends_time (s : State) (h : s.lineT = timing ∧ s.hck.marks = base.hck.marks) : SendsAt 5002 .T s := by
  refine ⟨_, (by rw [show s.line (portFor .T) = timing from h.1]; rfl), .inr ⟨rfl, 4, 5000, _, h.2, by decide⟩⟩

theorem time_sent (s : State) (h : s.lineT = timing ∧ s.hck.marks = base.hck.marks ∧ (s.seg .T).slot = none) :
    ¬SendsAt 5600 .T s := by
  rintro ⟨f, -, hn | ⟨-, mark, start, older, hm, ht⟩⟩
  · exact hn h.2.2
  · rw [h.2.1] at hm
    obtain ⟨rfl, rfl⟩ := Prod.mk.inj (List.cons.inj hm).1
    exact absurd ht (by decide)

theorem witness_SlotsOpenAndTimeOut :
    (SendsAt 5002 .T { granting 0x22 with lineT := timing } ∧ ¬SendsAt 5600 .T { granting 0x22 with lineT := timing } ∧
      timing.shifter ≠ none) ∧
    (∀ a e, (a = 0x20 ∧ e = gateEntry) ∨ (a = 0x21 ∧ e = lightEntry) ∨ (a = 0x22 ∧ e = coachEntry) →
      (granting a).heldInReset = false ∧ (granting a).ready = true ∧ ((granting a).seg .T).slot = none ∧
      ((granting a).seg .T).silentUntil = none ∧ ((granting a).seg .T).granted = a :: [] ∧
      stationAt (granting a).tables.stations a = some e ∧ e.port = .T ∧
      linkAt (granting a).lsc.links a = some ⟨a, .present, 0, 0⟩) ∧
    (((granting 0x22).seg .T).queue = [] ++ .pass 0x22 7 [1] :: [] ∧ (∀ y ∈ ([] : List QueuedFrame), y.station ≠ 0x22) ∧
      (QueuedFrame.pass 0x22 7 [1]).station = 0x22 ∧ ∀ x ∈ ((granting 0x20).seg .T).queue, x.station ≠ 0x20) ∧
    (∀ a, a = 0x2F ∨ a = 0x58 → (granting a).heldInReset = false ∧ (granting a).ready = true ∧
      ((granting a).seg .T).slot = none ∧ ((granting a).seg .T).granted = a :: [] ∧
      ∀ e, stationAt (granting a).tables.stations a = some e → e.port ≠ .T) ∧
    (((base.seg .T).slot = none ∧ (base.seg .T).granted = []) ∧ State.reset.ready = false ∧
      earlierThan (6000 : Time) 6001 = true ∧ earlierThan (6000 : Time) 6000 = false) ∧
    (∃ s : State, ∃ slot : Slot, s.heldInReset = false ∧ (s.seg .T).slot = some slot ∧ slot.openerSent = false ∧
      slot.frameBegun = true ∧ slot.budgetEnd = 5520) ∧
    (∃ s : State, ∃ slot : Slot, s.heldInReset = false ∧ (s.seg .T).slot = some slot ∧ slot.windowClose = some 5510 ∧
      slot.frameBegun = false ∧ slot.budgetEnd ≠ 5600) := by
  refine ⟨⟨sends_time _ ⟨rfl, rfl⟩, time_sent _ ⟨rfl, rfl, rfl⟩, by decide⟩, ?_, by decide, ?_, by decide,
    ⟨slotted .T 0x20 base, slotOf base gateEntry, by decide⟩,
    ⟨base.setSeg .T { base.seg .T with slot := some { slotOf base gateEntry with
        openerSent := true, frameBegun := false, windowClose := some 5510 } }, _, rfl, rfl, by decide⟩⟩
  · rintro a e (⟨rfl, rfl⟩ | ⟨rfl, rfl⟩ | ⟨rfl, rfl⟩) <;> decide
  · rintro a (rfl | rfl)
    · refine ⟨rfl, rfl, rfl, rfl, fun e h => ?_⟩
      have h' : stationAt (granting 0x2F).tables.stations 0x2F = none := by decide
      rw [h'] at h; cases h
    · refine ⟨rfl, rfl, rfl, rfl, fun e h => ?_⟩
      have h' : stationAt (granting 0x58).tables.stations 0x58 = some distEntry := by decide
      rw [h'] at h
      rw [← Option.some.inj h]; decide

theorem witness_SegmentRestarts :
    (SendsAt 5002 .T { base with lineT := timing } ∧ ¬SendsAt 5600 .T { base with lineT := timing } ∧
      Listens { base with lineT := timing }) ∧
    (Listens base ∧ ¬((3 : Byte).toNat = 1 ∨ (3 : Byte).toNat = 2) ∧ (1 : Byte).toNat = 1 ∧ (2 : Byte).toNat = 2) ∧
    (gateEntry ∈ base.tables.stations ∧ gateEntry.port = .T ∧ linkAt base.lsc.links gateEntry.addr = some ⟨0x20, .present, 0, 0⟩) ∧
    (distEntry ∈ base.tables.stations ∧ distEntry.port = .S ∧ linkAt base.lsc.links distEntry.addr = some ⟨0x58, .present, 0, 0⟩) ∧
    (∀ e ∈ base.tables.stations, e.port = .S → e.role.kind ≠ .light) ∧
    (∃ s : State, Listens s ∧ OneActive s.jtb ∧ RecordsInRound s ∧ s.jtb.get 0 = some (jumper .cleared) ∧
      stationAt s.tables.stations lightEntry.addr = some lightEntry ∧
      linkAt s.lsc.links lightEntry.addr = some ⟨0x21, .present, 0, 0⟩ ∧
      stationAt s.tables.stations gateEntry.addr = some gateEntry ∧ s.enables.station = true ∧ s.enables.jump = true ∧
      s.office.count + 1 + 4 * s.tables.stations.length < 60) ∧
    (∀ k r, (jumping (jumper .flight)).jtb.get k = some r → r.state ≠ .cleared ∧ r.state ≠ .green) ∧
    ∃ s : State, s.heldInReset = false ∧ (s.seg .T).silentUntil = some 6100 :=
  ⟨⟨sends_time _ ⟨rfl, rfl⟩, time_sent _ ⟨rfl, rfl, rfl⟩, ⟨rfl, rfl, (by decide : (0 : Nat) < 64)⟩, rfl⟩, ⟨base_listens, by decide⟩, by decide, by decide, by decide,
    ⟨jumping (jumper .cleared), jumping_listens _, one_active _, in_round _, rfl, by decide⟩,
    fun k r h => by rw [(one_get.mp h).2]; decide,
    { base with lsc := { base.lsc with segT := { Segment.fresh with silentUntil := some 6100 } } }, by decide⟩

theorem witness_CycleStarts :
    (base.heldInReset = false ∧ base.ready = true ∧ (6000 : Time).toNat % 1000 = 0 ∧ (6000 : Time) ≠ 0 ∧
      (∀ m x rest, base.hck.marks = (m, x) :: rest → x ≠ 6000) ∧ base.lsc.segT.silentUntil = none ∧
      ∀ k r, base.jtb.get k = some r → r.state ≠ .cleared ∧ r.state ≠ .landing) ∧
    (earlierThan (6000 : Time) 6001 = true ∧ earlierThan (6000 : Time) 6000 = false) ∧
    (∃ s : State, OneActive s.jtb ∧ RecordsInRound s ∧ s.jtb.get 0 = some (jumper .cleared) ∧
      (ran (.cycleStart 6000) s).wnd.liveWind = some 40 ∧ s.tables.hill.bandLow ≤ 40 ∧ 40 ≤ s.tables.hill.bandHigh) ∧
    (∃ s : State, OneActive s.jtb ∧ RecordsInRound s ∧ s.jtb.get 0 = some (jumper .cleared) ∧
      (ran (.cycleStart 6000) s).wnd.liveWind = none) ∧
    ∃ s : State, s.jtb.get 0 = some (jumper .landing) ∧ atOrAfter 6000 s.flu.firstArrival = true := by
  refine ⟨⟨rfl, rfl, by decide, by decide, fun m x rest h => ?_, rfl, fun k r h => ?_⟩, by decide,
    ⟨{ jumping (jumper .cleared) with
        wnd := ⟨[{ WindContext.begin 0 175 with
          ring := List.replicate 20 ⟨5000, .good, some 40⟩, state := .active }], none, []⟩ },
      one_active _, in_round _, rfl, by decide⟩,
    ⟨jumping (jumper .cleared), one_active _, in_round _, rfl, by decide⟩,
    { jumping (jumper .landing) with flu := { FlightUnit.idle with firstArrival := 5500 } }, by decide⟩
  · simp only [base, List.cons.injEq, Prod.mk.injEq] at h
    rw [← h.1.2]; decide
  · simp [base, State.reset, JumpTable.empty, empty_get] at h

theorem witness_WindSamplesAreBuffered :
    Slotted (slotted .T 0x10 base) .T 0x10 .wind (slotOf base windEntry) ∧
      (slotOf base windEntry).entry.role = .wind ⟨0, 175, 100, 10, true⟩ ∧
      ([⟨250, 190, false, 65535, 65535, true⟩, ⟨0, 0, false, 0, 0, false⟩] : List Sample).length ≤ 2 :=
  ⟨open_slot _ _ _ _ _ (by decide), by decide⟩

theorem witness_GridEntriesAreWritten :
    (∃ c : WindContext, c.mismatch ≤ 255 ∧ c.goodRun ≤ 255 ∧ c.badRun ≤ 255 ∧ c.repeats ≤ 65535 ∧
      1 ≤ HillTable.defaults.lostThreshold ∧ c.buffer = ⟨250, 190, false, 250, 190, false⟩ :: [] ∧
      (⟨250, 190, false, 250, 190, false⟩ : Sample).primary c.bearing = some 241 ∧
      (⟨250, 190, false, 250, 190, false⟩ : Sample).secondary c.bearing = some 241 ∧
      (⟨4001, 190, false, 250, 190, false⟩ : Sample).primary c.bearing = none) ∧
    (∃ c : WindContext, c.mismatch ≤ 255 ∧ c.goodRun ≤ 255 ∧ c.badRun ≤ 255 ∧ c.repeats ≤ 65535 ∧ c.buffer = [] ∧
      c.ring = ⟨5000, .good, some 40⟩ :: [] ∧ c.state ≠ .lost ∧ Quality.good ≠ .missing) ∧
    ((WindContext.begin 0 175).buffer = [] ∧ (WindContext.begin 0 175).state = .lost) ∧
    (2 * ((([⟨0, .good, some 5⟩] : List GridEntry).take 3).filterMap (·.value)).length < 3 ∧
      2 ≤ 2 * ((([⟨0, .good, some 5⟩] : List GridEntry).take 2).filterMap (·.value)).length) ∧
    ((359 : Nat) ≤ 359 ∧ ((1 : Nat) : Int) = ((0 : Nat) - (359 : Nat) : Int) % 360 ∧ (4000 : Nat) ≤ 4000 ∧ (89 : Nat) < 90) ∧
    ((([(0, none)] : List (Nat × Option Int)).filterMap (·.2)) = [] ∧ (([(0, some 5)] : List (Nat × Option Int)).filterMap (·.2)) ≠ []) :=
  ⟨⟨{ WindContext.begin 0 175 with buffer := [⟨250, 190, false, 250, 190, false⟩] }, by decide⟩,
    ⟨{ WindContext.begin 0 175 with ring := [⟨5000, .good, some 40⟩], state := .active }, by decide⟩, by decide, by decide, by decide, by decide⟩

theorem witness_OfficePortIsServed :
    (base.heldInReset = false ∧ base.lineO.counters.address ≤ 65535 ∧ State.reset.ready = false ∧ base.ready = true) ∧
    (∀ e, stationAt base.tables.stations (0x21 : Byte).toNat = some e → e.role.kind = .light) ∧
    (stationAt base.tables.stations (0x22 : Byte).toNat = some coachEntry ∧ coachEntry.role.kind ≠ .light ∧
      (base.seg coachEntry.port).queue.length < 32) ∧
    (∃ s : State, s.heldInReset = false ∧ s.ready = true ∧ s.lineO.counters.address ≤ 65535 ∧
      stationAt s.tables.stations (0x22 : Byte).toNat = some coachEntry ∧ 32 ≤ (s.seg .T).queue.length) ∧
    (∃ s : State, s.heldInReset = false ∧ s.office.sending = some (.reply ⟨1, 0x30, .ok, .nothing⟩) ∧ s.takenReset = none ∧
      s.office.replies = ⟨2, 0x31, .ok, .nothing⟩ :: []) ∧
    (∃ s : State, s.heldInReset = false ∧ s.office.sending = some (.mirror ⟨0x20, 0, .T, 0x10, []⟩) ∧ s.takenReset = none ∧
      s.office.replies = [] ∧ s.office.reports = .station 0x20 .absent .present :: []) ∧
    (∃ s : State, s.heldInReset = false ∧ s.office.sending = some (.mirror ⟨0x20, 0, .T, 0x10, []⟩) ∧ s.takenReset = none ∧
      s.office.replies = [] ∧ s.office.reports = [] ∧ s.office.mirrors = ⟨0x20, 0, .T, 0x10, []⟩ :: []) ∧
    (∃ s : State, s.heldInReset = false ∧ s.office.sending = some (.reply ⟨1, 0x30, .ok, .nothing⟩) ∧
      s.takenReset = some ⟨false, false⟩ ∧ ∀ r, OfficeFrame.reply ⟨1, 0x30, .ok, .nothing⟩ = .reply r →
        ¬(r.code = 0x02 ∧ r.status = .ok)) ∧
    ∃ s : State, s.heldInReset = false ∧ s.office.sending = some (.reply ⟨1, 0x02, .ok, .nothing⟩) ∧
      s.takenReset = some ⟨false, false⟩ := by
  refine ⟨by decide, fun e h => ?_, by decide,
    ⟨{ base with lsc := { base.lsc with segT := { Segment.fresh with queue := List.replicate 32 (.pass 0x22 0 []) } } }, by decide⟩,
    ⟨{ base with office := { OfficeQueue.empty with
        sending := some (.reply ⟨1, 0x30, .ok, .nothing⟩), replies := [⟨2, 0x31, .ok, .nothing⟩] } }, by decide⟩,
    ⟨{ base with office := { OfficeQueue.empty with
        sending := some (.mirror ⟨0x20, 0, .T, 0x10, []⟩), reports := [.station 0x20 .absent .present] } }, by decide⟩,
    ⟨{ base with office := { OfficeQueue.empty with
        sending := some (.mirror ⟨0x20, 0, .T, 0x10, []⟩), mirrors := [⟨0x20, 0, .T, 0x10, []⟩] } }, by decide⟩,
    ⟨{ base with
      office := { OfficeQueue.empty with sending := some (.reply ⟨1, 0x30, .ok, .nothing⟩) }
      takenReset := some ⟨false, false⟩ }, rfl, rfl, rfl, fun r h => by cases h; decide⟩,
    { base with
      office := { OfficeQueue.empty with sending := some (.reply ⟨1, 0x02, .ok, .nothing⟩) }
      takenReset := some ⟨false, false⟩ }, by decide⟩
  have h' : stationAt base.tables.stations (0x21 : Byte).toNat = some lightEntry := by decide
  rw [h'] at h
  rw [← Option.some.inj h]; decide

theorem witness_QueuesAdmit :
    (base.conditions.storeBad.v = true ∧ base.conditions.jumpHeld = ⟨false, false, 0⟩ ∧ base.ready = true ∧
      base.enables.condition = true ∧ base.enables.conditions.getLsbD (CondName.jumpHeld.number - 1) = true ∧
      base.office.count < 60) ∧
    (∃ s : State, s.conditions.jumpHeld.v = false ∧ s.conditions.jumpHeld.i = true) ∧
    (boardsOf base.tables.stations .leaders = [0x60] ∧ base.dsp.current = none ∧
      ∃ d : Display, d.current = some (recordPage competitors none (jumper .cleared))) ∧
    (∃ s : State, (s.conditions.get .lateData).i = true) ∧
    ((base.conditions.get .lateData).i = false ∧ base.ready = true ∧ base.enables.condition = true ∧
      base.enables.conditions.getLsbD (CondName.lateData.number - 1) = true ∧ base.office.count < 48) ∧
    (∃ s : State, 60 ≤ s.office.count ∧ s.conditions.reportLost.i = false) ∧
    (∃ s : State, 60 ≤ s.office.count ∧ s.conditions.reportLost.i = true) ∧
    (([.page 0x60 .current [1]] : List QueuedFrame) = [] ++ .page 0x60 .current [1] :: [] ∧
      (∀ f ∈ ([] : List QueuedFrame) ++ [], ∀ x, f ≠ .page 0x60 .current x) ∧
      (∀ f ∈ ([.pass 0x60 0 []] : List QueuedFrame), ∀ x, f ≠ .page 0x60 .current x) ∧
      32 ≤ (List.replicate 32 (QueuedFrame.pass 0x60 0 [])).length) := by
  refine ⟨by decide, ⟨{ base with conditions := { base.conditions with jumpHeld := ⟨false, true, 0⟩ } }, by decide⟩,
    ⟨by decide, rfl, { Display.fresh with current := some (recordPage competitors none (jumper .cleared)) }, rfl⟩,
    ⟨{ base with conditions := { base.conditions with lateData := ⟨false, true, 0x20⟩ } }, by decide⟩, by decide,
    ⟨{ base with office := ⟨List.replicate 60 ⟨0, 0, .ok, .nothing⟩, [], [], none, false⟩ }, by decide⟩,
    ⟨{ base with
        office := ⟨List.replicate 60 ⟨0, 0, .ok, .nothing⟩, [], [], none, false⟩
        conditions := { base.conditions with reportLost := ⟨false, true, 1⟩ } }, by decide⟩, rfl, by simp, ?_, by decide⟩
  intro f h x
  rw [List.mem_singleton.mp h]; simp

/-! The invariants hold in the hill of these tests too, with a command to run. -/

/-- Round 1 with a record on the bar, YELLOW shown, and HOLD in front. -/
def lawful : State :=
  { jumping (jumper .cleared) with
    pending := [.hold 5600 1]
    stu := { round1.stu with lamp := .yellow }
    lsc := { round1.lsc with lampSlot := .yellow } }

theorem witness_BoundsAreKept :
    QueueBounds lawful ∧ StatusLegal lawful ∧ HistoryFits lawful ∧ ∃ t, step lawful = .next t := by
  refine ⟨⟨by decide, by decide, by decide, by decide, by decide⟩, base_legal, ⟨by decide, fun i m t h => ?_⟩, _, rfl⟩
  have hm : lawful.hck.marks = [(4, 5000), (3, 4000), (2, 3000), (1, 2000), (0, 1000)] := rfl
  rw [hm] at h
  match i, h with
  | 0, h => cases h; decide
  | 1, h => cases h; decide
  | 2, h => cases h; decide
  | 3, h => cases h; decide
  | 4, h => cases h; decide

theorem witness_LampLawIsKept :
    OneActive lawful.jtb ∧ RecordsInRound lawful ∧ LampLaw lawful ∧ ∃ t, step lawful = .next t := by
  refine ⟨one_active _, fun _ _ _ => .inl rfl, ⟨rfl, ⟨fun _ => ⟨0, _, rfl, rfl⟩, fun _ => rfl⟩, ⟨fun h => ?_, ?_⟩,
    ⟨fun h => ?_, fun h => absurd (.inl rfl) h⟩⟩, _, rfl⟩
  · exact absurd h (by decide)
  · rintro ⟨k, r, h, g⟩
    rw [(one_get.mp h).2] at g
    exact absurd g (by decide)
  · exact absurd h (by decide)

theorem witness_ListsStayLawful :
    RecordsInRound lawful ∧ BibLaw lawful ∧ ResultsOrdered lawful ∧ ∃ t, step lawful = .next t :=
  ⟨fun _ _ _ => .inl rfl, ⟨by decide, by decide⟩, ⟨List.Pairwise.nil, by decide⟩, _, rfl⟩

theorem witness_TablesAndWindStayLawful :
    ∃ s : State, TablesFit s ∧ WindLaw s ∧ (∃ c ∈ s.wnd.contexts, c.state ≠ .lost) ∧ ∃ t, step s = .next t := by
  refine ⟨{ lawful with wnd := ⟨[{ WindContext.begin 0 175 with
      ring := List.replicate 5 ⟨5000, .good, some 40⟩, state := .active, goodRun := 5 }], none, []⟩ },
    ⟨by decide, ⟨by decide, by decide, by decide, by decide⟩, ⟨by decide, by decide, by decide, by decide⟩, by decide, by decide,
      by decide, trivial, trivial, trivial, trivial, trivial, fun _ h => by cases h⟩, fun c hc => ?_,
    ⟨_, List.mem_singleton.mpr rfl, by decide⟩, _, rfl⟩
  rw [List.mem_singleton.mp hc]; decide

end Sys2Proof.Tests
end

section
/-! Requests that are judged by their own rule, as the statements speak of them, and READ_COUNTERS. -/

namespace Sys2Proof.Proofs

open Sys2Proof.Machine Sys2Proof.Claims

/-! ### A request that listens -/

/-- An answer that leaves `u`, at the request's hill time and with the place taken, is `u` with its reply (R183). -/
theorem pumpOffice_fillPlace_asked (now : Time) (seq code : Byte) (status : Status) (results : Results) (u : State) :
    (State.fillPlace seq code ⟨status, results, u.asked now⟩).pumpOffice = replied now seq code status results u := rfl

/-- A request whose own rule answers with a status and results and leaves `u`. -/
theorem request_replied {now : Time} {seq code : Byte} {body : State → Answer} {s u : State} {status : Status}
    {results : Results} (listens : Listens s) (answers : body (s.asked now) = ⟨status, results, u.asked now⟩) :
    request now seq code body s = .next (replied now seq code status results u) := by
  obtain ⟨⟨held, free, room⟩, ready⟩ := listens
  rw [request_judged _ _ _ _ _ held free room ready, answers, pumpOffice_fillPlace_asked]

/-- A request that its own rule refuses changes nothing else (R189). -/
theorem request_refused {now : Time} {seq code : Byte} {body : State → Answer} {s : State} {status : Status}
    (listens : Listens s) (refuses : body (s.asked now) = refuse status (s.asked now)) :
    request now seq code body s = refused now seq code status s :=
  request_replied listens refuses

@[simp] theorem line_asked (t : Time) (s : State) (p : Port) : (s.asked t).line p = s.line p := by
  cases p <;> rfl

@[simp] theorem setLine_asked (t : Time) (s : State) (p : Port) (u : LineUnit) :
    (s.asked t).setLine p u = (s.setLine p u).asked t := by
  cases p <;> rfl

/-! ### READ_COUNTERS (R6) -/

/-- Table 2-15 has no port code but 1, 2 and 3. -/
theorem portOfCode_eq_none {n : Nat} (h : ¬(1 ≤ n ∧ n ≤ 3)) : portOfCode n = none := by
  unfold portOfCode
  split
  case h_4 => rfl
  all_goals omega

/-- READ_COUNTERS of a port that exists. -/
theorem exec_readCounters_of_port (now : Time) (seq : Byte) {port : Byte} {s : State} {p : Port} (listens : Listens s)
    (named : portOfCode port.toNat = some p) :
    exec (.readCounters now seq port) s =
      .next (replied now seq 0x10 .ok (.counters (s.line p).counters)
        (s.setLine p { s.line p with counters := .zero })) := by
  have answers : readCounters port (s.asked now) = accept (.counters (s.line p).counters)
      ((s.setLine p { s.line p with counters := .zero }).asked now) := by
    simp [readCounters, named]
  exact request_replied listens answers

/-- READ_COUNTERS of a port code outside Table 2-15 is refused. -/
theorem exec_readCounters_of_no_port (now : Time) (seq : Byte) {port : Byte} {s : State} (listens : Listens s)
    (unnamed : portOfCode port.toNat = none) :
    exec (.readCounters now seq port) s = refused now seq 0x10 .badValue s := by
  have refuses : readCounters port (s.asked now) = refuse .badValue (s.asked now) := by
    simp [readCounters, unnamed]
  exact request_refused listens refuses

/-- Port O's counters as they are read: it has no SOURCE and no SLOT_TIMEOUT counter (R5, Table 2-4). -/
theorem lineO_counters_of_legal {s : State} (legal : StatusLegal s) :
    s.lineO.counters = ⟨s.lineO.counters.framing, s.lineO.counters.crc, s.lineO.counters.address, 0, 0⟩ := by
  obtain ⟨-, -, -, noSource, noTimeout, -⟩ := legal
  calc s.lineO.counters
    _ = ⟨s.lineO.counters.framing, s.lineO.counters.crc, s.lineO.counters.address, s.lineO.counters.source,
          s.lineO.counters.slotTimeout⟩ := rfl
    _ = _ := by rw [noSource, noTimeout]

/-- Settles O6: the port code selects the line unit whose counters are read and cleared, and any other code is refused. -/
theorem readCountersClears : Obligations.ReadCountersClears := by
  unfold Obligations.ReadCountersClears
  intro now seq port s listens legal
  refine ⟨fun portT => ?_, fun portS => ?_, fun portO => ?_, fun other => ?_⟩
  · exact exec_readCounters_of_port now seq listens (p := .T) (by rw [portT]; rfl)
  · exact exec_readCounters_of_port now seq listens (p := .S) (by rw [portS]; rfl)
  · rw [← lineO_counters_of_legal legal]
    exact exec_readCounters_of_port now seq listens (p := .O) (by rw [portO]; rfl)
  · exact exec_readCounters_of_no_port now seq listens (portOfCode_eq_none other)

end Sys2Proof.Proofs
end

section
/-! Hill time: how a stamp converts by the mark history (R34, R35). -/

namespace Sys2Proof.Proofs

open Sys2Proof.Machine Sys2Proof.Claims

/-- A mark number that stands in the history with one time is found with that time. -/
theorem find_mark_of_unique {marks : List (Byte × Time)} {mark : Byte} {t : Time} (stands : (mark, t) ∈ marks)
    (unique : ∀ x, (mark, x) ∈ marks → x = t) :
    (marks.find? fun m => decide (m.1 = mark)) = some (mark, t) := by
  cases found : marks.find? fun m => decide (m.1 = mark) with
  | none => exact absurd (decide_eq_true rfl) (List.find?_eq_none.mp found _ stands)
  | some m =>
    obtain ⟨number, x⟩ := m
    obtain rfl : number = mark := by simpa using List.find?_some found
    rw [unique x (List.mem_of_find?_eq_some found)]

/-- A mark number without an entry is not found. -/
theorem find_mark_of_absent {marks : List (Byte × Time)} {mark : Byte} (absent : ∀ t, (mark, t) ∉ marks) :
    (marks.find? fun m => decide (m.1 = mark)) = none := by
  refine List.find?_eq_none.mpr fun m stands same => absent m.2 ?_
  rwa [← of_decide_eq_true same]

/-- R34: a found mark converts to its time plus the offset, no later than the arrival. -/
theorem convert_of_found {s : State} {mark : Byte} {t : Time} (offset : Nat)
    (found : (s.hck.marks.find? fun m => decide (m.1 = mark)) = some (mark, t)) :
    s.convert mark offset = if laterThan (after t offset) s.now then ⟨s.now, false⟩ else ⟨after t offset, false⟩ := by
  simp only [State.convert, found]

/-- R35: a mark that is not found gives the arrival time, estimated. -/
theorem convert_of_not_found {s : State} {mark : Byte} (offset : Nat)
    (missing : (s.hck.marks.find? fun m => decide (m.1 = mark)) = none) :
    s.convert mark offset = ⟨s.now, true⟩ := by
  simp only [State.convert, missing]

/-- Settles O23: the search of the mark history finds the stamp's only entry, or none. -/
theorem stampsConvert : Obligations.StampsConvert := by
  unfold Obligations.StampsConvert
  intro s mark offset
  refine ⟨fun t stands unique => ?_, fun absent => ?_⟩
  · exact convert_of_found offset (find_mark_of_unique stands unique)
  · exact convert_of_not_found offset (find_mark_of_absent absent)

end Sys2Proof.Proofs
end

section
/-! The editing of the start list: LIST_INSERT, LIST_REMOVE and LIST_MOVE (R45, R46, R47). -/

namespace Sys2Proof.Proofs

open Sys2Proof.Machine Sys2Proof.Claims

/-! ### A rule that refuses in order

A rule's answer is put together along its own branches: each refusal strikes one entry off the list of `FirstOf`. -/

/-- The answer a rule gives by the first refusal that applies: that refusal, or acceptance. -/
def judged (o : Option Status) (results : Results) (s t : State) : Answer :=
  match o with
  | some status => refuse status s
  | none => accept results t

/-- A request whose rule answers by the first refusal that applies is answered so (R183, R189). -/
theorem request_answered {now : Time} {seq code : Byte} {body : State → Answer} {s t : State} {o : Option Status}
    {results : Results} (listens : Listens s)
    (answers : body (s.asked now) = judged o results (s.asked now) (t.asked now)) :
    request now seq code body s = answered now seq code o results s t := by
  cases o with
  | some status => exact request_refused listens answers
  | none => exact request_replied listens answers

section
variable {p q : Prop} [Decidable q] {status : Status} {rest : List (Prop × Status)} {o : Option Status} {answer : Answer}
  {results : Results} {s t : State}

/-- A branch that refuses takes the first refusal off the list. -/
theorem ite_refuse_judged (first : FirstOf ((p, status) :: rest) o) (tests : q ↔ p)
    (later : ¬p → FirstOf rest o → answer = judged o results s t) :
    (if q then refuse status s else answer) = judged o results s t := by
  obtain ⟨applies, rfl⟩ | ⟨passes, first⟩ := first
  · rw [if_pos (tests.mpr applies)]
    rfl
  · rw [if_neg (mt tests.mp passes)]
    exact later passes first

/-- The same where the refusal stands in the `else` branch. -/
theorem ite_judged_refuse (first : FirstOf ((p, status) :: rest) o) (tests : q ↔ ¬p)
    (later : ¬p → FirstOf rest o → answer = judged o results s t) :
    (if q then answer else refuse status s) = judged o results s t := by
  obtain ⟨applies, rfl⟩ | ⟨passes, first⟩ := first
  · rw [if_neg fun h => tests.mp h applies]
    rfl
  · rw [if_pos (tests.mpr passes)]
    exact later passes first

/-- With no refusal left the rule accepts. -/
theorem accept_eq_judged (first : FirstOf [] o) : accept results t = judged o results s t := by
  obtain rfl : o = none := first
  rfl

end

/-! ### What the rules test -/

theorem not_bibInRange_iff (bib : Nat) : (!bibInRange bib) = true ↔ ¬(1 ≤ bib ∧ bib ≤ 999) := by
  rw [Bool.not_eq_true', bibInRange, decide_eq_false_iff_not]

theorem listClosed_iff (x : CompState) : x.listClosed = true ↔ x = .r1Closed ∨ x = .final :=
  decide_eq_true_iff

/-- A bib has no competitor exactly when no entry of the table names it. -/
theorem competitorOf_isNone_iff (table : List Competitor) (bib : Nat) :
    (competitorOf table bib).isNone = true ↔ ∀ c ∈ table, c.bib ≠ bib := by
  simp [competitorOf]

/-- A bib is held exactly when a record of it stands in some slot (R60). -/
theorem holding_isSome_iff (t : JumpTable) (bib : Nat) :
    (t.holding bib).isSome = true ↔ ∃ k r, t.get k = some r ∧ r.bib = bib := by
  have free_iff : t.holding bib = none ↔ ∀ k r, t.get k = some r → r.bib ≠ bib := by
    simp [JumpTable.holding, JumpTable.find_none_iff]
  rw [← Option.ne_none_iff_isSome, ne_eq, free_iff]
  push Not
  rfl

/-- R57: a total stands for the open round when its round of the entry has one. -/
theorem standsFor_iff (e : ResultEntry) (x : CompState) :
    e.standsFor x = true ↔ (x = .r1Open ∧ e.round1 ≠ none) ∨ (x = .r2Open ∧ e.round2 ≠ none) := by
  cases x <;> simp [ResultEntry.standsFor, Option.isSome_iff_ne_none]

/-! ### A bib at its place -/

theorem insertBib_perm (bib position : Nat) (l : List Nat) : (insertBib bib position l).Perm (bib :: l) := by
  have moved : (insertBib bib position l).Perm (bib :: (l.take position ++ l.drop position)) := List.perm_middle
  rwa [List.take_append_drop] at moved

theorem length_insertBib (bib position : Nat) (l : List Nat) : (insertBib bib position l).length = l.length + 1 := by
  rw [(insertBib_perm bib position l).length_eq, List.length_cons]

/-- The bib stands at the index it was placed at, where the list reaches so far. -/
theorem getElem?_insertBib {position : Nat} {l : List Nat} (bib : Nat) (reaches : position ≤ l.length) :
    (insertBib bib position l)[position]? = some bib := by
  have before : (l.take position).length = position := List.length_take_of_le reaches
  rw [insertBib, List.getElem?_append_right before.le, before, Nat.sub_self, List.getElem?_cons_zero]

/-- A bib placed into a list without it, and taken out again, leaves that list. -/
theorem erase_insertBib {bib : Nat} {l : List Nat} (position : Nat) (new : bib ∉ l) :
    (insertBib bib position l).erase bib = l := by
  have notBefore : bib ∉ l.take position := fun h => new (List.mem_of_mem_take h)
  rw [insertBib, List.erase_append_right _ notBefore, List.erase_cons_head, List.take_append_drop]

/-! ### LIST_INSERT (R45) -/

/-- The nine refusals of R45, in its order. -/
def insertRefusals (bib position : Nat) (s : State) : List (Prop × Status) :=
  [(¬(1 ≤ bib ∧ bib ≤ 999), .badValue),
    (s.competition = .r1Closed ∨ s.competition = .final, .wrongState),
    (∀ c ∈ s.tables.competitors, c.bib ≠ bib, .notFound),
    (bib ∈ s.startList, .wrongState),
    (∃ k r, s.jtb.get k = some r ∧ r.bib = bib, .wrongState),
    (∃ e, entryOf s.results bib = some e ∧
      ((s.competition = .r1Open ∧ e.round1 ≠ none) ∨ (s.competition = .r2Open ∧ e.round2 ≠ none)), .wrongState),
    (∃ e, entryOf s.results bib = some e ∧ e.status = .dsq, .wrongState),
    (96 ≤ s.startList.length, .full),
    (s.startList.length < position, .badValue)]

/-- LIST_INSERT's own rule makes the nine tests in the order of R45. -/
theorem listInsert_eq_judged {bib position : Half} {s : State} {o : Option Status}
    (first : FirstOf (insertRefusals bib.toNat position.toNat s) o) :
    listInsert bib position s = judged o (.listLength (s.startList.length + 1)) s
      { s with startList := insertBib bib.toNat position.toNat s.startList } := by
  refine ite_refuse_judged first (not_bibInRange_iff _) fun _ first => ?_
  refine ite_refuse_judged first (listClosed_iff _) fun _ first => ?_
  refine ite_refuse_judged first (competitorOf_isNone_iff _ _) fun _ first => ?_
  refine ite_refuse_judged first Iff.rfl fun _ first => ?_
  refine ite_refuse_judged first (holding_isSome_iff _ _) fun _ first => ?_
  refine ite_refuse_judged first (by simp only [Option.any_eq_true, standsFor_iff]) fun _ first => ?_
  refine ite_refuse_judged first (by simp only [Option.any_eq_true, decide_eq_true_iff]) fun _ first => ?_
  refine ite_refuse_judged first Iff.rfl fun _ first => ?_
  refine ite_refuse_judged first Iff.rfl fun _ first => ?_
  rw [← length_insertBib bib.toNat position.toNat]
  exact accept_eq_judged first

/-- Settles O10: the rule's nine tests are the nine refusals, and past them the bib stands between the list's two parts. -/
theorem listInsertPlacesBib : Obligations.ListInsertPlacesBib := by
  unfold Obligations.ListInsertPlacesBib
  intro now seq bib position s o listens first
  exact request_answered listens (listInsert_eq_judged (s := s.asked now) first)

/-! ### LIST_REMOVE (R46) and LIST_MOVE (R47) -/

/-- The refusals of R46, in its order; R47 begins with them. -/
def removeRefusals (bib : Nat) (s : State) : List (Prop × Status) :=
  [(¬(1 ≤ bib ∧ bib ≤ 999), .badValue),
    (s.competition = .r1Closed ∨ s.competition = .final, .wrongState),
    (bib ∉ s.startList, .notFound)]

/-- LIST_REMOVE's own rule makes the three tests in the order of R46. -/
theorem listRemove_eq_judged {bib : Half} {s : State} {o : Option Status} (first : FirstOf (removeRefusals bib.toNat s) o) :
    listRemove bib s = judged o (.listLength (s.startList.length - 1)) s
      { s with startList := s.startList.erase bib.toNat } := by
  refine ite_refuse_judged first (not_bibInRange_iff _) fun _ first => ?_
  refine ite_refuse_judged first (listClosed_iff _) fun _ first => ?_
  refine ite_judged_refuse first not_not.symm fun listed first => ?_
  rw [List.length_erase_of_mem (not_not.mp listed)]
  exact accept_eq_judged first

/-- The refusals of R47, in its order: the index is tested last, against the list the bib rejoins. -/
def moveRefusals (bib position : Nat) (s : State) : List (Prop × Status) :=
  removeRefusals bib s ++ [(s.startList.length - 1 < position, .badValue)]

/-- LIST_MOVE's own rule makes the four tests in the order of R47. -/
theorem listMove_eq_judged {bib position : Half} {s : State} {o : Option Status}
    (first : FirstOf (moveRefusals bib.toNat position.toNat s) o) :
    listMove bib position s = judged o .nothing s
      { s with startList := insertBib bib.toNat position.toNat (s.startList.erase bib.toNat) } := by
  refine ite_refuse_judged first (not_bibInRange_iff _) fun _ first => ?_
  refine ite_refuse_judged first (listClosed_iff _) fun _ first => ?_
  refine ite_judged_refuse first not_not.symm fun listed first => ?_
  have nonempty : 0 < s.startList.length := List.length_pos_of_mem (not_not.mp listed)
  refine ite_judged_refuse first (by omega) fun _ first => ?_
  exact accept_eq_judged first

/-- What passes the tests of R47: the bib is in the list, and the index is one of the list it rejoins. -/
theorem moveRefusals_passed {bib position : Nat} {s : State} (first : FirstOf (moveRefusals bib position s) none) :
    bib ∈ s.startList ∧ position ≤ (s.startList.erase bib).length := by
  simp only [moveRefusals, removeRefusals, List.cons_append, List.nil_append, FirstOf, reduceCtorEq, and_false, false_or,
    not_not, not_lt, and_true] at first
  obtain ⟨-, -, listed, reaches⟩ := first
  rw [List.length_erase_of_mem listed]
  exact ⟨listed, reaches⟩

/-- Settles O11: LIST_REMOVE erases the bib; LIST_MOVE erases it and places it into the list that is left. -/
theorem startListEdits : Obligations.StartListEdits := by
  unfold Obligations.StartListEdits
  refine ⟨fun now seq bib s o listens first => ?_, fun now seq bib position s o listens first => ?_⟩
  · exact request_answered listens (listRemove_eq_judged (s := s.asked now) first)
  · refine ⟨insertBib bib.toNat position.toNat (s.startList.erase bib.toNat),
      request_answered listens (listMove_eq_judged (s := s.asked now) first), ?_⟩
    rintro rfl
    obtain ⟨listed, reaches⟩ := moveRefusals_passed first
    refine ⟨?perm, getElem?_insertBib _ reaches, fun nodup => erase_insertBib _ nodup.not_mem_erase⟩
    case perm =>
      exact (insertBib_perm _ _ _).trans (List.perm_cons_erase listed).symm

end Sys2Proof.Proofs
end

section
/-! The jump table's commands: REINSTATE (R74). -/

namespace Sys2Proof.Proofs

open Sys2Proof.Machine Sys2Proof.Claims

/-! ### A refusal that a search decides

A rule that looks for the record of a bib branches on what it finds; the two lemmas say what each branch does to the refusals. -/

section
variable {p : Prop} {status : Status} {rest : List (Prop × Status)} {o : Option Status}

/-- A branch that only refuses is judged so, where its refusal applies. -/
theorem refuse_eq_judged {results : Results} {s t : State} (first : FirstOf ((p, status) :: rest) o) (applies : p) :
    refuse status s = judged o results s t := by
  obtain ⟨-, rfl⟩ | ⟨passes, -⟩ := first
  · rfl
  · exact absurd applies passes

/-- A refusal that does not apply leaves those after it. -/
theorem firstOf_of_passes (first : FirstOf ((p, status) :: rest) o) (passes : ¬p) : FirstOf rest o := by
  obtain ⟨applies, -⟩ | ⟨-, later⟩ := first
  · exact absurd applies passes
  · exact later

end

theorem bibInRange_iff (bib : Nat) : bibInRange bib = true ↔ 1 ≤ bib ∧ bib ≤ 999 := decide_eq_true_iff

/-- No record of a bib is found exactly when no slot holds one (R60). -/
theorem holding_eq_none_iff (t : JumpTable) (bib : Nat) :
    t.holding bib = none ↔ ∀ k r, t.get k = some r → r.bib ≠ bib := by
  simp [JumpTable.holding, JumpTable.find_none_iff]

/-- The record found for a bib stands in the slot found with it. -/
theorem get_of_holding {t : JumpTable} {bib : Nat} {k : Fin 4} {r : JumpRecord} (held : t.holding bib = some (k, r)) :
    t.get k = some r := (JumpTable.find_some held).1

/-! ### REINSTATE (R74) -/

/-- A record with the REINSTATED flag set. -/
def withReinstated (r : JumpRecord) : JumpRecord := { r with flags := { r.flags with reinstated := true } }

/-- The three refusals of R74, in its order. -/
def reinstateRefusals (bib : Nat) (s : State) : List (Prop × Status) :=
  [(¬(1 ≤ bib ∧ bib ≤ 999), .badValue),
    (∀ k r, s.jtb.get k = some r → r.bib ≠ bib, .notFound),
    (∀ k r, s.jtb.holding bib = some (k, r) → r.flags.early = false ∧ r.flags.late = false, .wrongState)]

/-- The third refusal looks at the flags of the record that holds the bib. -/
theorem early_or_late_iff {t : JumpTable} {bib : Nat} {k : Fin 4} {r : JumpRecord} (held : t.holding bib = some (k, r)) :
    (r.flags.early || r.flags.late) = true ↔
      ¬∀ j a, t.holding bib = some (j, a) → a.flags.early = false ∧ a.flags.late = false := by
  have flags_of_held : (∀ j a, t.holding bib = some (j, a) → a.flags.early = false ∧ a.flags.late = false) ↔
      r.flags.early = false ∧ r.flags.late = false := by
    simp [held]
  rw [flags_of_held, ← Bool.or_eq_false_iff, Bool.not_eq_false]

/-- REINSTATE of a bib no record holds is refused by the first or the second test. -/
theorem reinstate_of_free {bib : Half} {s : State} {o : Option Status} (free : s.jtb.holding bib.toNat = none)
    (first : FirstOf (reinstateRefusals bib.toNat s) o) (results : Results) (t : State) :
    reinstate bib s = judged o results s t := by
  simp only [reinstate, free]
  refine ite_judged_refuse first ((bibInRange_iff _).trans not_not.symm) fun _ first => ?_
  exact refuse_eq_judged first ((holding_eq_none_iff _ _).mp free)

/-- REINSTATE of a bib that a record holds makes the first and the third test, and sets the flag of that record alone. -/
theorem reinstate_of_held {bib : Half} {s : State} {o : Option Status} {k : Fin 4} {r : JumpRecord}
    (held : s.jtb.holding bib.toNat = some (k, r)) (first : FirstOf (reinstateRefusals bib.toNat s) o) :
    reinstate bib s = judged o (.reinstated k r.state (withReinstated r).flags) s
      { s with jtb := s.jtb.set k (some (withReinstated r)) } := by
  have found : ¬∀ j a, s.jtb.get j = some a → a.bib ≠ bib.toNat := by
    rw [← holding_eq_none_iff, held]
    exact Option.some_ne_none _
  simp only [reinstate, held]
  refine ite_judged_refuse first ((bibInRange_iff _).trans not_not.symm) fun _ first => ?_
  refine ite_judged_refuse (firstOf_of_passes first found) (early_or_late_iff held) fun _ first => ?_
  rw [State.updateRecord_of_get s k _ (get_of_holding held)]
  exact accept_eq_judged first

/-- R160: the REINSTATED flag keeps a record from being scored DSQ. -/
theorem isDsq_eq_false_of_reinstated {r : JumpRecord} (reinstated : r.flags.reinstated = true) : r.isDsq = false := by
  rw [JumpRecord.isDsq, reinstated, Bool.not_true, Bool.and_false]

/-- Settles O37: by whether a record holds the bib; with none every answer is a refusal, with one the flag is set in its slot. -/
theorem reinstateSetsFlag : Obligations.ReinstateSetsFlag := by
  unfold Obligations.ReinstateSetsFlag
  refine ⟨fun now seq bib s o listens first => ?_, fun r => isDsq_eq_false_of_reinstated⟩
  cases held : s.jtb.holding bib.toNat with
  | none =>
    have exec_eq : exec (.reinstate now seq bib) s = answered now seq 0x38 o .nothing s s :=
      request_answered listens (reinstate_of_free (s := s.asked now) held first _ _)
    refine ⟨?refuses, fun k r _ noRecord => nomatch noRecord⟩
    case refuses =>
      rintro status rfl
      exact exec_eq
  | some found =>
    obtain ⟨k, r⟩ := found
    have exec_eq : exec (.reinstate now seq bib) s =
        answered now seq 0x38 o (.reinstated k r.state (withReinstated r).flags) s
          { s with jtb := s.jtb.set k (some (withReinstated r)) } :=
      request_answered listens (reinstate_of_held (s := s.asked now) held first)
    refine ⟨?refuses, ?accepts⟩
    case refuses =>
      rintro status rfl
      exact exec_eq
    case accepts =>
      rintro _ _ rfl ⟨⟩
      exact exec_eq

end Sys2Proof.Proofs
end

section
/-! The start gate: CLEAR (R107, Table 7-1) and SET_REFERENCE_GATE (R105). -/

namespace Sys2Proof.Proofs

open Sys2Proof.Machine Sys2Proof.Claims

/-! ### The step of a request that listens -/

/-- A request judged by its own rule: the reply fills the place taken, and OLU may start a frame (R183, R184). -/
theorem request_of_listens {s : State} (now : Time) (seq code : Byte) (body : State → Answer) (listens : Listens s) :
    request now seq code body s = .next (State.fillPlace seq code (body (s.asked now))).pumpOffice := by
  obtain ⟨⟨held, free, room⟩, ready⟩ := listens
  exact request_judged _ _ _ _ _ held free room ready

/-! ### What the rules of the start test -/

theorem isOpen_iff_roundOpen (s : State) : s.competition.isOpen = true ↔ RoundOpen s := by
  unfold RoundOpen
  cases s.competition <;> simp [CompState.isOpen]

theorem not_isOpen_iff (s : State) : (!s.competition.isOpen) = true ↔ ¬RoundOpen s := by
  rw [Bool.not_eq_true', ← Bool.not_eq_true, isOpen_iff_roundOpen]

theorem isPresent_iff_stationPresent (s : State) (kind : StationKind) :
    s.isPresent kind = true ↔ StationPresent s kind := by
  unfold State.isPresent State.presenceOf StationPresent
  cases stationOfKind s.tables.stations kind with
  | none => simp
  | some e => simp [Option.map_eq_some_iff]

/-- R64: the six states that at most one record is in. -/
theorem active_iff (x : RecState) :
    x.active = true ↔ x = .cleared ∨ x = .green ∨ x = .late ∨ x = .inRun ∨ x = .flight ∨ x = .landing := by
  cases x <;> simp [RecState.active, RecState.onBar, RecState.onCourse]

/-- A record is found in some states exactly when a slot holds one there. -/
theorem inState_isSome_iff (t : JumpTable) (p : RecState → Bool) :
    (t.inState p).isSome = true ↔ ∃ k r, t.get k = some r ∧ p r.state = true := by
  rw [← Option.ne_none_iff_isSome, ne_eq, JumpTable.inState_none_iff]
  push Not
  simp only [ne_eq, Bool.not_eq_false]

/-- The third refusal of Table 7-1 looks for a record in one of the six states of R64. -/
theorem active_isSome_iff (t : JumpTable) :
    (t.inState RecState.active).isSome = true ↔
      ∃ k r, t.get k = some r ∧ (r.state = .cleared ∨ r.state = .green ∨ r.state = .late ∨ r.state = .inRun ∨
        r.state = .flight ∨ r.state = .landing) := by
  simp only [inState_isSome_iff, active_iff]

/-- No slot is found free exactly when each holds a record (R60). -/
theorem freeSlot_eq_none_iff (t : JumpTable) : t.freeSlot = none ↔ ∀ k, t.get k ≠ none := by
  simp only [JumpTable.freeSlot, JumpTable.get, Fin.forall_fin_succ]
  cases t.slot0 <;> cases t.slot1 <;> cases t.slot2 <;> cases t.slot3 <;> simp

/-- The slot found free holds no record. -/
theorem get_of_freeSlot {t : JumpTable} {k : Fin 4} (free : t.freeSlot = some k) : t.get k = none := by
  unfold JumpTable.freeSlot at free
  split_ifs at free
  all_goals
    cases free
    exact Option.isNone_iff_eq_none.mp ‹_ = true›

/-! ### The slot and the start list through CLEAR's own operations -/

/-- A state entry changes the jump table in the record's state alone. -/
theorem enterState_jtb (s : State) (k : Fin 4) (x : RecState) :
    (s.enterState k x).jtb = (s.updateRecord k (·.inState x)).jtb := by
  simp [State.enterState]

theorem enterState_startList (s : State) (k : Fin 4) (x : RecState) : (s.enterState k x).startList = s.startList := by
  simp [State.enterState]

/-- A GREEN entry keeps the bib of the record in its slot (R112). -/
theorem enterGreen_bib {s : State} {k : Fin 4} {r : JumpRecord} (held : s.jtb.get k = some r) :
    ∃ g, (s.enterGreen k).jtb.get k = some g ∧ g.bib = r.bib := by
  simp [State.enterGreen, enterState_jtb, State.updateRecord, held, JumpRecord.inState]

theorem enterGreen_startList (s : State) (k : Fin 4) : (s.enterGreen k).startList = s.startList := by
  simp [State.enterGreen, enterState_startList]

/-- The created record stands in its slot (R61). -/
theorem createRecord_get (s : State) (k : Fin 4) (bib : Nat) (rest : List Nat) :
    (s.createRecord k bib rest).jtb.get k = some (newRecord s.jtb.nextSerial s.competition s.stu bib s.now) := by
  simp [State.createRecord]

theorem createRecord_startList (s : State) (k : Fin 4) (bib : Nat) (rest : List Nat) :
    (s.createRecord k bib rest).startList = rest := by
  simp [State.createRecord]

/-! ### CLEAR (R107, R108) -/

/-- The state that CLEAR leaves where it takes the head of the list: the wind wait armed with the wind-gate switch ON, GREEN at
once with it OFF (R108). -/
def headCleared (k : Fin 4) (bib : Nat) (rest : List Nat) (s : State) : State :=
  let created := s.createRecord k bib rest
  if s.stu.windGate then
    { created with stu := { created.stu with windWait := some (after s.now (s.tables.hill.windWait * Config.second)) } }
  else created.enterGreen k

/-- The cleared jumper holds the slot, under the bib of the list's head. -/
theorem headCleared_bib (k : Fin 4) (bib : Nat) (rest : List Nat) (s : State) :
    ∃ r, (headCleared k bib rest s).jtb.get k = some r ∧ r.bib = bib := by
  have created := createRecord_get s k bib rest
  unfold headCleared
  split
  case isTrue => exact ⟨_, created, rfl⟩
  case isFalse => exact enterGreen_bib created

theorem headCleared_startList (k : Fin 4) (bib : Nat) (rest : List Nat) (s : State) :
    (headCleared k bib rest s).startList = rest := by
  unfold headCleared
  split
  case isTrue => exact createRecord_startList s k bib rest
  case isFalse => rw [enterGreen_startList, createRecord_startList]

section
variable {s : State} {o : Option Status}

/-- CLEAR with an empty start list is refused by the first or the second test of Table 7-1. -/
theorem clearJumper_of_empty (empty : s.startList = []) (first : FirstOf (clearRefusals s) o) (results : Results) (t : State) :
    clearJumper s = judged o results s t := by
  simp only [clearJumper, empty]
  refine ite_refuse_judged first (not_isOpen_iff s) fun _ first => ?_
  exact refuse_eq_judged first empty

/-- CLEAR with a list and no free slot is refused by the first, the third or the fourth test of Table 7-1. -/
theorem clearJumper_of_full {bib : Nat} {rest : List Nat} (listed : s.startList = bib :: rest) (full : s.jtb.freeSlot = none)
    (first : FirstOf (clearRefusals s) o) (results : Results) (t : State) : clearJumper s = judged o results s t := by
  have nonempty : s.startList ≠ [] := by simp [listed]
  simp only [clearJumper, listed, full]
  refine ite_refuse_judged first (not_isOpen_iff s) fun _ first => ?_
  refine ite_refuse_judged (firstOf_of_passes first nonempty) (active_isSome_iff s.jtb) fun _ first => ?_
  exact refuse_eq_judged first ((freeSlot_eq_none_iff s.jtb).mp full)

/-- CLEAR with a list and a free slot makes the four tests of Table 7-1 that are left, and takes the head of the list. -/
theorem clearJumper_of_head {bib : Nat} {rest : List Nat} {k : Fin 4} (listed : s.startList = bib :: rest)
    (free : s.jtb.freeSlot = some k) (first : FirstOf (clearRefusals s) o) :
    clearJumper s =
      judged o (.jumpAt bib k (if s.stu.windGate then .cleared else .green)) s (headCleared k bib rest s) := by
  have nonempty : s.startList ≠ [] := by simp [listed]
  have notFull : ¬∀ j, s.jtb.get j ≠ none := fun full => full k (get_of_freeSlot free)
  have dark : (!s.isPresent .light) = true ↔ ¬StationPresent s .light := by
    rw [Bool.not_eq_true', ← Bool.not_eq_true, isPresent_iff_stationPresent]
  simp only [clearJumper, listed, free]
  refine ite_refuse_judged first (not_isOpen_iff s) fun _ first => ?_
  refine ite_refuse_judged (firstOf_of_passes first nonempty) (active_isSome_iff s.jtb) fun _ first => ?_
  refine ite_refuse_judged (firstOf_of_passes first notFull) dark fun _ first => ?_
  refine ite_refuse_judged first Option.isNone_iff_eq_none fun _ first => ?_
  rw [← accept_eq_judged first]
  unfold headCleared
  split <;> rfl

/-- The first refusal of Table 7-1 that applies is CLEAR's answer. -/
theorem clearJumper_refused {status : Status} (first : FirstOf (clearRefusals s) (some status)) :
    clearJumper s = refuse status s := by
  cases listed : s.startList with
  | nil => exact clearJumper_of_empty listed first .nothing s
  | cons bib rest =>
    cases free : s.jtb.freeSlot with
    | none => exact clearJumper_of_full listed free first .nothing s
    | some k => exact clearJumper_of_head listed free first

/-- What passes Table 7-1: the list has a head, and some slot is free. -/
theorem clearRefusals_passed (first : FirstOf (clearRefusals s) none) :
    ∃ bib rest k, s.startList = bib :: rest ∧ s.jtb.freeSlot = some k := by
  simp only [clearRefusals, FirstOf, reduceCtorEq, and_false, false_or] at first
  obtain ⟨-, nonempty, -, notFull, -⟩ := first
  obtain ⟨bib, rest, listed⟩ := List.exists_cons_of_ne_nil nonempty
  obtain ⟨k, free⟩ := Option.ne_none_iff_exists'.mp (mt (freeSlot_eq_none_iff s.jtb).mp notFull)
  exact ⟨bib, rest, k, listed, free⟩

end

/-- Settles O15: by what Table 7-1's second and fourth tests find, an empty list, a full table, or a head and a free slot; past
all six tests the head of the list stands in that slot. -/
theorem clearIsJudged : Obligations.ClearIsJudged := by
  unfold Obligations.ClearIsJudged
  intro now seq s o listens first
  refine ⟨?refuses, ?takes⟩
  case refuses =>
    rintro status rfl
    exact request_refused listens (clearJumper_refused (s := s.asked now) first)
  case takes =>
    rintro rfl
    obtain ⟨bib, rest, k, listed, free⟩ := clearRefusals_passed first
    have taken : exec (.clear now seq) s = .next (State.fillPlace seq 0x30 _).pumpOffice :=
      request_of_listens now seq 0x30 clearJumper listens
    rw [clearJumper_of_head (s := s.asked now) listed free first] at taken
    obtain ⟨r, stands, rfl⟩ := headCleared_bib k bib rest (s.asked now)
    refine ⟨_, k, r, taken, get_of_freeSlot free, ?inSlot, ?fromList⟩
    case inSlot =>
      rw [State.pumpOffice_jtb]
      exact stands
    case fromList =>
      rw [State.pumpOffice_startList, listed]
      exact congrArg (r.bib :: ·) (headCleared_startList k r.bib rest (s.asked now)).symm

/-! ### SET_REFERENCE_GATE (R105) -/

/-- The two refusals of R105, in its order. -/
def referenceRefusals (gate : Nat) (s : State) : List (Prop × Status) :=
  [(40 < gate, .badValue), (RoundOpen s ∧ s.stu.referenceFixed = true, .wrongState)]

/-- SET_REFERENCE_GATE's own rule makes the two tests, and stores the gate with 0 as unset. -/
theorem setReference_eq_judged {gate : Byte} {s : State} {o : Option Status} (first : FirstOf (referenceRefusals gate.toNat s) o) :
    setReference gate s = judged o (.referenceGate (if gate.toNat = 0 then none else some gate.toNat)) s
      { s with stu := { s.stu with pendingReference := if gate.toNat = 0 then none else some gate.toNat } } := by
  have fixedInRound : (s.competition.isOpen && s.stu.referenceFixed) = true ↔ RoundOpen s ∧ s.stu.referenceFixed = true := by
    rw [Bool.and_eq_true, isOpen_iff_roundOpen]
  refine ite_refuse_judged first Iff.rfl fun _ first => ?_
  refine ite_refuse_judged first fixedInRound fun _ first => ?_
  exact accept_eq_judged first

/-- RESULTS_CLEAR, refused or not, leaves the pending reference gate as it is. -/
theorem resultsClear_pendingReference (s : State) :
    (resultsClear s).state.stu.pendingReference = s.stu.pendingReference := by
  unfold resultsClear
  split
  case isTrue => rfl
  case isFalse => simp [accept, State.deriveLamp]

/-- Settles O17: the rule's two tests are the two refusals of R105; RESULTS_CLEAR changes the lamp alone in STU. -/
theorem referenceGateSet : Obligations.ReferenceGateSet := by
  unfold Obligations.ReferenceGateSet
  intro now seq gate s listens
  refine ⟨fun o first => ?sets, fun t cleared => ?keeps⟩
  case sets =>
    exact request_answered listens (setReference_eq_judged (s := s.asked now) first)
  case keeps =>
    have exec_eq : exec (.resultsClear now seq) s =
        .next (State.fillPlace seq 0x22 (resultsClear (s.asked now))).pumpOffice :=
      request_of_listens now seq 0x22 resultsClear listens
    rw [exec_eq] at cleared
    cases cleared
    rw [State.pumpOffice_stu]
    exact resultsClear_pendingReference (s.asked now)

end Sys2Proof.Proofs
end

section
/-! The management requests that do not wait for READY: IDENTIFY (R189, R191). -/

namespace Sys2Proof.Proofs

open Sys2Proof.Machine Sys2Proof.Claims

/-- A request that is taken before and after READY, whose own rule answers with a status and results and leaves `u`. -/
theorem early_request_replied {now : Time} {seq code : Byte} {body : State → Answer} {s u : State} {status : Status}
    {results : Results} (takes : Takes s) (answers : body (s.asked now) = ⟨status, results, u.asked now⟩) :
    event now (State.takeRequest seq code true body) s = .next (replied now seq code status results u) := by
  obtain ⟨held, free, room⟩ := takes
  rw [event_takeRequest _ _ _ _ _ _ held free room (.inr rfl), answers, pumpOffice_fillPlace_asked]

/-- IDENTIFY's own rule: the part code, the revision and the ready state, with nothing changed (R191). -/
theorem identify_asked (now : Time) (s : State) :
    identify (s.asked now) = accept (.identity 0x2100 1 s.ready) (s.asked now) := rfl

/-- Settles O4: IDENTIFY is judged by its own rule whatever READY is, and that rule leaves the state as it is. -/
theorem identifyAnswers : Obligations.IdentifyAnswers := by
  unfold Obligations.IdentifyAnswers
  intro now seq s takes
  exact early_request_replied takes (identify_asked now s)

end Sys2Proof.Proofs
end

section
/-! What every operation of a command keeps, in three parts: the queues, counters, conditions and marks; the records, the lists and
the lamp; the tables and the wind contexts. The invariants of O56 to O59 are derived from it. -/

namespace Sys2Proof.Proofs

open Sys2Proof.Machine Sys2Proof.Claims

/-! ### The three parts -/

/-- The frames an office queue holds, without a place taken for a reply. -/
def framesOf (q : OfficeQueue) : Nat := q.replies.length + q.reports.length + q.mirrors.length + q.sending.isSome.toNat

/-- The fields that the bounds speak of. -/
def linesView (s : State) := (s.office, s.lsc.segT.queue, s.lsc.segS.queue, s.lineT.counters, s.lineS.counters, s.lineO.counters,
  s.conditions, s.hck.marks, s.lsc.cycleCount)

/-- The fields that the lamp law and the lists' laws speak of. -/
def listsView (s : State) := (s.jtb, s.startList, s.results, s.competition, s.stu.lamp, s.lsc.lampSlot)

/-- The fields that the tables' checks and the wind law speak of. -/
def tablesView (s : State) := (s.tables, s.store, s.engine, s.wnd.contexts)

/-- The bounds are kept. A request takes its place before its own rule is judged, so the office queue is counted without it; a
report is admitted below 60 and a mirror below 48, so any room from 60 on is kept. -/
structure KeepsLines (s t : State) : Prop where
  room : ∀ n, 60 ≤ n → framesOf s.office ≤ n → framesOf t.office ≤ n
  mirrors : s.office.mirrorCount ≤ 48 → t.office.mirrorCount ≤ 48
  place : t.office.place = true → s.office.place = true
  queueT : s.lsc.segT.queue.length ≤ 32 → t.lsc.segT.queue.length ≤ 32
  queueS : s.lsc.segS.queue.length ≤ 32 → t.lsc.segS.queue.length ≤ 32
  status : StatusLegal s → StatusLegal t
  history : HistoryFits s → HistoryFits t

/-- The laws of the records, the lists and the lamp are kept. -/
structure KeepsLists (s t : State) : Prop where
  lamp : OneActive s.jtb → RecordsInRound s → LampLaw s → OneActive t.jtb ∧ RecordsInRound t ∧ LampLaw t
  rounds : RecordsInRound s → RecordsInRound t
  bibs : RecordsInRound s → BibLaw s → ResultsOrdered s → BibLaw t ∧ ResultsOrdered t

/-- The tables' checks and the wind law are kept. -/
structure KeepsTables (s t : State) : Prop where
  tables : TablesFit s → TablesFit t
  wind : TablesFit s → WindLaw s → WindLaw t

/-- All three parts are kept. -/
structure Keeps (s t : State) : Prop where
  lines : KeepsLines s t
  lists : KeepsLists s t
  tables : KeepsTables s t

theorem KeepsLines.of_same {s t : State} (h : linesView t = linesView s) : KeepsLines s t := by
  simp only [linesView, Prod.mk.injEq] at h
  obtain ⟨office, queueT, queueS, countersT, countersS, countersO, conditions, marks, cycles⟩ := h
  refine ⟨?_, ?_, ?_, ?_, ?_, ?_, ?_⟩
  · rw [office]; exact fun _ _ => id
  · rw [office]; exact id
  · rw [office]; exact id
  · rw [queueT]; exact id
  · rw [queueS]; exact id
  · unfold StatusLegal; rw [countersT, countersS, countersO, conditions]; exact id
  · unfold HistoryFits; rw [marks, cycles]; exact id

theorem KeepsLists.of_same {s t : State} (h : listsView t = listsView s) : KeepsLists s t := by
  simp only [listsView, Prod.mk.injEq] at h
  obtain ⟨records, startList, results, competition, lamp, lampSlot⟩ := h
  refine ⟨?_, ?_, ?_⟩
  · unfold RecordsInRound LampLaw RoundOpen
    rw [records, competition, lamp, lampSlot]
    exact fun a b c => ⟨a, b, c⟩
  · unfold RecordsInRound RoundOpen; rw [records, competition]; exact id
  · unfold BibLaw ResultsOrdered recordBibs
    rw [records, startList, results]
    exact fun _ a b => ⟨a, b⟩

theorem KeepsTables.of_same {s t : State} (h : tablesView t = tablesView s) : KeepsTables s t := by
  simp only [tablesView, Prod.mk.injEq] at h
  obtain ⟨tables, store, engine, contexts⟩ := h
  refine ⟨?_, ?_⟩
  · unfold TablesFit; rw [tables, store, engine]; exact id
  · unfold WindLaw; rw [tables, contexts]; exact fun _ => id

theorem KeepsLines.trans {s t u : State} (h : KeepsLines s t) (h' : KeepsLines t u) : KeepsLines s u where
  room n hn := h'.room n hn ∘ h.room n hn
  mirrors := h'.mirrors ∘ h.mirrors
  place := h.place ∘ h'.place
  queueT := h'.queueT ∘ h.queueT
  queueS := h'.queueS ∘ h.queueS
  status := h'.status ∘ h.status
  history := h'.history ∘ h.history

theorem KeepsLists.trans {s t u : State} (h : KeepsLists s t) (h' : KeepsLists t u) : KeepsLists s u where
  lamp one round law := by
    obtain ⟨one, round, law⟩ := h.lamp one round law
    exact h'.lamp one round law
  rounds := h'.rounds ∘ h.rounds
  bibs round law order := by
    obtain ⟨law, order⟩ := h.bibs round law order
    exact h'.bibs (h.rounds round) law order

theorem KeepsTables.trans {s t u : State} (h : KeepsTables s t) (h' : KeepsTables t u) : KeepsTables s u where
  tables := h'.tables ∘ h.tables
  wind fit law := h'.wind (h.tables fit) (h.wind fit law)

theorem Keeps.trans {s t u : State} (h : Keeps s t) (h' : Keeps t u) : Keeps s u :=
  ⟨h.lines.trans h'.lines, h.lists.trans h'.lists, h.tables.trans h'.tables⟩

/-- A change of fields that none of the laws speaks of. -/
theorem Keeps.quiet {s t : State} (lines : linesView t = linesView s) (lists : listsView t = listsView s)
    (tables : tablesView t = tablesView s) : Keeps s t := ⟨.of_same lines, .of_same lists, .of_same tables⟩

/-- A change of the queues, counters, conditions or marks alone. -/
theorem Keeps.of_lines {s t : State} (lines : KeepsLines s t) (lists : listsView t = listsView s)
    (tables : tablesView t = tablesView s) : Keeps s t := ⟨lines, .of_same lists, .of_same tables⟩

/-- A change of the records, the lists or the lamp alone. -/
theorem Keeps.of_lists {s t : State} (lists : KeepsLists s t) (lines : linesView t = linesView s)
    (tables : tablesView t = tablesView s) : Keeps s t := ⟨.of_same lines, lists, .of_same tables⟩

/-- A change of the tables or the wind contexts alone. -/
theorem Keeps.of_tables {s t : State} (tables : KeepsTables s t) (lines : linesView t = linesView s)
    (lists : listsView t = listsView s) : Keeps s t := ⟨.of_same lines, .of_same lists, tables⟩

theorem Keeps.refl (s : State) : Keeps s s := .quiet rfl rfl rfl

/-- A fold of steps that each keep the laws keeps them. -/
theorem Keeps.foldl {α : Type} {f : State → α → State} (step : ∀ u a, Keeps u (f u a)) (l : List α) (s : State) :
    Keeps s (l.foldl f s) := by
  induction l generalizing s with
  | nil => exact .refl s
  | cons a rest ih => exact (step s a).trans (ih _)

theorem setNow_keeps (s : State) (t : Time) : Keeps s (s.setNow t) := .quiet rfl rfl rfl

end Sys2Proof.Proofs
end

section
/-! The operations that report, mirror, count and send pages keep the laws (R5, R22, R23, R177, R182). -/

namespace Sys2Proof.Proofs

open Sys2Proof.Machine Sys2Proof.Claims

/-! ### The office queue -/

theorem count_eq_framesOf (q : OfficeQueue) : q.count = framesOf q + q.place.toNat := rfl

/-- The room of an office queue with one frame more that was admitted below 60. -/
theorem offerReport_room (s : State) (r : Report) (n : Nat) (hn : 60 ≤ n) (h : framesOf s.office ≤ n) :
    framesOf (s.offerReport r).office ≤ n := by
  unfold State.offerReport
  split
  case isTrue admitted =>
    have := count_eq_framesOf s.office
    simp only [Config.reportLimit] at admitted
    simp only [framesOf, List.length_append, List.length_cons, List.length_nil] at *
    omega
  case isFalse =>
    unfold State.loseReport
    split <;> exact h

/-- A report that is refused sets REPORT_LOST, whose V stays as it is. -/
theorem offerReport_values (s : State) (r : Report) (c : CondName) :
    ((s.offerReport r).conditions.get c).v = (s.conditions.get c).v := by
  unfold State.offerReport State.loseReport
  split
  · rfl
  · split
    · rfl
    · cases c <;> rfl

/-- The bounds but for the conditions' values: a step that adds reports and moves no V of an event condition keeps them. -/
theorem KeepsLines.of_reports {s t : State}
    (room : ∀ n, 60 ≤ n → framesOf s.office ≤ n → framesOf t.office ≤ n)
    (values : ∀ c : CondName, c.isState = false → (t.conditions.get c).v = true → (s.conditions.get c).v = true)
    (mirrors : t.office.mirrors = s.office.mirrors) (sending : t.office.sending = s.office.sending)
    (place : t.office.place = s.office.place) (lsc : t.lsc = s.lsc) (hck : t.hck = s.hck)
    (lineT : t.lineT.counters = s.lineT.counters) (lineS : t.lineS.counters = s.lineS.counters)
    (lineO : t.lineO.counters = s.lineO.counters) : KeepsLines s t where
  room := room
  mirrors := by simp only [OfficeQueue.mirrorCount, mirrors, sending]; exact id
  place := by rw [place]; exact id
  queueT := by rw [lsc]; exact id
  queueS := by rw [lsc]; exact id
  status := by
    unfold StatusLegal
    rw [lineT, lineS, lineO]
    rintro ⟨a, b, c, d, e, f⟩
    exact ⟨a, b, c, d, e, fun x hx => by
      have := f x hx
      have := values x hx
      simp_all⟩
  history := by unfold HistoryFits; rw [hck, lsc]; exact id

theorem offerReport_keeps (s : State) (r : Report) : Keeps s (s.offerReport r) := by
  obtain ⟨-, mirrors, sending, place, -⟩ := s.offerReport_gains r
  exact .of_lines
    (.of_reports (offerReport_room s r) (fun c _ => by rw [offerReport_values]; exact id) mirrors sending place (by simp) (by simp)
      (by simp) (by simp) (by simp))
    (by simp [listsView]) (by simp [tablesView])

theorem reportJump_keeps (s : State) (r : Report) : Keeps s (s.reportJump r) := by
  unfold State.reportJump
  split
  · exact offerReport_keeps s r
  · exact .refl s

theorem reportResult_keeps (s : State) (r : Report) : Keeps s (s.reportResult r) := by
  unfold State.reportResult
  split
  · exact offerReport_keeps s r
  · exact .refl s

theorem reportStation_keeps (s : State) (addr : Nat) (old new : Presence) : Keeps s (s.reportStation addr old new) := by
  unfold State.reportStation
  split
  · exact offerReport_keeps s _
  · exact .refl s

theorem reportRecord_keeps (s : State) (k : Fin 4) (reason : JumpReason) : Keeps s (s.reportRecord k reason) := by
  unfold State.reportRecord
  split
  · exact .refl s
  · exact reportJump_keeps s _

theorem offerCondition_keeps (s : State) (c : CondName) : Keeps s (s.offerCondition c) := by
  unfold State.offerCondition
  split
  · exact offerReport_keeps s _
  · exact .refl s

/-- A condition replaced: an event condition must not gain a V. -/
theorem setCondition_keeps (s : State) (c : CondName) (x : Condition)
    (value : c.isState = false → x.v = true → (s.conditions.get c).v = true) : Keeps s (s.setCondition c x) := by
  refine .of_lines (.of_reports (fun _ _ => id) (fun d hd => ?_) rfl rfl rfl rfl rfl rfl rfl rfl) rfl rfl
  by_cases same : d = c
  · subst same
    simpa [State.setCondition] using value hd
  · simp only [State.setCondition, Conditions.get_set_ne _ _ _ _ same]
    exact id

theorem raise_keeps (s : State) (c : CondName) (n : Nat) : Keeps s (s.raise c n) := by
  unfold State.raise
  split
  · exact .refl s
  · have set : Keeps s (s.setCondition c { s.conditions.get c with i := true, argument := n }) :=
      setCondition_keeps s c _ fun _ => id
    exact set.trans (offerCondition_keeps _ c)

/-- The V of a state condition is set. -/
theorem setV_keeps (s : State) (c : CondName) (v : Bool) (state : c.isState = true) : Keeps s (s.setV c v) := by
  have set : Keeps s (s.setCondition c { s.conditions.get c with v := v }) :=
    setCondition_keeps s c _ fun h => by rw [state] at h; cases h
  unfold State.setV
  dsimp only
  split
  · exact set.trans (raise_keeps _ c 0)
  · exact set

theorem updateHeld_keeps (s : State) : Keeps s s.updateHeld := setV_keeps s .jumpHeld _ rfl

theorem announcePresence_keeps (s : State) (addr : Nat) (old new : Presence) : Keeps s (s.announcePresence addr old new) :=
  (reportStation_keeps s addr old new).trans (raise_keeps _ _ _)

theorem noteChanges_keeps (s : State) (old new : List WindContext) : Keeps s (s.noteChanges old new) := by
  refine Keeps.foldl (fun u x => ?_) _ s
  split
  · exact .refl u
  · exact raise_keeps u _ _

/-- A mirror is admitted below 48 (R182). -/
theorem offerMirror_keeps (s : State) (m : Mirror) : Keeps s (s.offerMirror m) := by
  unfold State.offerMirror
  split
  case isFalse => exact .refl s
  case isTrue admitted =>
    have counted := count_eq_framesOf s.office
    simp only [Config.mirrorLimit] at admitted
    refine .of_lines ⟨fun n hn _ => ?_, fun _ => ?_, id, id, id, id, id⟩ rfl rfl
    · simp only [framesOf, List.length_append, List.length_cons, List.length_nil] at *
      omega
    · have : s.office.mirrors.length + s.office.sending.isSome.toNat < 48 := by
        simp only [framesOf] at counted
        omega
      simp only [OfficeQueue.mirrorCount, List.length_append, List.length_cons, List.length_nil]
      cases h : s.office.sending with
      | none => simp [h] at this ⊢; omega
      | some f => cases f <;> simp [h] at this ⊢ <;> omega

/-- A frame moves from its class into transmission: the frames are as many. -/
theorem pumpOffice_frames (s : State) : framesOf s.pumpOffice.office = framesOf s.office := by
  unfold State.pumpOffice
  split
  · rfl
  · next idle =>
    split
    · next h => simp [framesOf, State.startSending, idle, h]; omega
    · next h =>
      split
      · next h' => simp [framesOf, State.startSending, idle, h, h']; omega
      · next h' =>
        split
        · next h'' => simp [framesOf, State.startSending, idle, h, h', h'']
        · rfl

theorem pumpOffice_mirrorCount (s : State) : s.pumpOffice.office.mirrorCount = s.office.mirrorCount := by
  unfold State.pumpOffice
  split
  · rfl
  · next idle =>
    split
    · simp [OfficeQueue.mirrorCount, State.startSending, idle]
    · split
      · simp [OfficeQueue.mirrorCount, State.startSending, idle]
      · split
        · next h => simp [OfficeQueue.mirrorCount, State.startSending, idle, h]
        · rfl

theorem pumpOffice_place (s : State) : s.pumpOffice.office.place = s.office.place := by
  unfold State.pumpOffice
  repeat' split
  all_goals rfl

theorem pumpOffice_counters (s : State) : s.pumpOffice.lineO.counters = s.lineO.counters := by
  unfold State.pumpOffice
  repeat' split
  all_goals rfl

theorem pumpOffice_keeps (s : State) : Keeps s s.pumpOffice := by
  refine .of_lines ⟨?_, ?_, ?_, ?_, ?_, ?_, ?_⟩ (by simp [listsView]) (by simp [tablesView])
  · intro n _; rw [pumpOffice_frames]; exact id
  · rw [pumpOffice_mirrorCount]; exact id
  · rw [pumpOffice_place]; exact id
  · simp
  · simp
  · simp [StatusLegal, pumpOffice_counters]
  · simp [HistoryFits]

/-! ### Counters -/

theorem countUp_le {n : Nat} (h : n ≤ 65535) : countUp n ≤ 65535 := by
  unfold countUp Config.counterTop
  split <;> omega

theorem bump_fits {c : Counters} (h : CountersFit c) (x : CounterName) : CountersFit (c.bump x) := by
  obtain ⟨framing, crc, address, source, timeout⟩ := h
  cases x
  · exact ⟨countUp_le framing, crc, address, source, timeout⟩
  · exact ⟨framing, countUp_le crc, address, source, timeout⟩
  · exact ⟨framing, crc, countUp_le address, source, timeout⟩
  · exact ⟨framing, crc, address, countUp_le source, timeout⟩
  · exact ⟨framing, crc, address, source, countUp_le timeout⟩

/-- A line unit replaced by one whose counters are legal when those of the old one were. -/
theorem setLine_keeps (s : State) (p : Port) (u : LineUnit) (fits : CountersFit (s.line p).counters → CountersFit u.counters)
    (portO : p = .O → s.lineO.counters.source = 0 → s.lineO.counters.slotTimeout = 0 →
      u.counters.source = 0 ∧ u.counters.slotTimeout = 0) : Keeps s (s.setLine p u) := by
  refine .of_lines ⟨by simp, by simp, by simp, by simp, by simp, ?_, by simp [HistoryFits]⟩ (by simp [listsView])
    (by simp [tablesView])
  rintro ⟨a, b, c, d, e, f⟩
  cases p
  · exact ⟨fits a, b, c, d, e, f⟩
  · exact ⟨a, fits b, c, d, e, f⟩
  · obtain ⟨d, e⟩ := portO rfl d e
    exact ⟨a, b, fits c, d, e, f⟩

/-- A line unit replaced by one with the same counters. -/
theorem setLine_keeps_of_same (s : State) (p : Port) (u : LineUnit) (same : u.counters = (s.line p).counters) :
    Keeps s (s.setLine p u) := by
  refine setLine_keeps s p u (by rw [same]; exact id) ?_
  rintro rfl d e
  rw [same]
  exact ⟨d, e⟩

/-- A counted failure: port O counts no SOURCE and no SLOT_TIMEOUT. -/
theorem countFailure_keeps (s : State) (p : Port) (c : CounterName) (portO : p = .O → c ≠ .source ∧ c ≠ .slotTimeout) :
    Keeps s (s.countFailure p c) := by
  refine Keeps.trans (setLine_keeps s p _ (fun h => bump_fits h c) ?_) (raise_keeps _ _ _)
  rintro rfl d e
  obtain ⟨notSource, notTimeout⟩ := portO rfl
  cases c <;> first | exact ⟨d, e⟩ | exact absurd rfl notSource | exact absurd rfl notTimeout

/-! ### The downstream queues and the segments -/

/-- A segment replaced by one whose queue stays within its bound. -/
theorem setSeg_keeps (s : State) (p : Seg) (g : Segment) (bound : (s.seg p).queue.length ≤ 32 → g.queue.length ≤ 32) :
    Keeps s (s.setSeg p g) := by
  refine .of_lines ?_ (by simp [listsView]) (by simp [tablesView])
  cases p
  · exact ⟨fun _ _ => id, id, id, bound, id, id, id⟩
  · exact ⟨fun _ _ => id, id, id, id, bound, id, id⟩

theorem setSeg_keeps_of_same (s : State) (p : Seg) (g : Segment) (same : g.queue = (s.seg p).queue) :
    Keeps s (s.setSeg p g) := setSeg_keeps s p g (by rw [same]; exact id)

theorem queuePage_length {board : Nat} {kind : PageKind} {payload : List Byte} {q : List QueuedFrame} (h : q.length ≤ 32) :
    (queuePage board kind payload q).length ≤ 32 := by
  unfold queuePage Config.downstreamLimit
  split
  · simpa using h
  · split
    · simp; omega
    · exact h

theorem queuePages_length (kind : PageKind) (payload : List Byte) (boards : List Nat) {q : List QueuedFrame}
    (h : q.length ≤ 32) : (boards.foldl (fun q b => queuePage b kind payload q) q).length ≤ 32 := by
  induction boards generalizing q with
  | nil => exact h
  | cons b rest ih => exact ih (queuePage_length h)

theorem sendPage_keeps (s : State) (kind : PageKind) : Keeps s (s.sendPage kind) :=
  setSeg_keeps s .S _ fun h => queuePages_length kind _ _ h

/-- The display's own fields are none of those the laws speak of. -/
theorem display_keeps (s : State) (d : Display) : Keeps s { s with dsp := d } := .quiet rfl rfl rfl

theorem sendCurrent_keeps (s : State) (k : Fin 4) : Keeps s (s.sendCurrent k) := by
  unfold State.sendCurrent
  split
  · exact .refl s
  · exact (display_keeps s _).trans (sendPage_keeps _ _)

theorem sendResult_keeps (s : State) (e : ResultEntry) : Keeps s (s.sendResult e) :=
  (display_keeps s _).trans (sendPage_keeps _ _)

theorem emptyCurrent_keeps (s : State) (bib : Nat) : Keeps s (s.emptyCurrent bib) := by
  unfold State.emptyCurrent
  split
  · exact (display_keeps s _).trans (sendPage_keeps _ _)
  · exact .refl s

theorem sendLeaders_keeps (s : State) : Keeps s s.sendLeaders := (display_keeps s _).trans (sendPage_keeps _ _)

theorem sendCountdown_keeps (s : State) (seconds : Nat) : Keeps s (s.sendCountdown seconds) :=
  (display_keeps s _).trans (sendPage_keeps _ _)

theorem announceResult_keeps (s : State) (e : ResultEntry) (flags : Option RecFlags) : Keeps s (s.announceResult e flags) :=
  ((reportResult_keeps s _).trans (sendResult_keeps _ _)).trans (sendLeaders_keeps _)

end Sys2Proof.Proofs
end

section
/-! The operations on jump records keep the laws of the records, the lists and the lamp (R49, R60, R64, R66, R119). -/

namespace Sys2Proof.Proofs

open Sys2Proof.Machine Sys2Proof.Claims

/-! ### The lamp (R119) -/

/-- The derived lamp meets the lamp law, since at most one record is active and records stand in an open round only. -/
theorem lampLaw_of_derived {s : State} (one : OneActive s.jtb) (round : RecordsInRound s) (slot : s.lsc.lampSlot = s.stu.lamp)
    (lamp : s.stu.lamp = derivedLamp s.competition s.jtb s.stu.flashing) : LampLaw s := by
  have isCleared := inState_isSome_iff s.jtb fun x => decide (x = .cleared)
  have isGreen := inState_isSome_iff s.jtb fun x => decide (x = .green)
  simp only [decide_eq_true_eq] at isCleared isGreen
  have apart : ¬((∃ k r, s.jtb.get k = some r ∧ r.state = .cleared) ∧ ∃ k r, s.jtb.get k = some r ∧ r.state = .green) := by
    rintro ⟨⟨j, a, ha, ca⟩, k, b, hb, cb⟩
    obtain rfl := one j k a b ha hb (by rw [ca]; rfl) (by rw [cb]; rfl)
    rw [ha] at hb
    cases hb
    rw [ca] at cb
    cases cb
  refine ⟨slot, ?_⟩
  rw [lamp, derivedLamp]
  split
  case isFalse closed =>
    have closed : ¬RoundOpen s := mt (isOpen_iff_roundOpen s).2 closed
    have free : ∀ k r, s.jtb.get k = some r → False := fun k r h => closed (round k r h)
    simp only [closed, not_false_eq_true, reduceCtorEq, or_self, false_iff, not_exists, and_true]
    exact ⟨fun k r h => free k r h.1, fun k r h => free k r h.1⟩
  case isTrue opened =>
    have opened : RoundOpen s := (isOpen_iff_roundOpen s).1 opened
    split
    case isTrue cleared =>
      rw [isCleared] at cleared
      simp [opened, cleared]
      simpa using fun h => apart ⟨cleared, h⟩
    case isFalse notCleared =>
      rw [isCleared] at notCleared
      split
      case isTrue green =>
        rw [isGreen] at green
        cases s.stu.flashing <;> simp [opened, notCleared, green]
      case isFalse notGreen =>
        rw [isGreen] at notGreen
        simp [opened, notCleared, notGreen]

/-! ### The bibs of the records -/

/-- The bib of a slot's record, if any, and the bibs of the others are those of the table. -/
theorem bibs_perm_set (t : JumpTable) (k : Fin 4) (r : Option JumpRecord) :
    ((t.set k r).records.map (·.2.bib)).Perm
      ((r.map (·.bib)).toList ++ (t.set k none).records.map (·.2.bib)) := by
  obtain ⟨a, b, c, d⟩ := t
  match k with
  | 0 => cases r <;> simp [JumpTable.set, JumpTable.records, Option.toList]
  | 1 => cases r <;> cases a <;> simp [JumpTable.set, JumpTable.records, Option.toList, List.Perm.swap]
  | 2 =>
    cases r
    · simp [JumpTable.set, JumpTable.records]
    · simp only [JumpTable.set, JumpTable.records]
      simp
      rw [← List.append_assoc, ← List.append_assoc]
      exact List.perm_middle
  | 3 =>
    cases r
    · simp [JumpTable.set, JumpTable.records]
    · simp only [JumpTable.set, JumpTable.records]
      simp
      simp only [← List.append_assoc]
      exact List.perm_append_singleton _ _

/-- The bibs of the table with a slot's record replaced by one of the same bib. -/
theorem bibs_perm_of_same_bib {t : JumpTable} {k : Fin 4} {r x : JumpRecord} (h : t.get k = some r) (same : x.bib = r.bib) :
    ((t.set k (some x)).records.map (·.2.bib)).Perm (t.records.map (·.2.bib)) := by
  have old := bibs_perm_set t k (some r)
  rw [← h, JumpTable.set_get_self, h] at old
  refine (bibs_perm_set t k (some x)).trans (.trans ?_ old.symm)
  simp [same]

/-- A record's bib and the bibs of the table without it are those of the table. -/
theorem bibs_perm_free {t : JumpTable} {k : Fin 4} {r : JumpRecord} (h : t.get k = some r) :
    (r.bib :: (t.set k none).records.map (·.2.bib)).Perm (t.records.map (·.2.bib)) := by
  have old := bibs_perm_set t k (some r)
  rw [← h, JumpTable.set_get_self, h] at old
  exact old.symm

/-- A table without records has no bibs. -/
theorem records_eq_nil_of_free {t : JumpTable} (h : ∀ k r, t.get k ≠ some r) : t.records = [] :=
  List.eq_nil_iff_forall_not_mem.2 fun x hx => h x.1 x.2 ((t.mem_records _ _).1 hx)

/-! ### A change of the records -/

/-- Every record of `b` stands where one of `a` stood, and is active only if that one was. -/
def Shrinks (a b : JumpTable) : Prop :=
  ∀ k x, b.get k = some x → ∃ r, a.get k = some r ∧ (x.state.active = true → r.state.active = true)

theorem oneActive_of_shrinks {a b : JumpTable} (h : Shrinks a b) (one : OneActive a) : OneActive b := by
  intro j k x y hx hy cx cy
  obtain ⟨r, hr, cr⟩ := h j x hx
  obtain ⟨q, hq, cq⟩ := h k y hy
  exact one j k r q hr hq (cr cx) (cq cy)

theorem recordsInRound_of_shrinks {s t : State} (h : Shrinks s.jtb t.jtb) (competition : t.competition = s.competition)
    (round : RecordsInRound s) : RecordsInRound t := by
  intro k x hx
  obtain ⟨r, hr, -⟩ := h k x hx
  unfold RoundOpen
  rw [competition]
  exact round k r hr

theorem shrinks_set_none (t : JumpTable) (k : Fin 4) : Shrinks t (t.set k none) := by
  intro j x hx
  rw [JumpTable.get_set] at hx
  split at hx
  · cases hx
  · exact ⟨x, hx, id⟩

theorem shrinks_set_some {t : JumpTable} {k : Fin 4} {r x : JumpRecord} (h : t.get k = some r)
    (active : x.state.active = true → r.state.active = true) : Shrinks t (t.set k (some x)) := by
  intro j y hy
  rw [JumpTable.get_set] at hy
  split at hy
  next same =>
    cases hy
    subst same
    exact ⟨r, h, active⟩
  next => exact ⟨y, hy, id⟩

/-- The bibs of the start list and the records, less those that went, and the results list as it was. -/
theorem bibLaw_of_subperm {s t : State}
    (bibs : (t.startList ++ recordBibs t).Subperm (s.startList ++ recordBibs s)) (results : t.results = s.results)
    (law : BibLaw s) : BibLaw t := by
  obtain ⟨lists, entries⟩ := law
  obtain ⟨l, perm, part⟩ := bibs
  exact ⟨perm.nodup_iff.1 (lists.sublist part), by rw [results]; exact entries⟩

/-- The lamp is derived anew from records that only shrank. -/
theorem KeepsLists.of_relit {s t : State} (shrinks : Shrinks s.jtb t.jtb)
    (bibs : (t.startList ++ recordBibs t).Subperm (s.startList ++ recordBibs s)) (slot : t.lsc.lampSlot = t.stu.lamp)
    (lamp : t.stu.lamp = derivedLamp t.competition t.jtb t.stu.flashing) (results : t.results = s.results)
    (competition : t.competition = s.competition) : KeepsLists s t where
  lamp one round _ := by
    have one := oneActive_of_shrinks shrinks one
    have round := recordsInRound_of_shrinks shrinks competition round
    exact ⟨one, round, lampLaw_of_derived one round slot lamp⟩
  rounds := recordsInRound_of_shrinks shrinks competition
  bibs _ law order := ⟨bibLaw_of_subperm bibs results law, by unfold ResultsOrdered; rw [results]; exact order⟩

/-- A record changed in fields other than its bib and its state. -/
theorem updateRecord_keeps (s : State) (k : Fin 4) (f : JumpRecord → JumpRecord)
    (bib : ∀ r, s.jtb.get k = some r → (f r).bib = r.bib)
    (state : ∀ r, s.jtb.get k = some r → (f r).state = r.state) : Keeps s (s.updateRecord k f) := by
  cases h : s.jtb.get k with
  | none =>
    rw [State.updateRecord_of_free _ _ _ h]
    exact .refl s
  | some r =>
    replace bib := bib r h
    replace state := state r h
    rw [State.updateRecord_of_get _ _ _ h]
    have shrinks : Shrinks s.jtb (s.jtb.set k (some (f r))) := shrinks_set_some h (by rw [state]; exact id)
    have stands : ∀ x : RecState, (∃ j a, (s.jtb.set k (some (f r))).get j = some a ∧ a.state = x) ↔
        ∃ j a, s.jtb.get j = some a ∧ a.state = x := by
      intro x
      constructor
      · rintro ⟨j, a, ha, hx⟩
        rw [JumpTable.get_set] at ha
        split at ha
        next same =>
          cases ha
          exact ⟨k, r, h, state.symm.trans hx⟩
        next => exact ⟨j, a, ha, hx⟩
      · rintro ⟨j, a, ha, hx⟩
        by_cases same : j = k
        · subst same
          rw [h] at ha
          cases ha
          exact ⟨j, f r, JumpTable.get_set_self _ _ _, state.trans hx⟩
        · exact ⟨j, a, by rw [JumpTable.get_set_ne _ _ _ _ same]; exact ha, hx⟩
    refine .of_lists ⟨fun one round law => ⟨oneActive_of_shrinks shrinks one, recordsInRound_of_shrinks shrinks rfl round, ?_⟩,
      recordsInRound_of_shrinks shrinks rfl, fun _ law order => ⟨bibLaw_of_subperm (s := s) ?_ rfl law, order⟩⟩ rfl rfl
    · obtain ⟨slot, yellow, green, off⟩ := law
      exact ⟨slot, yellow.trans (stands _).symm, green.trans (stands _).symm, off⟩
    · exact ((bibs_perm_of_same_bib h bib).append_left s.startList).subperm

/-! ### State entries and freed records -/

theorem deriveLamp_lamp (s : State) :
    s.deriveLamp.stu.lamp = derivedLamp s.deriveLamp.competition s.deriveLamp.jtb s.deriveLamp.stu.flashing := rfl

theorem deriveLamp_keeps (s : State) : Keeps s s.deriveLamp :=
  .of_lists (.of_relit (fun _ x hx => ⟨x, hx, id⟩) (List.Subperm.refl _) rfl (deriveLamp_lamp s) rfl rfl) rfl rfl

/-- A state entry. A record enters one of the six active states from one of them only. -/
theorem enterState_keeps (s : State) (k : Fin 4) (x : RecState)
    (active : ∀ r, s.jtb.get k = some r → x.active = true → r.state.active = true) : Keeps s (s.enterState k x) := by
  refine Keeps.trans (Keeps.trans ?_ (reportRecord_keeps _ k .advance)) (updateHeld_keeps _)
  cases h : s.jtb.get k with
  | none =>
    rw [State.updateRecord_of_free _ _ _ h]
    exact deriveLamp_keeps s
  | some r =>
    rw [State.updateRecord_of_get _ _ _ h]
    refine .of_lists (.of_relit ?_ ?_ rfl rfl rfl rfl) rfl rfl
    · exact shrinks_set_some h (active r h)
    · exact ((bibs_perm_of_same_bib (x := r.inState x) h rfl).append_left s.startList).subperm

/-- A record in a state that is not one of the six active ones. -/
theorem enterState_keeps_of_inactive (s : State) (k : Fin 4) (x : RecState) (inactive : x.active = false) :
    Keeps s (s.enterState k x) := enterState_keeps s k x fun _ _ h => by rw [inactive] at h; cases h

/-- The start list and the records after a record is freed hold no bib more than before. -/
theorem freed_subperm {t : JumpTable} {k : Fin 4} {r : JumpRecord} (h : t.get k = some r) (returns : Bool) (l : List Nat) :
    ((if returns then r.bib :: l else l) ++ (t.set k none).records.map (·.2.bib)).Subperm
      (l ++ t.records.map (·.2.bib)) := by
  have all : (r.bib :: (l ++ (t.set k none).records.map (·.2.bib))).Perm (l ++ t.records.map (·.2.bib)) :=
    List.perm_middle.symm.trans ((bibs_perm_free h).append_left l)
  split
  · exact all.subperm
  · exact (List.sublist_cons_self _ _).subperm.trans all.subperm

theorem freeRecord_keeps (s : State) (k : Fin 4) (reason : JumpReason) (returns : Bool) :
    Keeps s (s.freeRecord k reason returns) := by
  unfold State.freeRecord
  split
  · exact .refl s
  · next r h =>
    refine Keeps.trans (Keeps.trans ?_ (reportJump_keeps _ _)) (updateHeld_keeps _)
    exact .of_lists
      (.of_relit (shrinks_set_none s.jtb k) (freed_subperm h returns s.startList) rfl (deriveLamp_lamp _) rfl rfl)
      rfl rfl

theorem withdraw_keeps (s : State) (k : Fin 4) (reason : JumpReason) : Keeps s (s.withdraw k reason) := by
  unfold State.withdraw
  split
  · exact .refl s
  · dsimp only
    split
    · exact ((freeRecord_keeps _ _ _ _).trans (emptyCurrent_keeps _ _)).trans (sendCountdown_keeps _ _)
    · exact (freeRecord_keeps _ _ _ _).trans (emptyCurrent_keeps _ _)

end Sys2Proof.Proofs
end

section
/-! The results list in its order, and the scoring of records: what keeps the laws (R68, R70, R134 to R169). -/

namespace Sys2Proof.Proofs

open Sys2Proof.Machine Sys2Proof.Claims

/-! ### The ranking order (R167) -/

theorem ranksBefore_iff (a b : ResultEntry) : ranksBefore a b = true ↔ StandsBefore a b := by
  unfold ranksBefore StandsBefore
  cases a.status <;> cases b.status <;> simp

/-- Of two entries of different bibs one stands before the other. -/
theorem standsBefore_of_not {a b : ResultEntry} (apart : a.bib ≠ b.bib) (h : ¬StandsBefore a b) : StandsBefore b a := by
  unfold StandsBefore at *
  cases ha : a.status <;> cases hb : b.status <;> simp [ha, hb] at h ⊢ <;> omega

theorem standsBefore_trans {a b c : ResultEntry} (h : StandsBefore a b) (h' : StandsBefore b c) : StandsBefore a c := by
  unfold StandsBefore at *
  cases ha : a.status <;> cases hb : b.status <;> cases hc : c.status <;> simp [ha, hb, hc] at h h' ⊢ <;> omega

theorem insertRanked_perm (e : ResultEntry) (l : List ResultEntry) : (insertRanked e l).Perm (e :: l) := by
  induction l with
  | nil => exact .refl _
  | cons x rest ih =>
    unfold insertRanked
    split
    · exact .refl _
    · exact (ih.cons x).trans (.swap e x rest)

/-- An entry inserted among entries of other bibs in the ranking order leaves them in it. -/
theorem insertRanked_pairwise {e : ResultEntry} {l : List ResultEntry} (order : l.Pairwise StandsBefore)
    (new : ∀ x ∈ l, e.bib ≠ x.bib) : (insertRanked e l).Pairwise StandsBefore := by
  induction l with
  | nil => exact List.pairwise_singleton _ _
  | cons x rest ih =>
    obtain ⟨first, later⟩ := List.pairwise_cons.1 order
    unfold insertRanked
    split
    case isTrue before =>
      have before := (ranksBefore_iff e x).1 before
      refine List.pairwise_cons.2 ⟨fun y hy => ?_, order⟩
      rcases List.mem_cons.1 hy with rfl | hy
      · exact before
      · exact standsBefore_trans before (first y hy)
    case isFalse behind =>
      have behind := standsBefore_of_not (new x (by simp)) (mt (ranksBefore_iff e x).2 behind)
      refine List.pairwise_cons.2 ⟨fun y hy => ?_, ih later fun y hy => new y (by simp [hy])⟩
      rcases List.mem_cons.1 ((insertRanked_perm e rest).mem_iff.1 hy) with rfl | hy
      · exact behind
      · exact first y hy

/-- An entry placed in a list without a bib twice and in the ranking order leaves it so. -/
theorem placeEntry_ordered (e : ResultEntry) {l : List ResultEntry} (order : l.Pairwise StandsBefore)
    (unique : (l.map (·.bib)).Nodup) :
    (placeEntry e l).Pairwise StandsBefore ∧ ((placeEntry e l).map (·.bib)).Nodup := by
  have others : ∀ x ∈ l.filter fun x => decide (x.bib ≠ e.bib), e.bib ≠ x.bib := by
    intro x hx
    exact Ne.symm (of_decide_eq_true (List.mem_filter.1 hx).2)
  refine ⟨insertRanked_pairwise (order.filter _) others, ?_⟩
  refine ((insertRanked_perm e _).map _).nodup_iff.2 (List.nodup_cons.2 ⟨?_, ?_⟩)
  · rintro h
    obtain ⟨x, hx, same⟩ := List.mem_map.1 h
    exact others x hx same.symm
  · exact unique.sublist (List.filter_sublist.map _)

/-- A changed result entry, and a start list that holds no bib more. -/
theorem placeEntry_keeps (s : State) (e : ResultEntry) {l : List Nat} (part : l.Sublist s.startList) :
    Keeps s { s with results := placeEntry e s.results, startList := l } := by
  refine .of_lists ⟨fun one round law => ⟨one, round, law⟩, id, fun _ law order => ?_⟩ rfl rfl
  obtain ⟨lists, -⟩ := law
  obtain ⟨order, unique⟩ := order
  have placed := placeEntry_ordered e order unique
  exact ⟨⟨lists.sublist (part.append_right _), placed.2⟩, placed⟩

/-! ### Scoring and needs -/

theorem erase_sublist (p : Prop) [Decidable p] (bib : Nat) (l : List Nat) : (if p then l.erase bib else l).Sublist l := by
  split
  · exact List.erase_sublist
  · exact .refl _

theorem score_keeps (s : State) (k : Fin 4) : Keeps s (s.score k) := by
  unfold State.score
  split
  · exact .refl s
  · exact ((placeEntry_keeps s _ (erase_sublist _ _ _)).trans (freeRecord_keeps _ _ _ _)).trans (announceResult_keeps _ _ _)

theorem recomputeNeeds_keeps (s : State) (k : Fin 4) : Keeps s (s.recomputeNeeds k) := by
  unfold State.recomputeNeeds
  split
  · exact .refl s
  · split
    · split
      · exact score_keeps s k
      · exact enterState_keeps_of_inactive s k .marking rfl
    · split
      · exact .refl s
      · exact (updateRecord_keeps s k _ (by simp) (by simp)).trans (reportRecord_keeps _ _ _)

theorem takeWindClose_keeps (s : State) (k : Fin 4) (takeoff : Time) : Keeps s (s.takeWindClose k takeoff) :=
  updateRecord_keeps s k _ (by simp) (by simp)

theorem windCloseAtEntry_keeps (s : State) (k : Fin 4) : Keeps s (s.windCloseAtEntry k) := by
  unfold State.windCloseAtEntry
  split
  · exact .refl s
  · split
    · exact .refl s
    · split
      · exact takeWindClose_keeps s k _
      · exact .refl s

theorem formWind_keeps (s : State) (k : Fin 4) (d : Nat) : Keeps s (s.formWind k d) := by
  refine updateRecord_keeps s k _ (fun r _ => ?_) fun r _ => ?_
  all_goals
    cases windValueOf (included s.tables.stations r.windMeans d) <;> rfl

theorem complete_keeps (s : State) (k : Fin 4) : Keeps s (s.complete k) := by
  unfold State.complete
  split
  · exact .refl s
  · split
    · exact .refl s
    · next d _ =>
      refine (formWind_keeps s k d).trans ?_
      dsimp only
      split
      · exact recomputeNeeds_keeps _ k
      · split
        · exact score_keeps _ k
        · split
          · exact enterState_keeps_of_inactive _ k .held rfl
          · exact enterState_keeps_of_inactive _ k .marking rfl
      · exact .refl _

theorem setFinal_keeps (s : State) (k : Fin 4) (d : Nat) (source : DistSource) : Keeps s (s.setFinal k d source) :=
  (updateRecord_keeps s k _ (by simp) (by simp)).trans (sendCurrent_keeps _ k)

theorem confirmDistance_keeps (s : State) (k : Fin 4) (d : Nat) (source : DistSource) :
    Keeps s (s.confirmDistance k d source) := by
  refine (setFinal_keeps s k d source).trans ?_
  unfold State.confirmDistance
  dsimp only
  split
  · exact .refl _
  · split
    · exact complete_keeps _ k
    · split
      · exact recomputeNeeds_keeps _ k
      · exact .refl _

/-! ### Marks and MEASURING -/

theorem afterLock_keeps (s : State) (k : Fin 4) : Keeps s (s.afterLock k) := by
  unfold State.afterLock
  split
  · exact .refl s
  · split
    · exact score_keeps s k
    · exact recomputeNeeds_keeps s k
    · exact .refl s

theorem giveMark_keeps (s : State) (k : Fin 4) (seat mark : Nat) : Keeps s (s.giveMark k seat mark) := by
  unfold State.giveMark
  split
  · exact .refl s
  · dsimp only
    split
    · exact (updateRecord_keeps s k _ (by simp) (by simp)).trans (afterLock_keeps _ k)
    · exact updateRecord_keeps s k _ (by simp) (by simp)

theorem takeMarksExpiry_keeps (s : State) (k : Fin 4) : Keeps s (s.takeMarksExpiry k) := by
  refine (updateRecord_keeps s k (fun r => { r with marksOverdue := true, marksExpiry := none }) (by simp) (by simp)).trans ?_
  unfold State.takeMarksExpiry
  dsimp only
  split
  · exact .refl _
  · split
    · exact enterState_keeps_of_inactive _ k .held rfl
    · exact recomputeNeeds_keeps _ k
    · exact .refl _

theorem armMarks_keeps (s : State) (k : Fin 4) (start : Time) : Keeps s (s.armMarks k start) := by
  unfold State.armMarks
  split
  · exact .refl s
  · dsimp only
    split
    · exact .refl s
    · split
      · exact updateRecord_keeps s k _ (by simp) (by simp)
      · exact takeMarksExpiry_keeps s k

theorem openConfirm_keeps (s : State) (k : Fin 4) : Keeps s (s.openConfirm k) := by
  unfold State.openConfirm
  split
  · exact .refl s
  · dsimp only
    split
    · exact updateRecord_keeps s k _ (by simp) (by simp)
    · split
      · exact confirmDistance_keeps s k _ _
      · exact enterState_keeps_of_inactive s k .held rfl

theorem enterMeasuring_keeps (s : State) (k : Fin 4) : Keeps s (s.enterMeasuring k) :=
  ((enterState_keeps_of_inactive s k .measuring rfl).trans (windCloseAtEntry_keeps _ k)).trans (openConfirm_keeps _ k)

end Sys2Proof.Proofs
end

section
/-! The start, the flight and the records' commands keep the laws (chapters 5, 7, 8 and 10). -/

namespace Sys2Proof.Proofs

open Sys2Proof.Machine Sys2Proof.Claims

/-! ### The start light and the wind wait -/

/-- A record found by its state is in one of the states searched for. -/
theorem state_of_inState {t : JumpTable} {p : RecState → Bool} {k : Fin 4} {r x : JumpRecord}
    (found : t.inState p = some (k, r)) (stands : t.get k = some x) : p x.state = true := by
  obtain ⟨held, meets⟩ := JumpTable.find_some found
  rw [stands] at held
  cases held
  exact meets

theorem get_of_inState {t : JumpTable} {p : RecState → Bool} {k : Fin 4} {r : JumpRecord}
    (found : t.inState p = some (k, r)) : t.get k = some r := (JumpTable.find_some found).1

/-- A record changed in fields other than its state stands in an active state when it stood in one. -/
theorem active_updateRecord {s : State} {k : Fin 4} (f : JumpRecord → JumpRecord) (state : ∀ r, (f r).state = r.state)
    (active : ∀ r, s.jtb.get k = some r → r.state.active = true) (x : JumpRecord)
    (h : (s.updateRecord k f).jtb.get k = some x) : x.state.active = true := by
  cases hs : s.jtb.get k with
  | none =>
    rw [State.updateRecord_of_free _ _ _ hs, hs] at h
    cases h
  | some r =>
    rw [State.updateRecord_of_get _ _ _ hs] at h
    simp only [JumpTable.get_set_self, Option.some.injEq] at h
    rw [← h, state]
    exact active r hs

/-- STU's own fields but for the lamp are none of those the laws speak of. -/
theorem stu_keeps (s : State) (u : StartUnit) (lamp : u.lamp = s.stu.lamp) : Keeps s { s with stu := u } :=
  .quiet rfl (by simp [listsView, lamp]) rfl

theorem goGreen_lamp (u : StartUnit) (h : HillTable) (t : Time) : (u.goGreen h t).lamp = u.lamp := by
  unfold StartUnit.goGreen StartUnit.fixReference
  dsimp only
  split <;> rfl

/-- A record with the green time, gate and green expiry time of its GREEN entry (R112). -/
def latched (h : HillTable) (now : Time) (gate : Option Nat) (r : JumpRecord) : JumpRecord :=
  { r with greenTime := some now, gate := gate, greenExpiryTime := some (after now (h.startTime * Config.second)) }

/-- A GREEN entry of an active record. -/
theorem enterGreen_keeps (s : State) (k : Fin 4) (active : ∀ r, s.jtb.get k = some r → r.state.active = true) :
    Keeps s (s.enterGreen k) := by
  have before : Keeps s (s.updateRecord k (latched s.tables.hill s.now s.stu.gate)) :=
    updateRecord_keeps s k _ (fun _ _ => rfl) fun _ _ => rfl
  refine Keeps.trans (before.trans (Keeps.trans ?units (enterState_keeps _ k .green ?entry))) (sendCountdown_keeps _ _)
  case units => exact (stu_keeps _ _ (goGreen_lamp _ _ _)).trans (display_keeps _ _)
  case entry =>
    intro r h _
    exact active_updateRecord (latched s.tables.hill s.now s.stu.gate) (fun _ => rfl) active r h

theorem testLiveWind_keeps (s : State) : Keeps s s.testLiveWind := by
  have stored : Keeps s { s with stu := { s.stu with lastLiveWind := s.wnd.liveWind } } := stu_keeps _ _ (by rfl)
  unfold State.testLiveWind
  dsimp only
  split
  · next found _ =>
    split
    · refine stored.trans (enterGreen_keeps _ _ fun r h => ?_)
      have cleared := state_of_inState found h
      simp only [decide_eq_true_eq] at cleared
      rw [cleared]
      rfl
    · exact stored
  · exact stored

theorem noteGateMove_keeps (s : State) : Keeps s s.noteGateMove := by
  unfold State.noteGateMove
  split
  · exact .refl s
  · exact (raise_keeps _ _ _).trans (updateRecord_keeps _ _ _ (by simp) (by simp))

theorem countReport_lamp (u : StartUnit) (report : Nat) : (u.countReport report).lamp = u.lamp := by
  unfold StartUnit.countReport
  split <;> rfl

theorem takeGateReport_keeps (s : State) (report : Nat) : Keeps s (s.takeGateReport report) := by
  have lamp : (s.stu.countReport report).lamp = s.stu.lamp := countReport_lamp s.stu report
  unfold State.takeGateReport
  split
  · dsimp only
    split
    · refine Keeps.trans (Keeps.trans ?_ (raise_keeps _ _ _)) (noteGateMove_keeps _)
      exact stu_keeps _ _ lamp
    · exact stu_keeps _ _ lamp
  · exact .refl s

theorem takeCoach_keeps (s : State) (addr bib : Nat) : Keeps s (s.takeCoach addr bib) := by
  unfold State.takeCoach
  split
  · split
    · exact updateRecord_keeps _ _ _ (by simp) (by simp)
    · exact raise_keeps _ _ _
  · exact stu_keeps s _ rfl

theorem takeInRunExpiry_keeps (s : State) (k : Fin 4) : Keeps s (s.takeInRunExpiry k) := by
  have idle : Keeps s { s with flu := .idle } := .quiet rfl rfl rfl
  exact ((idle.trans (updateRecord_keeps _ k _ (by simp) (by simp))).trans (enterState_keeps_of_inactive _ k .held rfl)).trans
    (armMarks_keeps _ k _)

theorem noteEstimate_bib (r : JumpRecord) (e : EdgeTime) : (r.noteEstimate e).bib = r.bib := by
  unfold JumpRecord.noteEstimate
  split <;> rfl

theorem noteEstimate_state (r : JumpRecord) (e : EdgeTime) : (r.noteEstimate e).state = r.state := by
  unfold JumpRecord.noteEstimate
  split <;> rfl

/-- A record that notes an estimate stands in an active state when it stood in one. -/
theorem active_of_noted {s : State} {k : Fin 4} {f : JumpRecord → JumpRecord} {e : EdgeTime} {x : JumpRecord}
    (h : (s.updateRecord k fun r => (f r).noteEstimate e).jtb.get k = some x)
    (active : ∀ r, s.jtb.get k = some r → r.state.active = true)
    (state : ∀ r, (f r).state = r.state) : x.state.active = true :=
  active_updateRecord _ (fun r => (noteEstimate_state _ _).trans (state r)) active x h

/-- A record that notes an estimate after a change of fields other than its bib and its state. -/
theorem updateRecord_noted_keeps (s : State) (k : Fin 4) (f : JumpRecord → JumpRecord) (e : EdgeTime)
    (bib : ∀ r, (f r).bib = r.bib) (state : ∀ r, (f r).state = r.state) :
    Keeps s (s.updateRecord k fun r => (f r).noteEstimate e) :=
  updateRecord_keeps s k _ (fun r _ => (noteEstimate_bib _ _).trans (bib r))
    fun r _ => (noteEstimate_state _ _).trans (state r)

theorem leaveGate_state (r : JumpRecord) (gate : Option Nat) (e : EdgeTime) : (r.leaveGate gate e).state = r.state :=
  noteEstimate_state _ _

theorem startLeft_lamp (u : StartUnit) : u.fixReference.disarm.lamp = u.lamp := by
  unfold StartUnit.fixReference
  split <;> rfl

/-- An IN_RUN entry of an active record. -/
theorem enterInRun_keeps (s : State) (k : Fin 4) (r : JumpRecord) (e : EdgeTime)
    (active : ∀ x, s.jtb.get k = some x → x.state.active = true) : Keeps s (s.enterInRun k r e) := by
  have left : Keeps s (s.updateRecord k fun r => r.leaveGate s.stu.gate e) :=
    updateRecord_keeps s k _ (fun _ _ => noteEstimate_bib _ _) fun _ _ => leaveGate_state _ _ _
  unfold State.enterInRun
  dsimp only
  have entry : ∀ u : State, Keeps s u → (u.jtb = (s.updateRecord k fun r => r.leaveGate s.stu.gate e).jtb) →
      Keeps s (State.enterState k .inRun u) := by
    intro u before same
    refine before.trans (enterState_keeps u k .inRun fun x h _ => ?_)
    rw [same] at h
    exact active_updateRecord _ (fun x => leaveGate_state x _ _) active x h
  have entered := entry
    { s.updateRecord k (fun r => r.leaveGate s.stu.gate e) with
      stu := (s.updateRecord k fun r => r.leaveGate s.stu.gate e).stu.fixReference.disarm
      dsp := { (s.updateRecord k fun r => r.leaveGate s.stu.gate e).dsp with countdownExpiry := none }
      flu := { FlightUnit.idle with inRunExpiry := some (after e.time (s.tables.hill.inRunMax * Config.second)) } }
    (left.trans (.quiet rfl (by simp only [listsView, startLeft_lamp]) rfl)) rfl
  split <;> split
  · exact entered.trans (sendCountdown_keeps _ _)
  · exact entered
  · exact (entered.trans (sendCountdown_keeps _ _)).trans (takeInRunExpiry_keeps _ _)
  · exact entered.trans (takeInRunExpiry_keeps _ _)

theorem active_of_onBar {x : RecState} (h : x.onBar = true) : x.active = true := by
  rw [RecState.active, h, Bool.true_or]

theorem takeGateLeft_keeps (addr : Nat) (s : State) (item : EdgeItem) : Keeps s (s.takeGateLeft addr item) := by
  unfold State.takeGateLeft
  dsimp only
  split
  · exact raise_keeps _ _ _
  · next found =>
    split
    · exact enterInRun_keeps _ _ _ _ fun x h => active_of_onBar (state_of_inState found h)
    · exact raise_keeps _ _ _

/-! ### The commands of the start -/

/-- A record is created in a free slot, in an open round, with no active record, from the head of the start list. -/
theorem createRecord_keeps {s : State} {k : Fin 4} {bib : Nat} {rest : List Nat} (opened : RoundOpen s)
    (listed : s.startList = bib :: rest) (idle : s.jtb.inState RecState.active = none) (free : s.jtb.get k = none) :
    Keeps s (s.createRecord k bib rest) := by
  refine Keeps.trans (Keeps.trans ?_ (reportRecord_keeps _ k .advance)) (sendCurrent_keeps _ k)
  refine .of_lists ?_ rfl rfl
  have stands : ∀ j x, (s.jtb.set k (some (newRecord s.jtb.nextSerial s.competition s.stu bib s.now))).get j = some x →
      x.state.active = true → j = k := by
    intro j x hx active
    rw [JumpTable.get_set] at hx
    split at hx
    · assumption
    · rw [JumpTable.inState_none_iff.1 idle j x hx] at active
      cases active
  have one : OneActive (s.jtb.set k (some (newRecord s.jtb.nextSerial s.competition s.stu bib s.now))) :=
    fun i j x y hx hy cx cy => (stands i x hx cx).trans (stands j y hy cy).symm
  refine ⟨fun _ _ _ => ⟨one, fun _ _ _ => opened, lampLaw_of_derived one (fun _ _ _ => opened) rfl (deriveLamp_lamp _)⟩,
    fun _ _ _ _ => opened, fun _ law order => ⟨bibLaw_of_subperm (s := s) ?_ rfl law, order⟩⟩
  have perm := bibs_perm_set s.jtb k (some (newRecord s.jtb.nextSerial s.competition s.stu bib s.now))
  rw [← free, JumpTable.set_get_self] at perm
  rw [listed]
  exact ((perm.append_left rest).trans List.perm_middle).subperm

theorem clearJumper_keeps (s : State) : Keeps s (clearJumper s).state := by
  unfold clearJumper
  split
  · exact .refl s
  · next opened =>
    have opened : RoundOpen s := by rw [not_isOpen_iff, not_not] at opened; exact opened
    split
    · exact .refl s
    · next bib rest listed =>
      split
      · exact .refl s
      · next idle =>
        split
        · exact .refl s
        · next k free =>
          split
          · exact .refl s
          · split
            · exact .refl s
            · have created := createRecord_keeps opened listed (Option.not_isSome_iff_eq_none.1 idle) (get_of_freeSlot free)
              dsimp only
              split
              · exact created.trans (stu_keeps _ _ (by rfl))
              · refine created.trans (enterGreen_keeps _ _ fun r h => ?_)
                rw [createRecord_get] at h
                cases h
                rfl

theorem holdJumper_keeps (s : State) : Keeps s (holdJumper s).state := by
  unfold holdJumper
  split
  · exact .refl s
  · exact withdraw_keeps _ _ _

theorem setWindGate_keeps (on : Byte) (s : State) : Keeps s (setWindGate on s).state := by
  unfold setWindGate
  split
  · dsimp only
    have off : Keeps s { s with stu := { s.stu with windGate := false } } := stu_keeps _ _ (by rfl)
    split
    · next found =>
      refine off.trans (enterGreen_keeps _ _ fun r h => ?_)
      have cleared := state_of_inState found h
      simp only [decide_eq_true_eq] at cleared
      rw [cleared]
      rfl
    · exact off
  · exact stu_keeps _ _ (by rfl)
  · exact .refl s

theorem setReference_keeps (gate : Byte) (s : State) : Keeps s (setReference gate s).state := by
  unfold setReference
  split
  · exact .refl s
  · split
    · exact .refl s
    · exact stu_keeps _ _ (by rfl)

theorem takeWindWait_keeps (s : State) : Keeps s s.takeWindWait := by
  unfold State.takeWindWait
  split
  · exact .refl s
  · exact withdraw_keeps _ _ _

theorem takeGreenFlash_keeps (s : State) : Keeps s s.takeGreenFlash := by
  unfold State.takeGreenFlash
  split
  · exact .refl s
  · have flashed : Keeps s { s with stu := { s.stu with greenFlash := none, flashing := true } } := stu_keeps _ _ (by rfl)
    exact (flashed.trans (deriveLamp_keeps _)).trans (sendCountdown_keeps _ _)

theorem takeGreenExpiry_keeps (s : State) : Keeps s s.takeGreenExpiry := by
  unfold State.takeGreenExpiry
  split
  · exact .refl s
  · next k _ found =>
    have disarmed : Keeps s { s with stu := s.stu.disarm, dsp := { s.dsp with countdownExpiry := none } } :=
      .quiet rfl rfl rfl
    refine (disarmed.trans (enterState_keeps _ k .late fun r h _ => ?_)).trans (sendCountdown_keeps _ _)
    have green := state_of_inState found h
    simp only [decide_eq_true_eq] at green
    rw [green]
    rfl

theorem takeCountdown_keeps (s : State) : Keeps s s.takeCountdown := by
  unfold State.takeCountdown
  split
  · exact .refl s
  · exact (display_keeps s _).trans (sendCountdown_keeps _ _)

/-! ### The flight -/

/-- FLU's own working state is none of the fields the laws speak of. -/
theorem flight_keeps (s : State) (f : FlightUnit) : Keeps s { s with flu := f } := .quiet rfl rfl rfl

theorem setCellB_keeps (s : State) (k : Fin 4) (a : Time) (b : EdgeTime) : Keeps s (s.setCellB k a b) := by
  unfold State.setCellB
  dsimp only
  split
  · exact ((flight_keeps s _).trans (updateRecord_noted_keeps _ k _ b (by simp) (by simp))).trans (sendCurrent_keeps _ k)
  · exact (flight_keeps s _).trans (updateRecord_noted_keeps _ k _ b (by simp) (by simp))

theorem takeCellA_keeps (s : State) (item : EdgeItem) : Keeps s (s.takeCellA item) := by
  unfold State.takeCellA
  dsimp only
  split
  · exact .refl s
  · next k _ _ =>
    split
    · have first := (flight_keeps s { s.flu with heldB := [] }).trans
        (updateRecord_noted_keeps _ k (fun r => { r with cellATime := some (s.convert item.mark item.offset).time })
          (s.convert item.mark item.offset) (fun _ => rfl) fun _ => rfl)
      split
      · exact first
      · exact first.trans (setCellB_keeps _ k _ _)
    · exact .refl s

theorem takeCellB_keeps (s : State) (item : EdgeItem) : Keeps s (s.takeCellB item) := by
  unfold State.takeCellB
  dsimp only
  split
  · exact .refl s
  · split
    · exact .refl s
    · split
      · split
        · exact setCellB_keeps _ _ _ _
        · exact .refl s
      · split
        · exact flight_keeps s _
        · exact .refl s

theorem active_of_inRun {s : State} {k : Fin 4} {r x : JumpRecord} (found : s.inRun = some (k, r))
    (stands : s.jtb.get k = some x) : x.state.active = true := by
  have running := state_of_inState found stands
  simp only [decide_eq_true_eq] at running
  rw [running]
  rfl

theorem takeTakeoff_keeps (addr : Nat) (s : State) (item : EdgeItem) : Keeps s (s.takeTakeoff addr item) := by
  unfold State.takeTakeoff
  dsimp only
  split
  · split
    · exact raise_keeps _ _ _
    · exact .refl s
  · next k _ found =>
    split
    · refine ((flight_keeps s .idle).trans (updateRecord_noted_keeps _ k _ _ (by simp) (by simp))).trans
        (enterState_keeps _ k .flight fun r h _ => ?_)
      exact active_of_noted h (fun x hx => active_of_inRun found hx) fun _ => rfl
    · exact .refl s

theorem takeMapped_keeps (s : State) (e : EdgeTime) (distance : Nat) : Keeps s (s.takeMapped e distance) := by
  unfold State.takeMapped
  split
  · exact .refl s
  · next k _ found =>
    split
    · split
      · refine ((flight_keeps s _).trans (updateRecord_noted_keeps _ k (fun r => r) e (fun _ => rfl) fun _ => rfl)).trans
          (enterState_keeps _ k .landing fun r h _ => ?_)
        refine active_of_noted (f := fun r => r) h (fun x hx => ?_) fun _ => rfl
        have flying := state_of_inState found hx
        simp only [decide_eq_true_eq] at flying
        rcases flying with h | h <;> rw [h] <;> rfl
      · unfold State.laterContact
        split
        · exact (flight_keeps s _).trans (updateRecord_noted_keeps _ k (fun r => r) e (fun _ => rfl) fun _ => rfl)
        · exact .refl s
    · exact .refl s

theorem takeContact_keeps (addr moduleIndex sensors : Nat) (s : State) (item : EdgeItem) :
    Keeps s (s.takeContact addr moduleIndex sensors item) := by
  unfold State.takeContact
  split
  · exact raise_keeps _ _ _
  · split
    · exact raise_keeps _ _ _
    · exact takeMapped_keeps _ _ _

theorem settle_keeps (s : State) (k : Fin 4) (c : Candidate) : Keeps s (s.settle k c) :=
  (((flight_keeps s .idle).trans (updateRecord_keeps _ k _ (by simp) (by simp))).trans (sendCurrent_keeps _ k)).trans
    ((armMarks_keeps _ k _).trans (enterMeasuring_keeps _ k))

theorem takeSettle_keeps (s : State) : Keeps s s.takeSettle := by
  unfold State.takeSettle
  split
  · exact .refl s
  · split
    · exact .refl s
    · split
      · exact settle_keeps _ _ _
      · exact .refl s

theorem expireFlight_keeps (s : State) (k : Fin 4) : Keeps s (s.expireFlight k) :=
  ((flight_keeps s .idle).trans (updateRecord_keeps _ k _ (by simp) (by simp))).trans
    ((armMarks_keeps _ k _).trans (enterMeasuring_keeps _ k))

theorem takeFlightExpiry_keeps (s : State) : Keeps s s.takeFlightExpiry := by
  unfold State.takeFlightExpiry
  split
  · exact .refl s
  · split
    · exact expireFlight_keeps _ _
    · exact .refl s

theorem windCloseAtCycle_keeps (k : Fin 4) (s : State) : Keeps s (s.windCloseAtCycle k) := by
  unfold State.windCloseAtCycle
  split
  · exact .refl s
  · split
    · exact .refl s
    · split
      · dsimp only
        split
        · exact (takeWindClose_keeps s k _).trans (complete_keeps _ k)
        · exact takeWindClose_keeps s k _
      · exact .refl s

theorem takeDistance_keeps (s : State) (addr bib distance : Nat) : Keeps s (s.takeDistance addr bib distance) := by
  unfold State.takeDistance
  split
  · exact raise_keeps _ _ _
  · split
    · exact confirmDistance_keeps _ _ _ _
    · exact raise_keeps _ _ _

theorem takeStyle_keeps (s : State) (addr seat bib mark : Nat) : Keeps s (s.takeStyle addr seat bib mark) := by
  unfold State.takeStyle
  split
  · exact raise_keeps _ _ _
  · split
    · exact giveMark_keeps _ _ _ _
    · exact raise_keeps _ _ _

theorem takeConfirmExpiry_keeps (s : State) (k : Fin 4) (r : JumpRecord) : Keeps s (s.takeConfirmExpiry k r) := by
  unfold State.takeConfirmExpiry
  split
  · exact confirmDistance_keeps _ _ _ _
  · exact enterState_keeps_of_inactive s k .held rfl

/-! ### The requests on records -/

theorem enterDistance_keeps (bib distance : Half) (s : State) : Keeps s (enterDistance bib distance s).state := by
  unfold enterDistance
  split
  · split
    · exact .refl s
    · split
      · exact confirmDistance_keeps _ _ _ _
      · exact .refl s
  · exact .refl s

theorem enterMark_keeps (bib : Half) (seat mark : Byte) (s : State) : Keeps s (enterMark bib seat mark s).state := by
  unfold enterMark
  split
  · split
    · exact .refl s
    · split
      · exact giveMark_keeps _ _ _ _
      · exact .refl s
  · exact .refl s

theorem annul_keeps (bib : Half) (s : State) : Keeps s (annul bib s).state := by
  unfold annul
  split
  · split
    · exact .refl s
    · exact withdraw_keeps _ _ _
  · exact .refl s

theorem makeDsq_keeps (s : State) (bib : Nat) : Keeps s (s.makeDsq bib) := by
  unfold State.makeDsq
  dsimp only
  split
  · exact .refl s
  · exact (placeEntry_keeps s _ List.erase_sublist).trans (announceResult_keeps _ _ _)

theorem disqualify_keeps (bib : Half) (s : State) : Keeps s (disqualify bib s).state := by
  unfold disqualify
  split
  · split
    · next k r _ =>
      have freed := (freeRecord_keeps s k .disqualified false).trans (makeDsq_keeps _ bib.toNat)
      unfold accept
      dsimp only
      split
      · exact freed.trans (sendCountdown_keeps _ _)
      · exact freed
    · split
      · exact .refl s
      · exact makeDsq_keeps _ _
  · exact .refl s

theorem reinstate_keeps (bib : Half) (s : State) : Keeps s (reinstate bib s).state := by
  unfold reinstate
  split
  · split
    · exact .refl s
    · split
      · exact updateRecord_keeps _ _ _ (by simp) (by simp)
      · exact .refl s
  · exact .refl s

theorem readJump_keeps (slot part : Byte) (s : State) : Keeps s (readJump slot part s).state := by
  unfold readJump
  repeat' split
  all_goals exact .refl s

end Sys2Proof.Proofs
end

section
/-! The wind contexts and the tables keep their laws (R8, R15, R43, R78 to R91, R124, R193 to R198). -/

namespace Sys2Proof.Proofs

open Sys2Proof.Machine Sys2Proof.Claims

/-! ### The wind law of one context (R91) -/

/-- The wind law of one context under a lost threshold. -/
def ContextFits (lost : Nat) (c : WindContext) : Prop :=
  (c.ring.takeWhile fun e => !e.quality.sampled).length = min c.badRun c.ring.length ∧ c.ring.length ≤ 128 ∧
    (c.state ≠ .lost → c.badRun < lost ∧ lost ≤ c.ring.length)

theorem windLaw_iff (s : State) : WindLaw s ↔ ∀ c ∈ s.wnd.contexts, ContextFits s.tables.hill.lostThreshold c := Iff.rfl

theorem contextFits_begin (lost index bearing : Nat) : ContextFits lost (.begin index bearing) := by
  simp [ContextFits, WindContext.begin]

theorem contextFits_of_same {lost : Nat} {c d : WindContext} (h : ContextFits lost c) (ring : d.ring = c.ring)
    (state : d.state = c.state) (bad : d.badRun = c.badRun) : ContextFits lost d := by
  unfold ContextFits
  rw [ring, state, bad]
  exact h

/-- What a cycle start takes from a context leaves its ring, its state and its bad run. -/
theorem take_same (h : HillTable) (t : Time) (c : WindContext) :
    (c.take h t).1.ring = c.ring ∧ (c.take h t).1.state = c.state ∧ (c.take h t).1.badRun = c.badRun := by
  unfold WindContext.take
  split
  · exact ⟨rfl, rfl, rfl⟩
  · split
    · split <;> exact ⟨rfl, rfl, rfl⟩
    · exact ⟨rfl, rfl, rfl⟩

theorem length_takeWhile_take {α : Type} (p : α → Bool) (n : Nat) (l : List α) :
    ((l.take n).takeWhile p).length = min n (l.takeWhile p).length := by
  induction l generalizing n with
  | nil => simp
  | cons a rest ih =>
    cases n with
    | zero => simp
    | succ n =>
      simp only [List.take_succ_cons, List.takeWhile_cons]
      split
      · simp [ih, Nat.succ_min_succ]
      · simp

/-- A grid entry written keeps the run of entries that no sample gave as long as the bad run says. -/
theorem write_run {c : WindContext} (e : GridEntry)
    (run : (c.ring.takeWhile fun e => !e.quality.sampled).length = min c.badRun c.ring.length) (short : c.ring.length ≤ 128) :
    ((c.write e).ring.takeWhile fun e => !e.quality.sampled).length = min (c.write e).badRun (c.write e).ring.length ∧
      (c.write e).ring.length = min 128 (c.ring.length + 1) := by
  have length : (c.write e).ring.length = min 128 (c.ring.length + 1) := by
    simp [WindContext.write, pushEntry, Config.ringLimit]
    omega
  refine ⟨?_, length⟩
  rw [length]
  simp only [WindContext.write, pushEntry, Config.ringLimit]
  rw [length_takeWhile_take, List.takeWhile_cons]
  cases e.quality.sampled
  · simp only [Bool.not_false, if_true, List.length_cons, run, Bool.false_eq_true, if_false, countTo255]
    split <;> omega
  · simp

/-- A context that is not LOST after an entry has a bad run below the threshold and that many entries (R90, Table 6-5). -/
theorem stateAfter_not_lost {h : HillTable} {c : WindContext} {e : GridEntry} (positive : 0 < h.lostThreshold)
    (short : c.ring.length ≤ 128) (fits : c.state ≠ .lost → c.badRun < h.lostThreshold ∧ h.lostThreshold ≤ c.ring.length)
    (length : (c.write e).ring.length = min 128 (c.ring.length + 1)) (alive : stateAfter h (c.write e) e.quality ≠ .lost) :
    (c.write e).badRun < h.lostThreshold ∧ h.lostThreshold ≤ (c.write e).ring.length := by
  have sampledRun : e.quality.sampled = true → (c.write e).badRun = 0 := fun h => by simp [WindContext.write, h]
  have same : (c.write e).state = c.state := rfl
  unfold stateAfter at alive
  split at alive
  case h_1 =>
    split at alive
    case isTrue back =>
      simp only [Bool.and_eq_true, decide_eq_true_eq] at back
      obtain ⟨sampled, -, entries⟩ := back
      rw [sampledRun sampled]
      exact ⟨positive, entries⟩
    case isFalse => exact absurd rfl alive
  case h_2 _ notLost =>
    rw [same] at notLost
    obtain ⟨-, entries⟩ := fits notLost
    refine ⟨?_, by omega⟩
    split at alive
    · next good => rw [sampledRun (by rw [good]; rfl)]; exact positive
    · split at alive
      · next sampled => rw [sampledRun sampled]; exact positive
      · split at alive
        · exact absurd rfl alive
        · omega

/-- A context at a cycle start (R85 to R90). -/
theorem contextFits_tick {h : HillTable} (positive : 0 < h.lostThreshold) (t : Time) {c : WindContext}
    (fits : ContextFits h.lostThreshold c) : ContextFits h.lostThreshold (c.tick h t) := by
  obtain ⟨ring, state, bad⟩ := take_same h t c
  obtain ⟨run, short, alive⟩ := contextFits_of_same fits ring state bad
  obtain ⟨run', length⟩ := write_run (c.take h t).2 run short
  exact ⟨run', by rw [show (c.tick h t).ring.length = _ from length]; omega, stateAfter_not_lost positive short alive length⟩

/-- R91: a context tested anew against a threshold. -/
theorem contextFits_retest {h : HillTable} {lost : Nat} {c : WindContext} (fits : ContextFits lost c) :
    ContextFits h.lostThreshold (c.retest h) := by
  obtain ⟨run, short, -⟩ := fits
  unfold WindContext.retest
  split
  case isTrue => exact ⟨run, short, fun h => absurd rfl h⟩
  case isFalse inside => exact ⟨run, short, fun _ => by omega⟩

theorem append_same (c : WindContext) (x : Sample) :
    (c.append x).ring = c.ring ∧ (c.append x).state = c.state ∧ (c.append x).badRun = c.badRun := by
  unfold WindContext.append
  split <;> exact ⟨rfl, rfl, rfl⟩

theorem contextFits_append {lost : Nat} {c : WindContext} (fits : ContextFits lost c) (x : Sample) :
    ContextFits lost (c.append x) := by
  obtain ⟨ring, state, bad⟩ := append_same c x
  exact contextFits_of_same fits ring state bad

theorem contextFits_appends {lost : Nat} (l : List Sample) {c : WindContext} (fits : ContextFits lost c) :
    ContextFits lost (l.foldl WindContext.append c) := by
  induction l generalizing c with
  | nil => exact fits
  | cons x rest ih => exact ih (contextFits_append fits x)

/-! ### The wind unit -/

/-- The contexts replaced by ones that meet the wind law. -/
theorem contexts_keep (s : State) (w : WindUnit)
    (fits : TablesFit s → WindLaw s → ∀ c ∈ w.contexts, ContextFits s.tables.hill.lostThreshold c) :
    Keeps s { s with wnd := w } := .of_tables ⟨id, fits⟩ rfl rfl

theorem lostThreshold_pos {h : HillTable} (valid : h.valid = true) : 0 < h.lostThreshold := by
  simp only [HillTable.valid, Bool.and_eq_true, decide_eq_true_eq] at valid
  omega

theorem windTick_keeps (s : State) : Keeps s s.windTick := by
  refine Keeps.trans (contexts_keep s _ fun tables law c hc => ?_)
    ((noteChanges_keeps _ _ _).trans (setV_keeps _ .liveWindUnavailable _ rfl))
  obtain ⟨-, -, -, valid, -⟩ := tables
  obtain ⟨d, hd, rfl⟩ := List.mem_map.1 hc
  exact contextFits_tick (lostThreshold_pos valid) _ (law d hd)

theorem mem_insertContext {c x : WindContext} {l : List WindContext} : x ∈ insertContext c l ↔ x = c ∨ x ∈ l := by
  induction l with
  | nil => simp [insertContext]
  | cons y rest ih =>
    unfold insertContext
    split
    · simp
    · simp only [List.mem_cons, ih]
      tauto

/-- The contexts begun anew are those of the WIND entries (R78). -/
theorem mem_freshContexts {stations : List StationEntry} {c : WindContext} :
    c ∈ freshContexts stations ↔ ∃ w ∈ windPlaces stations, c = .begin w.index w.bearing := by
  unfold freshContexts
  induction windPlaces stations with
  | nil => simp
  | cons w rest ih => simp [mem_insertContext, ih]

theorem contextFits_fresh (lost : Nat) {stations : List StationEntry} {c : WindContext} (h : c ∈ freshContexts stations) :
    ContextFits lost c := by
  obtain ⟨w, -, rfl⟩ := mem_freshContexts.1 h
  exact contextFits_begin lost _ _

theorem windSwap_keeps (s : State) : Keeps s s.windSwap := by
  refine Keeps.trans (contexts_keep s _ fun _ law c hc => ?_) (Keeps.foldl (fun u c => raise_keeps u _ _) _ _)
  obtain ⟨d, hd, rfl⟩ := List.mem_map.1 hc
  split
  · next found => exact law _ (List.mem_of_find?_eq_some found)
  · exact contextFits_fresh _ hd

theorem update_keeps (s : State) (index : Nat) (f : WindContext → WindContext)
    (fits : ∀ lost c, ContextFits lost c → ContextFits lost (f c)) : Keeps s { s with wnd := s.wnd.update index f } := by
  refine contexts_keep s _ fun _ law c hc => ?_
  obtain ⟨d, hd, rfl⟩ := List.mem_map.1 hc
  split
  · exact fits _ d (law d hd)
  · exact law d hd

theorem takeSamples_keeps (s : State) (e : StationEntry) (samples : List Sample) : Keeps s (s.takeSamples e samples) := by
  unfold State.takeSamples
  split
  · exact update_keeps s _ _ fun _ _ => contextFits_appends samples
  · exact .refl s

theorem clearSlipsOf_keeps (s : State) (e : StationEntry) : Keeps s (s.clearSlipsOf e) := by
  unfold State.clearSlipsOf
  split
  · exact update_keeps s _ _ fun _ c h => contextFits_of_same h rfl rfl rfl
  · exact .refl s

/-! ### Valid tables -/

theorem distinct_iff_nodup {α : Type} [DecidableEq α] (l : List α) : distinct l = true ↔ l.Nodup := by
  induction l with
  | nil => simp [distinct]
  | cons a rest ih => simp [distinct, ih]

/-- R8: of a valid schedule, what a later STATIONS swap leaves in force. -/
theorem schedFits_of_valid {stations : List StationEntry} {p : Seg} {t : List SchedEntry} (h : schedValid stations p t = true) :
    SchedFits t := by
  simp only [schedValid, Bool.and_eq_true, decide_eq_true_eq, List.all_eq_true, distinct_iff_nodup, List.mem_range] at h
  obtain ⟨⟨⟨⟨short, entries⟩, once⟩, -⟩, slots⟩ := h
  exact ⟨short, entries, once, slots⟩

/-- A table that may be loaded. -/
def LoadedFits : LoadedTable → Prop
  | .stations t => stationsValid t = true
  | .schedT t => SchedFits t
  | .schedS t => SchedFits t
  | .hill h => h.valid = true
  | .distance t => distanceValid t = true
  | .competitors t => competitorsValid t = true

theorem stationsOfImage_valid {image : List Byte} {t : List StationEntry} (h : stationsOfImage image = some t) :
    stationsValid t = true := by
  unfold stationsOfImage at h
  split at h
  · split at h
    · split at h
      · cases h; assumption
      · cases h
    · cases h
  · cases h

theorem schedOfImage_valid {stations : List StationEntry} {p : Seg} {image : List Byte} {t : List SchedEntry}
    (h : schedOfImage stations p image = some t) : SchedFits t := by
  unfold schedOfImage at h
  split at h
  · split at h
    · split at h
      · cases h; exact schedFits_of_valid ‹_›
      · cases h
    · cases h
  · cases h

theorem hillOfImage_valid {image : List Byte} {t : HillTable} (h : hillOfImage image = some t) : t.valid = true := by
  unfold hillOfImage at h
  split at h
  · dsimp only at h
    split at h
    · split at h
      · cases h; assumption
      · cases h
    · cases h
  · cases h

theorem distanceOfImage_valid {image : List Byte} {t : List DistanceEntry} (h : distanceOfImage image = some t) :
    distanceValid t = true := by
  unfold distanceOfImage at h
  split at h
  · split at h
    · split at h
      · cases h; assumption
      · cases h
    · cases h
  · cases h

theorem competitorsOfImage_valid {image : List Byte} {t : List Competitor} (h : competitorsOfImage image = some t) :
    competitorsValid t = true := by
  unfold competitorsOfImage at h
  split at h
  · split at h
    · split at h
      · cases h; assumption
      · cases h
    · cases h
  · cases h

theorem tableOfImage_fits {stations : List StationEntry} {code : TableCode} {image : List Byte} {t : LoadedTable}
    (h : tableOfImage stations code image = some t) : LoadedFits t := by
  cases code <;> obtain ⟨x, hx, rfl⟩ := Option.map_eq_some_iff.1 h
  · exact stationsOfImage_valid hx
  · exact schedOfImage_valid hx
  · exact schedOfImage_valid hx
  · exact hillOfImage_valid hx
  · exact distanceOfImage_valid hx
  · exact competitorsOfImage_valid hx

end Sys2Proof.Proofs
end

section
/-! The lines, the slots and the station frames keep the laws (chapter 2). -/

namespace Sys2Proof.Proofs

open Sys2Proof.Machine Sys2Proof.Claims

/-! ### Presence -/

theorem setLink_keeps (s : State) (l : Link) : Keeps s (s.setLink l) :=
  .quiet rfl rfl rfl

theorem loseLight_keeps (s : State) : Keeps s s.loseLight := by
  unfold State.loseLight
  split
  · exact .refl s
  · exact withdraw_keeps _ _ _

theorem endEcho_keeps (s : State) : Keeps s s.endEcho := (stu_keeps s _ (by rfl)).trans (setV_keeps _ .lampMismatch _ rfl)

theorem lightChanged_keeps (s : State) (old new : Presence) : Keeps s (s.lightChanged old new) := by
  have lost : Keeps s (if old = .present then s.loseLight else s) := by
    split
    · exact loseLight_keeps s
    · exact .refl s
  unfold State.lightChanged
  dsimp only
  split
  · exact lost.trans (endEcho_keeps _)
  · exact lost

theorem gateChanged_keeps (s : State) (new : Presence) : Keeps s (s.gateChanged new) := by
  refine Keeps.trans ?_ (setV_keeps _ .gateFrozen _ rfl)
  split
  · exact stu_keeps s _ (by rfl)
  · exact .refl s

theorem presenceChanged_keeps (s : State) (addr : Nat) (kind : StationKind) (old new : Presence) :
    Keeps s (s.presenceChanged addr kind old new) := by
  refine (announcePresence_keeps s addr old new).trans ?_
  unfold State.presenceChanged
  dsimp only
  split
  · exact lightChanged_keeps _ _ _
  · exact gateChanged_keeps _ _
  · exact .refl _

theorem applyOutcome_keeps (s : State) (e : StationEntry) (good : Bool) : Keeps s (s.applyOutcome e good) := by
  unfold State.applyOutcome
  split
  · exact .refl s
  · dsimp only
    split
    · exact setLink_keeps s _
    · exact (setLink_keeps s _).trans (presenceChanged_keeps _ _ _ _ _)

theorem endSlot_keeps (s : State) (p : Seg) (good : Bool) : Keeps s (s.endSlot p good) := by
  unfold State.endSlot
  split
  · exact .refl s
  · have ended : Keeps s (s.setSeg p { s.seg p with slot := none }) := setSeg_keeps_of_same s p _ (by rfl)
    dsimp only
    split
    · exact ended
    · exact ended.trans (applyOutcome_keeps _ _ _)

theorem endBegun_keeps (s : State) (p : Seg) (good : Bool) : Keeps s (s.endBegun p good) := by
  unfold State.endBegun
  split
  · exact .refl s
  · split
    · exact endSlot_keeps s p good
    · exact .refl s

/-! ### Station frames -/

theorem takeEcho_keeps (s : State) (sent : Option Lamp) (shown : Lamp) : Keeps s (s.takeEcho sent shown) := by
  unfold State.takeEcho
  split
  · exact endEcho_keeps s
  · dsimp only
    split
    · exact (stu_keeps s _ (by rfl)).trans (setV_keeps _ .lampMismatch _ rfl)
    · exact stu_keeps s _ (by rfl)

theorem takeEdges_keeps (s : State) (e : StationEntry) (items : List EdgeItem) : Keeps s (s.takeEdges e items) := by
  unfold State.takeEdges
  split
  · exact Keeps.foldl takeCellA_keeps items s
  · exact Keeps.foldl takeCellB_keeps items s
  · exact Keeps.foldl (takeTakeoff_keeps e.addr) items s
  · exact Keeps.foldl (takeContact_keeps e.addr _ _) items s
  · exact .refl s

theorem route_keeps (s : State) (e : StationEntry) (lampSent : Option Lamp) (f : StationFrame) :
    Keeps s (s.route e lampSent f) := by
  cases f with
  | wind samples => exact takeSamples_keeps s e samples
  | gate report items => exact (takeGateReport_keeps s report).trans (Keeps.foldl (takeGateLeft_keeps e.addr) items _)
  | edge items => exact takeEdges_keeps s e items
  | coach bib => exact takeCoach_keeps s e.addr bib
  | style bib mark => exact takeStyle_keeps s e.addr _ bib mark
  | dist bib distance => exact takeDistance_keeps s e.addr bib distance
  | lampstat lamp => exact takeEcho_keeps s lampSent lamp
  | pass => exact .refl s
  | none => exact .refl s

theorem direct_keeps (s : State) (p : Seg) (e : StationEntry) (lampSent : Option Lamp) (kind seq : Byte)
    (payload : List Byte) : Keeps s (s.direct p e lampSent kind seq payload) := by
  unfold State.direct
  split
  · split
    · exact raise_keeps _ _ _
    · next a _ =>
      have thinned : Keeps s (if a.thinned then s.raise .stationDataBad e.addr else s) := by
        split
        · exact raise_keeps _ _ _
        · exact .refl s
      have routed := thinned.trans (route_keeps _ e lampSent a.frame)
      dsimp only
      split
      · exact routed.trans (offerMirror_keeps _ _)
      · exact routed
  · exact raise_keeps _ _ _

theorem dropOr_keeps (port : Port) {body : State → State} (keeps : ∀ s, Keeps s (body s)) (s : State) :
    Keeps s (s.dropOr port body) := by
  unfold State.dropOr
  split
  · exact setLine_keeps_of_same s port _ (by rfl)
  · exact keeps s

theorem portOfSeg_ne_O (p : Seg) : portOfSeg p ≠ .O := by cases p <;> exact Port.noConfusion

/-- A failure counted on the port of a segment. -/
theorem countFailure_seg_keeps (s : State) (p : Seg) (c : CounterName) : Keeps s (s.countFailure (portOfSeg p) c) :=
  countFailure_keeps s _ c fun h => absurd h (portOfSeg_ne_O p)

theorem stationFrame_keeps (p : Seg) (source kind seq : Byte) (payload : List Byte) (s : State) :
    Keeps s (State.stationFrame p source kind seq payload s) := by
  refine dropOr_keeps _ (fun s => ?_) s
  split
  · exact countFailure_seg_keeps s p _
  · split
    · dsimp only
      split
      · exact endBegun_keeps _ _ _
      · exact (endBegun_keeps _ _ _).trans (direct_keeps _ _ _ _ _ _ _)
    · exact (countFailure_seg_keeps s p _).trans (endBegun_keeps _ _ _)

/-! ### Frames that fail, and PASS frames from the office -/

theorem endMissed_keeps (s : State) (port : Port) : Keeps s (s.endMissed port) := by
  unfold State.endMissed
  split
  · exact .refl s
  · exact endBegun_keeps _ _ _

theorem endAborted_keeps (s : State) (port : Port) : Keeps s (s.endAborted port) := by
  unfold State.endAborted
  split
  · exact .refl s
  · exact endSlot_keeps _ _ _

theorem takeAbort_keeps (port : Port) (s : State) : Keeps s (s.takeAbort port) :=
  (countFailure_keeps s port .framing fun _ => by decide).trans (endAborted_keeps _ port)

/-- A receive check on port O fails by FRAMING, CRC or ADDRESS only (Table 2-4). -/
theorem receiveCheck_portO {slot : Option Nat} {content : List Byte} {c : CounterName}
    (h : receiveCheck .O slot content = some c) : c ≠ .source ∧ c ≠ .slotTimeout := by
  unfold receiveCheck at h
  split at h
  · split_ifs at h <;> cases h <;> decide
  · cases h
    decide

theorem misaddressed_keeps (s : State) (destination kind : Nat) : Keeps s (s.misaddressed destination kind) := by
  unfold State.misaddressed
  split
  · exact raise_keeps _ _ _
  · split
    · exact .refl s
    · exact countFailure_keeps s .O .address fun _ => by decide

theorem discardBytes_keeps (port : Port) (line : List Byte) (s : State) : Keeps s (s.discardBytes port line) := by
  unfold State.discardBytes
  split
  · exact takeAbort_keeps port s
  · split
    · exact .refl s
    · split
      · next c fails =>
        refine (countFailure_keeps s port c ?_).trans (endMissed_keeps _ port)
        rintro rfl
        exact receiveCheck_portO fails
      · split
        · exact misaddressed_keeps s _ _
        · exact .refl s

theorem takePass_keeps (seq destination : Byte) (payload : List Byte) (s : State) :
    Keeps s (s.takePass seq destination payload) := by
  have address : Keeps s (s.countFailure .O .address) := countFailure_keeps s .O .address fun _ => by decide
  unfold State.takePass
  split
  · split
    · exact address
    · split
      · exact address
      · dsimp only
        split
        · next room =>
          refine setSeg_keeps s _ _ fun _ => ?_
          simp only [Config.downstreamLimit] at room
          simp
          omega
        · exact raise_keeps _ _ _
  · exact raise_keeps _ _ _

/-! ### Slots -/

theorem sendOwn_keeps (s : State) (port : Port) (destination : Nat) (kind : FrameKind) (payload : List Byte) :
    Keeps s (s.sendOwn port destination kind payload) := setLine_keeps_of_same s port _ (by rfl)

theorem sendQueued_keeps (s : State) (port : Port) (f : QueuedFrame) : Keeps s (s.sendQueued port f) := by
  cases f with
  | pass a seq payload => exact setLine_keeps_of_same s port _ (by rfl)
  | page b kind payload => exact sendOwn_keeps s port b .page payload

theorem settle_counters (u : LineUnit) : u.settle.counters = u.counters := by
  unfold LineUnit.settle
  split <;> rfl

theorem abortSending_counters (u : LineUnit) (now : Time) : (u.abortSending now).counters = u.counters := by
  unfold LineUnit.abortSending
  split <;> rfl

theorem closeLine_keeps (s : State) (p : Seg) : Keeps s (s.closeLine p) := by
  refine setLine_keeps_of_same s _ _ ?_
  split
  · rfl
  · exact settle_counters _

theorem takeQueued_length {addr : Nat} {q rest : List QueuedFrame} {f : QueuedFrame}
    (h : takeQueued addr q = some (f, rest)) : rest.length ≤ q.length := by
  induction q generalizing rest with
  | nil => cases h
  | cons x more ih =>
    unfold takeQueued at h
    split at h
    · cases h
      simp
    · obtain ⟨y, hy, he⟩ := Option.map_eq_some_iff.1 h
      cases he
      have := ih hy
      simp
      omega

theorem openSlot_keeps (s : State) (p : Seg) (e : StationEntry) : Keeps s (s.openSlot p e) := by
  have opened : ∀ (u : State) (x : Slot), Keeps u (u.setSeg p { u.seg p with slot := some x }) :=
    fun u x => setSeg_keeps_of_same u p _ (by rfl)
  refine (closeLine_keeps s p).trans ?_
  unfold State.openSlot
  dsimp only
  split
  · exact (sendOwn_keeps _ _ _ _ _).trans (opened _ _)
  · split
    · split
      · next f rest found =>
        refine Keeps.trans (setSeg_keeps _ p _ fun h => ?_) ((sendQueued_keeps _ _ f).trans (opened _ _))
        exact (takeQueued_length found).trans h
      · exact (sendOwn_keeps _ _ _ _ _).trans (opened _ _)
    · exact (sendOwn_keeps _ _ _ _ _).trans (opened _ _)

theorem openNext_keeps (p : Seg) (s : State) : Keeps s (s.openNext p) := by
  unfold State.openNext
  dsimp only
  split
  · split
    · exact setSeg_keeps_of_same s p _ (by rfl)
    · exact (setSeg_keeps_of_same s p _ (by rfl)).trans (openSlot_keeps _ p _)
  · exact .refl s

theorem openWindow_keeps (p : Seg) (s : State) : Keeps s (s.openWindow p) := by
  unfold State.openWindow
  split
  · exact .refl s
  · split
    · exact .refl s
    · exact (setLine_keeps_of_same s _ _ (by rfl)).trans (setSeg_keeps_of_same _ p _ (by rfl))

theorem closeWindow_keeps (p : Seg) (s : State) : Keeps s (s.closeWindow p) := by
  unfold State.closeWindow
  split
  · exact .refl s
  · split
    · exact (countFailure_seg_keeps s p _).trans (endSlot_keeps _ p _)
    · exact .refl s

theorem cutFrame_keeps (s : State) (p : Seg) : Keeps s (s.cutFrame (portOfSeg p)) :=
  (countFailure_seg_keeps s p .framing).trans (setLine_keeps_of_same _ _ _ (by rfl))

theorem endBudget_keeps (p : Seg) (s : State) : Keeps s (s.endBudget p) := by
  unfold State.endBudget
  split
  · exact .refl s
  · split
    · refine Keeps.trans ?_ (endSlot_keeps _ p _)
      split
      · exact cutFrame_keeps s p
      · exact countFailure_seg_keeps s p _
    · exact .refl s

theorem beginFrame_keeps (p : Seg) (s : State) : Keeps s (s.beginFrame p) := by
  refine Keeps.trans (setLine_keeps_of_same s (portOfSeg p) { s.line (portOfSeg p) with dropping := false } (by rfl)) ?_
  unfold State.beginFrame
  dsimp only
  split
  · exact .refl _
  · exact setSeg_keeps_of_same _ p _ (by rfl)

/-! ### Cycle starts -/

theorem beginCycle_keeps (s : State) (p : Seg) : Keeps s (s.beginCycle p) := by
  unfold State.beginCycle
  dsimp only
  split
  · exact setSeg_keeps_of_same s p _ (by rfl)
  · exact (setSeg_keeps_of_same s p _ (by rfl)).trans (sendOwn_keeps _ _ _ _ _)

/-- The history after one more mark: the new one carries the cycle count, the others have moved back by one (R7, R33). -/
theorem historyFits_pushMark {s : State} (fits : HistoryFits s) : HistoryFits s.pushMark := by
  obtain ⟨length, entries⟩ := fits
  refine ⟨?_, fun i m t h => ?_⟩
  · simp only [State.pushMark, Config.markHistory, List.length_take, List.length_cons, length]
    omega
  · simp only [State.pushMark, Config.markHistory] at h
    obtain ⟨h, -⟩ : (((s.markNumber, s.now) :: s.hck.marks)[i]? = some (m, t)) ∧ i < 16 := by
      rw [List.getElem?_take] at h
      split at h
      · exact ⟨h, ‹_›⟩
      · cases h
    cases i with
    | zero =>
      cases h
      rfl
    | succ i =>
      have old := entries i m t h
      have : s.pushMark.lsc.cycleCount - 1 - (i + 1) = s.lsc.cycleCount - 1 - i := by
        simp only [State.pushMark]
        omega
      rw [this, old]

theorem pushMark_keeps (s : State) : Keeps s s.pushMark :=
  .of_lines ⟨fun _ _ => id, id, id, id, id, id, historyFits_pushMark⟩ rfl rfl

theorem countSettle_keeps (s : State) : Keeps s s.countSettle := by
  unfold State.countSettle
  split
  · exact flight_keeps s _
  · exact .refl s

theorem startCycle_keeps (s : State) : Keeps s s.startCycle := by
  unfold State.startCycle
  split
  · exact (((beginCycle_keeps s .T).trans (beginCycle_keeps _ .S)).trans (pushMark_keeps _)).trans
      (((windTick_keeps _).trans (testLiveWind_keeps _)).trans (countSettle_keeps _))
  · exact .refl s

/-! ### RESTART -/

theorem absentStation_keeps (s : State) (e : StationEntry) : Keeps s (s.absentStation e) := by
  unfold State.absentStation
  split
  · exact .refl s
  · dsimp only
    split
    · exact setLink_keeps s _
    · exact (setLink_keeps s _).trans (presenceChanged_keeps _ _ _ _ _)

theorem restartSegment_keeps (s : State) (p : Seg) : Keeps s (s.restartSegment p) := by
  refine Keeps.trans (Keeps.trans (setLine_keeps_of_same s _ _ ?_) (setSeg_keeps _ p _ fun _ => by simp))
    (Keeps.foldl absentStation_keeps _ _)
  split
  · exact abortSending_counters _ _
  · exact settle_counters _

theorem restart_keeps (port : Byte) (s : State) : Keeps s (restart port s).state := by
  unfold restart
  split
  · exact restartSegment_keeps s .T
  · exact restartSegment_keeps s .S
  · exact .refl s

theorem endSilence_keeps (p : Seg) (s : State) : Keeps s (s.endSilence p) := by
  unfold State.endSilence
  split
  · exact setSeg_keeps_of_same s p _ (by rfl)
  · exact .refl s

end Sys2Proof.Proofs
end

section
/-! The lists, the loading of tables, the readings, the store and the resets keep the laws (chapters 4, 11 and 12). -/

namespace Sys2Proof.Proofs

open Sys2Proof.Machine Sys2Proof.Claims

/-! ### Rounds and lists -/

/-- A change of the competition state with no record in the table, the lamp derived anew (R51, R53, R54, R56). -/
theorem competition_keeps (s : State) (x : CompState) (l : List Nat) (results : List ResultEntry) (u : StartUnit)
    (free : RecordsInRound s → s.jtb.records = [])
    (lists : BibLaw s → ResultsOrdered s → l.Nodup ∧ results.Pairwise StandsBefore ∧ (results.map (·.bib)).Nodup) :
    Keeps s (State.deriveLamp { s with competition := x, startList := l, results := results, stu := u }) := by
  refine .of_lists ?_ rfl rfl
  have inRound : RecordsInRound s → RecordsInRound
      (State.deriveLamp { s with competition := x, startList := l, results := results, stu := u }) := fun round k r h => by
    have := (s.jtb.mem_records k r).2 h
    rw [free round] at this
    cases this
  refine ⟨fun one round _ => ?_, inRound, fun round law order => ?_⟩
  · exact ⟨one, inRound round, lampLaw_of_derived one (inRound round) rfl (deriveLamp_lamp _)⟩
  · obtain ⟨nodup, pairwise, unique⟩ := lists law order
    refine ⟨⟨?_, unique⟩, pairwise, unique⟩
    show (l ++ s.jtb.records.map _).Nodup
    rw [free round, List.map_nil, List.append_nil]
    exact nodup

/-- Outside an open round there are no records (R60). -/
theorem records_of_closed {s : State} (closed : ¬RoundOpen s) (round : RecordsInRound s) : s.jtb.records = [] :=
  records_eq_nil_of_free fun k r h => closed (round k r h)

theorem startList_nodup {s : State} (law : BibLaw s) : s.startList.Nodup := (List.nodup_append.1 law.1).1

/-- The selection of R52 is a part of the results list. -/
theorem selection_sublist (q : Nat) (l : List ResultEntry) : (selection q l).Sublist l := by
  unfold selection
  dsimp only
  split
  · exact List.nil_sublist _
  · refine List.Sublist.trans ((List.takeWhile_sublist _).append_left _) ?_
    rw [List.take_append_drop]
    exact List.filter_sublist

theorem round2Order_nodup {q : Nat} {l : List ResultEntry} (unique : (l.map (·.bib)).Nodup) : (round2Order q l).Nodup :=
  List.nodup_reverse.2 (unique.sublist ((selection_sublist q l).map _))

theorem roundOpen_keeps (round : Byte) (s : State) : Keeps s (roundOpen round s).state := by
  unfold roundOpen
  split
  · split
    · exact .refl s
    · next prepare =>
      split
      · exact .refl s
      · refine Keeps.trans (competition_keeps s .r1Open s.startList s.results s.stu ?_ fun law order => ?_)
          (sendLeaders_keeps _)
        · rw [not_not] at prepare
          exact records_of_closed (by simp [RoundOpen, prepare])
        · exact ⟨startList_nodup law, order⟩
  · split
    · exact .refl s
    · next closed =>
      refine Keeps.trans (competition_keeps s .r2Open (round2Order s.tables.hill.q s.results) s.results s.stu ?_
        fun _ order => ?_) (sendLeaders_keeps _)
      · rw [not_not] at closed
        exact records_of_closed (by simp [RoundOpen, closed])
      · exact ⟨round2Order_nodup order.2, order⟩
  · exact .refl s

theorem roundClose_keeps (s : State) : Keeps s (roundClose s).state := by
  unfold roundClose
  split
  · exact .refl s
  · next may =>
    simp only [Bool.or_eq_true, Bool.not_eq_true', decide_eq_true_eq, not_or, ne_eq, not_not] at may
    refine Keeps.trans (Keeps.foldl (fun u bib => reportJump_keeps u (dnsReport bib)) s.startList s) ?_
    refine competition_keeps _ s.competition.closed [] _ _ (fun _ => ?_) fun _ order => ⟨List.nodup_nil, order⟩
    suffices h : ∀ (l : List Nat) (u : State), u.jtb = s.jtb →
        (l.foldl (fun s bib => s.reportJump (dnsReport bib)) u).jtb = s.jtb by
      rw [h s.startList s rfl]
      exact may.2
    intro l
    induction l with
    | nil => exact fun u h => h
    | cons b rest ih => exact fun u h => ih _ ((State.reportJump_jtb u _).trans h)

theorem resultsClear_keeps (s : State) : Keeps s (resultsClear s).state := by
  unfold resultsClear
  split
  · exact .refl s
  · next closed =>
    refine Keeps.trans (competition_keeps s .prepare [] [] s.stu (records_of_closed ?_) fun _ _ => ?_) (sendLeaders_keeps _)
    · rw [← isOpen_iff_roundOpen]
      exact closed
    · exact ⟨List.nodup_nil, .nil, List.nodup_nil⟩

/-- A start list that with the records' bibs holds none twice. -/
theorem startList_keeps (s : State) (l : List Nat) (once : (s.startList ++ recordBibs s).Nodup → (l ++ recordBibs s).Nodup) :
    Keeps s { s with startList := l } :=
  .of_lists ⟨fun one round law => ⟨one, round, law⟩, id, fun _ law order => ⟨⟨once law.1, law.2⟩, order⟩⟩ rfl rfl

theorem startList_keeps_of_perm (s : State) {l : List Nat} (perm : l.Perm s.startList) :
    Keeps s { s with startList := l } := startList_keeps s l (perm.append_right _).nodup_iff.2

theorem listInsert_keeps (bib position : Half) (s : State) : Keeps s (listInsert bib position s).state := by
  unfold listInsert
  dsimp only
  split_ifs with _ _ _ listed held
  all_goals first | exact .refl s | skip
  refine startList_keeps s _ fun once => ?_
  refine ((insertBib_perm bib.toNat position.toNat s.startList).append_right _).nodup_iff.2 (List.nodup_cons.2 ⟨?_, once⟩)
  rw [holding_isSome_iff] at held
  intro h
  rcases List.mem_append.1 h with h | h
  · exact listed h
  · obtain ⟨x, hx, same⟩ := List.mem_map.1 h
    exact held ⟨x.1, x.2, (s.jtb.mem_records _ _).1 hx, same⟩

theorem listRemove_keeps (bib : Half) (s : State) : Keeps s (listRemove bib s).state := by
  unfold listRemove
  dsimp only
  split_ifs
  all_goals first | exact .refl s | skip
  exact startList_keeps s _ fun once => once.sublist (List.erase_sublist.append_right _)

theorem listMove_keeps (bib position : Half) (s : State) : Keeps s (listMove bib position s).state := by
  unfold listMove
  dsimp only
  split_ifs with _ _ listed
  all_goals first | exact .refl s | skip
  exact startList_keeps_of_perm s ((insertBib_perm _ _ _).trans (List.perm_cons_erase listed).symm)

theorem listRead_keeps (index : Half) (s : State) : Keeps s (listRead index s).state := by
  unfold listRead
  split <;> exact .refl s

theorem resultsRead_keeps (index : Half) (detail : Byte) (s : State) : Keeps s (resultsRead index detail s).state := by
  unfold resultsRead
  split <;> exact .refl s

/-! ### Loading -/

theorem loadBuffer_keeps (s : State) (b : Option LoadBuffer) : Keeps s { s with loadBuffer := b } := .quiet rfl rfl rfl

theorem loadBegin_keeps (table : Byte) (length : Half) (s : State) : Keeps s (loadBegin table length s).state := by
  unfold loadBegin
  split
  · exact .refl s
  · split
    · exact loadBuffer_keeps s _
    · exact .refl s

theorem loadData_keeps (offset : Half) (data : List Byte) (s : State) : Keeps s (loadData offset data s).state := by
  unfold loadData
  split
  · exact .refl s
  · split
    · exact .refl s
    · split
      · exact .refl s
      · exact loadBuffer_keeps s _

theorem dropStation_keeps (s : State) (x : StationEntry × Presence) : Keeps s (s.dropStation x) := by
  unfold State.dropStation
  split
  · exact .refl s
  · dsimp only
    split
    · exact (announcePresence_keeps _ _ _ _).trans (lightChanged_keeps _ _ _)
    · exact announcePresence_keeps _ _ _ _

theorem followGate_keeps (s : State) : Keeps s s.followGate := setV_keeps s .gateFrozen _ rfl

theorem followLight_keeps (s : State) : Keeps s s.followLight := by
  unfold State.followLight
  split
  · exact endEcho_keeps s
  · exact .refl s

/-- A table of the six that are active replaced by a valid one; HILL, which the wind law reads, is not among them. -/
theorem tables_keep (s : State) (t : Tables) (hill : t.hill = s.tables.hill)
    (valid : TablesFit s → stationsValid t.stations = true ∧ SchedFits t.schedT ∧ SchedFits t.schedS ∧
      distanceValid t.distance = true ∧ competitorsValid t.competitors = true) : Keeps s { s with tables := t } := by
  refine .of_tables ⟨fun fit => ?_, fun _ law => ?_⟩ rfl rfl
  · obtain ⟨stations, schedT, schedS, distance, competitors⟩ := valid fit
    obtain ⟨-, -, -, hillFit, -, -, stored⟩ := fit
    exact ⟨stations, schedT, schedS, by rw [hill]; exact hillFit, distance, competitors, stored⟩
  · rw [windLaw_iff] at *
    rw [hill]
    exact law

/-- LSC's part of a STATIONS swap: presence, purged queues and marked slots (R9, R13, R25). -/
theorem lscSwap_keeps (s : State) (old new : List StationEntry) (links : List Link) :
    Keeps s { s with lsc := { s.lsc with
      segT := s.lsc.segT.swap old new .T, segS := s.lsc.segS.swap old new .S, links := links } } := by
  have purged : ∀ (p : Seg) (g : Segment), g.queue.length ≤ 32 → (g.swap old new p).queue.length ≤ 32 :=
    fun p g h => (List.length_filter_le _ _).trans h
  exact .of_lines ⟨fun _ _ => id, id, id, purged .T _, purged .S _, id, id⟩ rfl rfl

theorem swapStations_keeps (s : State) {new : List StationEntry} (valid : stationsValid new = true) :
    Keeps s (s.swapStations new) := by
  have swapped : Keeps s { s with
      tables := { s.tables with stations := new }
      lsc := { s.lsc with
        segT := s.lsc.segT.swap s.tables.stations new .T
        segS := s.lsc.segS.swap s.tables.stations new .S
        links := new.map (swappedLink s.tables.stations s.lsc.links) } } := by
    refine (lscSwap_keeps s s.tables.stations new _).trans (tables_keep _ { s.tables with stations := new } rfl fun fit => ?_)
    obtain ⟨-, schedT, schedS, -, distance, competitors, -⟩ := fit
    exact ⟨valid, schedT, schedS, distance, competitors⟩
  exact (swapped.trans (Keeps.foldl dropStation_keeps _ _)).trans
    (((followLight_keeps _).trans (windSwap_keeps _)).trans (followGate_keeps _))

/-- R91: a HILL table becomes active, and every context is tested anew against it. -/
theorem swapHill_keeps (s : State) {h : HillTable} (valid : h.valid = true) :
    Keeps s (State.thresholdSwap { s with tables := { s.tables with hill := h } }) := by
  have swapped : Keeps s { s with
      tables := { s.tables with hill := h }
      wnd := { s.wnd with contexts := s.wnd.contexts.map (WindContext.retest h) } } := by
    refine .of_tables ⟨fun fit => ?_, fun _ law c hc => ?_⟩ rfl rfl
    · obtain ⟨stations, schedT, schedS, -, rest⟩ := fit
      exact ⟨stations, schedT, schedS, valid, rest⟩
    · obtain ⟨d, hd, rfl⟩ := List.mem_map.1 hc
      exact contextFits_retest (law d hd)
  exact swapped.trans (noteChanges_keeps _ _ _)

theorem swapTable_keeps (s : State) {t : LoadedTable} (fits : LoadedFits t) : Keeps s (s.swapTable t) := by
  cases t with
  | stations x => exact swapStations_keeps s fits
  | hill x => exact swapHill_keeps s fits
  | schedT x =>
    refine tables_keep s _ rfl fun fit => ?_
    obtain ⟨stations, -, schedS, -, distance, competitors, -⟩ := fit
    exact ⟨stations, fits, schedS, distance, competitors⟩
  | schedS x =>
    refine tables_keep s _ rfl fun fit => ?_
    obtain ⟨stations, schedT, -, -, distance, competitors, -⟩ := fit
    exact ⟨stations, schedT, fits, distance, competitors⟩
  | distance x =>
    refine tables_keep s _ rfl fun fit => ?_
    obtain ⟨stations, schedT, schedS, -, -, competitors, -⟩ := fit
    exact ⟨stations, schedT, schedS, fits, competitors⟩
  | competitors x =>
    refine tables_keep s _ rfl fun fit => ?_
    obtain ⟨stations, schedT, schedS, -, distance, -, -⟩ := fit
    exact ⟨stations, schedT, schedS, distance, fits⟩

theorem loadEnd_keeps (s : State) : Keeps s (loadEnd s).state := by
  have closed : Keeps s { s with loadBuffer := none } := loadBuffer_keeps s _
  unfold loadEnd
  split
  · exact .refl s
  · split
    · exact .refl s
    · dsimp only
      split
      · exact closed
      · split
        · exact closed
        · next t read =>
          split
          · exact closed
          · exact closed.trans (swapTable_keeps _ (tableOfImage_fits read))

theorem readTable_keeps (table : Byte) (offset : Half) (s : State) : Keeps s (readTable table offset s).state := by
  unfold readTable
  split
  · exact .refl s
  · dsimp only
    split <;> exact .refl s

/-! ### Readings -/

theorem countersFit_zero : CountersFit .zero := by
  unfold CountersFit
  decide

theorem readCounters_keeps (port : Byte) (s : State) : Keeps s (readCounters port s).state := by
  unfold readCounters
  split
  · exact .refl s
  · exact setLine_keeps s _ _ (fun _ => countersFit_zero) fun _ _ _ => ⟨rfl, rfl⟩

theorem readStation_keeps (address clear : Byte) (s : State) : Keeps s (readStation address clear s).state := by
  unfold readStation
  split
  · exact .refl s
  · split
    · exact .refl s
    · unfold accept
      dsimp only
      split
      · exact clearSlipsOf_keeps s _
      · exact .refl s

/-- READ_CONDITIONS leaves each condition as R179 says. -/
theorem conditions_get_afterRead (cs : Conditions) (c : CondName) : cs.afterRead.get c = (cs.get c).afterRead := by
  cases c <;> rfl

theorem afterRead_v (c : Condition) : c.afterRead.v = c.v := by
  unfold Condition.afterRead
  split <;> rfl

theorem readConditions_keeps (s : State) : Keeps s (readConditions s).state := by
  refine .of_lines (.of_reports (fun _ _ => id) (fun c _ => ?_) rfl rfl rfl rfl rfl rfl rfl rfl)
    rfl rfl
  rw [show (readConditions s).state.conditions.get c = _ from conditions_get_afterRead s.conditions c, afterRead_v]
  exact id

theorem setReportEnables_keeps (conditions : Half) (kinds : Byte) (s : State) :
    Keeps s (setReportEnables conditions kinds s).state :=
  .quiet rfl rfl rfl

theorem snapshot_keeps (s : State) : Keeps s (snapshot s).state :=
  .quiet rfl rfl rfl

theorem snapshotPart_keeps (part : Byte) (s : State) : Keeps s (snapshotPart part s).state := by
  unfold snapshotPart
  repeat' split
  all_goals exact .refl s

/-- R184, R185: a frame sent leaves the office queue, and the reply of a RESET empties it. -/
theorem frameSent_keeps (s : State) : Keeps s s.frameSent := by
  unfold State.frameSent
  split
  · exact .refl s
  · next f sending =>
    have sent : Keeps s { s with office := { s.office with sending := none }, lineO := s.lineO.close s.now } := by
      refine .of_lines ⟨fun n _ h => ?_, fun h => ?_, id, id, id, id, id⟩ rfl rfl
      · simp only [framesOf] at *
        simp
        omega
      · simp only [OfficeQueue.mirrorCount] at *
        omega
    dsimp only
    split
    · split
      · refine sent.trans (.of_lines ⟨fun n _ _ => ?_, fun _ => ?_, fun h => ?_, id, id, id, id⟩ rfl rfl)
        · exact Nat.zero_le n
        · exact Nat.zero_le 48
        · cases h
      · exact sent
    · exact sent

/-! ### The store -/

/-- The settings store and the store engine, with valid tables in them. -/
theorem store_keeps (s : State) (x : SettingsStore) (e : Option StoreJob)
    (stored : TablesFit s → ItemFits (fun t => stationsValid t = true) x.stations ∧ ItemFits SchedFits x.schedT ∧
      ItemFits SchedFits x.schedS ∧ ItemFits (fun h : HillTable => h.valid = true) x.hill ∧
      ItemFits (fun t => distanceValid t = true) x.distance)
    (copied : TablesFit s → ∀ job, e = some job → stationsValid job.items.stations = true ∧ SchedFits job.items.schedT ∧
      SchedFits job.items.schedS ∧ job.items.hill.valid = true ∧ distanceValid job.items.distance = true) :
    Keeps s { s with store := x, engine := e } := by
  refine .of_tables ⟨fun fit => ?_, fun _ => id⟩ rfl rfl
  obtain ⟨a, b, c, d, e⟩ := stored fit
  have copied := copied fit
  obtain ⟨stations, schedT, schedS, hill, distance, competitors, -⟩ := fit
  exact ⟨stations, schedT, schedS, hill, distance, competitors, a, b, c, d, e, copied⟩

theorem storeSettings_keeps (s : State) : Keeps s (storeSettings s).state := by
  unfold storeSettings
  split
  · exact .refl s
  · refine store_keeps s s.store _ (fun fit => ?_) fun fit job taken => ?_
    · obtain ⟨-, -, -, -, -, -, a, b, c, d, e, -⟩ := fit
      exact ⟨a, b, c, d, e⟩
    · cases taken
      obtain ⟨stations, schedT, schedS, hill, distance, -⟩ := fit
      exact ⟨stations, schedT, schedS, hill, distance⟩

theorem itemFits_written {α : Type} {p : α → Prop} (ok : Bool) {a : α} (h : p a) : ItemFits p (writtenItem ok a) := by
  unfold writtenItem
  split
  · exact h
  · trivial

theorem completeStore_keeps (o : StoreOutcome) (s : State) : Keeps s (s.completeStore o) := by
  unfold State.completeStore
  split
  · exact .refl s
  · next job writing =>
    split
    · refine Keeps.trans (store_keeps s (writtenStore job.items o) none (fun fit => ?_) fun _ _ h => nomatch h)
        ((raise_keeps _ _ _).trans (setV_keeps _ .storeBad _ rfl))
      obtain ⟨-, -, -, -, -, -, -, -, -, -, -, copied⟩ := fit
      obtain ⟨a, b, c, d, e⟩ := copied job writing
      exact ⟨itemFits_written _ a, itemFits_written _ b, itemFits_written _ c, itemFits_written _ d, itemFits_written _ e⟩
    · exact .refl s

theorem itemFits_cut {α : Type} {p : α → Prop} (place written : Nat) (mid : Bool) {a : α} {old : StoreItem α} (h : p a)
    (h' : ItemFits p old) : ItemFits p (cutItem place written mid a old) := by
  unfold cutItem
  split
  · exact h
  · split
    · trivial
    · exact h'

/-- R200: the line units let go of their frames. -/
theorem linesLow_keeps (s : State) : Keeps s { s with
    heldInReset := true
    lineT := { s.lineT with shifter := none, ahead := .idle }
    lineS := { s.lineS with shifter := none, ahead := .idle }
    lineO := { s.lineO with shifter := none, ahead := .idle } } := .quiet rfl rfl rfl

theorem pinLow_keeps (itemsWritten : Nat) (midItem : Bool) (s : State) : Keeps s (s.pinLow itemsWritten midItem) := by
  refine (linesLow_keeps s).trans (store_keeps _ _ none (fun fit => ?_) fun _ _ h => nomatch h)
  obtain ⟨-, -, -, -, -, -, a, b, c, d, e, copied⟩ := fit
  cases writing : s.engine with
  | none => exact ⟨a, b, c, d, e⟩
  | some job =>
    obtain ⟨a', b', c', d', e'⟩ := copied job writing
    exact ⟨itemFits_cut _ _ _ a' a, itemFits_cut _ _ _ b' b, itemFits_cut _ _ _ c' c, itemFits_cut _ _ _ d' d,
      itemFits_cut _ _ _ e' e⟩

/-! ### Resets -/

theorem insertByClear_perm (r : JumpRecord) (l : List JumpRecord) : (insertByClear r l).Perm (r :: l) := by
  induction l with
  | nil => exact .refl _
  | cons x rest ih =>
    unfold insertByClear
    split
    · exact .refl _
    · exact (ih.cons x).trans (.swap r x rest)

theorem insertByClear_foldl_perm (l m : List JumpRecord) :
    (l.foldl (fun l r => insertByClear r l) m).Perm (l ++ m) := by
  induction l generalizing m with
  | nil => exact .refl _
  | cons r rest ih =>
    exact (ih _).trans (((insertByClear_perm r m).append_left rest).trans List.perm_middle)

/-- The bibs that return are those of the records (R49). -/
theorem returning_perm (t : JumpTable) : t.returning.Perm (t.records.map (·.2.bib)) := by
  have perm := (insertByClear_foldl_perm (t.records.map (·.2)) []).map (·.bib)
  simpa [JumpTable.returning, Function.comp_def] using perm

theorem itemFits_read {α : Type} {p : α → Prop} {x : StoreItem α} {empty : α} (h : ItemFits p x) (h' : p empty) :
    p (x.read empty) := by
  cases x <;> first | exact h' | exact h

theorem schedFits_nil : SchedFits [] := ⟨by decide, by simp, .nil, by simp⟩

/-- Of two valid tables the one that a reset makes active is valid. -/
theorem valid_ite {α : Type} {p : α → Prop} (b : Bool) {x y : α} (hx : p x) (hy : p y) : p (if b then x else y) := by
  split
  · exact hx
  · exact hy

theorem tablesAfter_valid {s : State} (kind : ResetKind) (fit : TablesFit s) :
    stationsValid (s.tablesAfter kind).stations = true ∧ SchedFits (s.tablesAfter kind).schedT ∧
      SchedFits (s.tablesAfter kind).schedS ∧ (s.tablesAfter kind).hill.valid = true ∧
      distanceValid (s.tablesAfter kind).distance = true ∧ competitorsValid (s.tablesAfter kind).competitors = true := by
  obtain ⟨stations, -, -, hill, distance, competitors, a, b, c, d, e, -⟩ := fit
  refine ⟨valid_ite (p := fun t => stationsValid t = true) _ stations (itemFits_read a (by decide)),
    itemFits_read b schedFits_nil, itemFits_read c schedFits_nil,
    valid_ite (p := fun h : HillTable => h.valid = true) _ hill (itemFits_read d (by decide)),
    valid_ite (p := fun t => distanceValid t = true) _ distance (itemFits_read e (by decide)), ?_⟩
  simp only [State.tablesAfter]
  split
  · decide
  · exact competitors

theorem afterReset_values (bad : Bool) (c : CondName) (event : c.isState = false) :
    ((Conditions.afterReset bad).get c).v = false := by
  cases c <;> first | rfl | cases event

theorem afterReset_keeps (kind : ResetKind) (s : State) : Keeps s (s.afterReset kind) := by
  have zero := countersFit_zero
  refine ⟨⟨fun n _ _ => Nat.zero_le n, fun _ => Nat.zero_le 48, fun h => (nomatch h), fun _ => Nat.zero_le 32,
    fun _ => Nat.zero_le 32, fun _ => ⟨zero, zero, zero, rfl, rfl, afterReset_values _⟩, fun _ => ⟨rfl, fun i m t h => ?_⟩⟩,
    ⟨fun _ _ _ => ?_, fun _ k r h => ?_, fun _ law order => ?_⟩, ⟨fun fit => ?_, fun _ _ c hc => ?_⟩⟩
  · cases h
  · have free : ∀ k, JumpTable.empty.get k = none := fun k => by
      match k with
      | 0 | 1 | 2 | 3 => rfl
    have one : OneActive JumpTable.empty := fun i _ _ _ h => by rw [free i] at h; cases h
    have round : RecordsInRound (s.afterReset kind) := fun i r h => by
      rw [show (s.afterReset kind).jtb = .empty from rfl, free i] at h
      cases h
    exact ⟨one, round, lampLaw_of_derived one round rfl rfl⟩
  · match k with
    | 0 | 1 | 2 | 3 => cases h
  · by_cases keep : kind = .keep
    · subst keep
      have bibs : (s.jtb.returning ++ s.startList).Perm (s.startList ++ recordBibs s) :=
        List.perm_append_comm.trans ((returning_perm s.jtb).append_left _)
      refine ⟨⟨?_, law.2⟩, order⟩
      show ((s.jtb.returning ++ s.startList) ++ []).Nodup
      rw [List.append_nil]
      exact bibs.nodup_iff.2 law.1
    · have start : (s.afterReset kind).startList = [] := if_neg (by simpa using keep)
      have results : (s.afterReset kind).results = [] := if_neg (by simpa using keep)
      refine ⟨⟨?_, ?_⟩, ?_, ?_⟩
      · rw [start]
        exact .nil
      all_goals
        rw [results]
        exact .nil
  · obtain ⟨stations, schedT, schedS, hill, distance, competitors⟩ := tablesAfter_valid kind fit
    obtain ⟨-, -, -, -, -, -, a, b, c, d, e, -⟩ := fit
    exact ⟨stations, schedT, schedS, hill, distance, competitors, a, b, c, d, e, fun _ h => nomatch h⟩
  · exact contextFits_fresh _ hc

theorem takeReset_keeps (s : State) : Keeps s s.takeReset := by
  unfold State.takeReset
  split
  · split
    · exact afterReset_keeps _ s
    · exact .refl s
  · exact .refl s

theorem resetPart_keeps (kind : Byte) (s : State) : Keeps s (resetPart kind s).state := by
  have taken : ∀ x, Keeps s { s with takenReset := x } := fun _ => .quiet rfl rfl rfl
  unfold resetPart
  split
  · exact taken _
  · exact taken _
  · exact .refl s

/-! ### READY -/

theorem indicateStates_keeps (s : State) : Keeps s s.indicateStates := by
  refine Keeps.foldl (fun u c => ?_) _ s
  split
  · exact setCondition_keeps u c _ fun _ => id
  · exact .refl u

theorem offerIndicated_keeps (s : State) : Keeps s s.offerIndicated := by
  refine Keeps.foldl (fun u c => ?_) _ s
  split
  · exact offerCondition_keeps u c
  · exact .refl u

theorem becomeReady_keeps (s : State) : Keeps s s.becomeReady := by
  have ready : ∀ u : State, Keeps u { u with ready := true } := fun _ => .quiet rfl rfl rfl
  unfold State.becomeReady
  split
  · exact (((raise_keeps s .restarted _).trans (indicateStates_keeps _)).trans (ready _)).trans (offerIndicated_keeps _)
  · exact .refl s

end Sys2Proof.Proofs
end

section
/-! Every step keeps the invariants (O56 to O60). -/

namespace Sys2Proof.Proofs

open Sys2Proof.Machine Sys2Proof.Claims

/-! ### A command as a whole -/

/-- What a whole command keeps: the queue bounds with no place left open, and the other laws as its operations keep them. -/
structure CommandKeeps (s t : State) : Prop where
  queues : QueueBounds s → QueueBounds t
  status : StatusLegal s → StatusLegal t
  history : HistoryFits s → HistoryFits t
  lists : KeepsLists s t
  tables : KeepsTables s t

theorem CommandKeeps.of_keeps {s t : State} (h : Keeps s t) : CommandKeeps s t := by
  refine ⟨?_, h.lines.status, h.lines.history, h.lists, h.tables⟩
  rintro ⟨count, mirrors, place, queueT, queueS⟩
  have closed : t.office.place = false := by
    by_contra opened
    have := h.lines.place (Bool.not_eq_false _ ▸ opened)
    rw [place] at this
    cases this
  have room := h.lines.room 64 (by omega) (by rw [count_eq_framesOf, place] at count; simpa using count)
  refine ⟨?_, h.lines.mirrors mirrors, closed, h.lines.queueT queueT, h.lines.queueS queueS⟩
  rw [count_eq_framesOf, closed]
  simpa using room

theorem CommandKeeps.before {s t u : State} (h : Keeps s t) (h' : CommandKeeps t u) : CommandKeeps s u where
  queues := h'.queues ∘ (CommandKeeps.of_keeps h).queues
  status := h'.status ∘ h.lines.status
  history := h'.history ∘ h.lines.history
  lists := h.lists.trans h'.lists
  tables := h.tables.trans h'.tables

theorem CommandKeeps.thenKeeps {s t u : State} (h : CommandKeeps s t) (h' : Keeps t u) : CommandKeeps s u where
  queues := (CommandKeeps.of_keeps h').queues ∘ h.queues
  status := h'.lines.status ∘ h.status
  history := h'.lines.history ∘ h.history
  lists := h.lists.trans h'.lists
  tables := h.tables.trans h'.tables

/-- A request that is answered: the place it takes below 64 is filled by its reply (R182, R183). -/
theorem fillPlace_keeps {s : State} {seq code : Byte} {a : Answer} (room : s.office.count < 64)
    (rule : Keeps { s with office := { s.office with place := true } } a.state) :
    CommandKeeps s (State.fillPlace seq code a) := by
  have placed : KeepsLists s { s with office := { s.office with place := true } } := .of_same rfl
  have placed' : KeepsTables s { s with office := { s.office with place := true } } := .of_same rfl
  refine ⟨?_, rule.lines.status, rule.lines.history,
    (placed.trans rule.lists).trans (.of_same rfl),
    (placed'.trans rule.tables).trans (.of_same rfl)⟩
  rintro ⟨-, mirrors, place, queueT, queueS⟩
  have before : framesOf s.office ≤ 63 := by
    rw [count_eq_framesOf, place] at room
    exact Nat.le_of_lt_succ room
  have after := rule.lines.room 63 (by omega) before
  refine ⟨?_, rule.lines.mirrors mirrors, rfl, rule.lines.queueT queueT, rule.lines.queueS queueS⟩
  simp only [framesOf] at after
  simp only [OfficeQueue.count, State.fillPlace, List.length_append, List.length_singleton, Bool.toNat_false]
  omega

/-- A request event, whose own rule keeps the laws. -/
theorem takeRequest_keeps {seq code : Byte} {early : Bool} {body : State → Answer} (rule : ∀ s, Keeps s (body s).state)
    (s : State) : CommandKeeps s (s.takeRequest seq code early body) := by
  unfold State.takeRequest
  split
  · exact .of_keeps (.refl s)
  · split
    · exact .of_keeps (raise_keeps s _ _)
    · next room =>
      simp only [Config.replyLimit, not_le] at room
      dsimp only
      split
      · exact fillPlace_keeps room (rule _)
      · exact fillPlace_keeps room (.refl _)

/-- An event whose body keeps the laws. -/
theorem event_keeps {t : Time} {body : State → State} {s u : State} (keeps : ∀ s, CommandKeeps s (body s))
    (h : event t body s = .next u) : CommandKeeps s u := by
  unfold event at h
  split at h
  · cases h
    exact .of_keeps (.refl s)
  · cases h
    exact .before (setNow_keeps s t) ((keeps _).thenKeeps (pumpOffice_keeps _))

theorem plain_event_keeps {t : Time} {body : State → State} {s u : State} (keeps : ∀ s, Keeps s (body s))
    (h : event t body s = .next u) : CommandKeeps s u := event_keeps (fun s => .of_keeps (keeps s)) h

theorem request_keeps {t : Time} {seq code : Byte} {body : State → Answer} {s u : State}
    (rule : ∀ s, Keeps s (body s).state) (h : request t seq code body s = .next u) : CommandKeeps s u :=
  event_keeps (takeRequest_keeps rule) h

/-- An expiry that is taken when it is armed for its hill time. -/
theorem expiry_keeps {now : Time} {body : State → State} {s u : State} (armed : State → Prop) [DecidablePred armed]
    (keeps : ∀ s, Keeps s (body s)) (h : event now (fun s => if armed s then body s else s) s = .next u) :
    CommandKeeps s u := by
  refine plain_event_keeps (fun s => ?_) h
  split
  · exact keeps s
  · exact .refl s

theorem inRunExpiry_keeps {now : Time} {s u : State} (h : execInRunExpiry now s = .next u) : CommandKeeps s u := by
  refine plain_event_keeps (fun s => ?_) h
  split
  · exact .refl s
  · split
    · exact takeInRunExpiry_keeps s _
    · exact .refl s

theorem confirmExpiry_keeps {now : Time} {slot : Fin 4} {s u : State} (h : execConfirmExpiry now slot s = .next u) :
    CommandKeeps s u := by
  refine plain_event_keeps (fun s => ?_) h
  split
  · exact .refl s
  · split
    · exact takeConfirmExpiry_keeps s slot _
    · exact .refl s

theorem marksWindowExpiry_keeps {now : Time} {slot : Fin 4} {s u : State}
    (h : execMarksWindowExpiry now slot s = .next u) : CommandKeeps s u := by
  refine plain_event_keeps (fun s => ?_) h
  split
  · exact .refl s
  · split
    · exact takeMarksExpiry_keeps s slot
    · exact .refl s

theorem refusal_keeps (status : Status) (s : State) : Keeps s (refuse status s).state := .refl s

theorem loadDataRequest_keeps {now : Time} {seq : Byte} {offset : Half} {data : List Byte} {s u : State}
    (h : execLoadData now seq offset data s = .next u) : CommandKeeps s u := by
  unfold execLoadData at h
  split at h
  · exact request_keeps (loadData_keeps offset data) h
  · exact event_keeps (takeRequest_keeps (refusal_keeps .badRequest)) h

theorem unknownRequest_keeps {now : Time} {seq code : Byte} {args : List Byte} {s u : State}
    (h : execUnknownRequest now seq code args s = .next u) : CommandKeeps s u := by
  refine event_keeps (fun s => ?_) h
  split
  · exact takeRequest_keeps (refusal_keeps .badRequest) s
  · exact .of_keeps (.refl s)

/-- Every command keeps the laws. -/
theorem exec_keeps {c : Instr} {s u : State} (h : exec c s = .next u) : CommandKeeps s u := by
  cases c with
  | identify now seq => exact event_keeps (takeRequest_keeps .refl) h
  | reset now seq kind => exact request_keeps (resetPart_keeps kind) h
  | resetEffect now => exact plain_event_keeps takeReset_keeps h
  | powerOnReset => cases h; exact .of_keeps (afterReset_keeps .powerOn s)
  | ready now => exact plain_event_keeps becomeReady_keeps h
  | restart now seq port => exact request_keeps (restart_keeps port) h
  | restartSilenceEnd now seg => exact plain_event_keeps (endSilence_keeps seg) h
  | store now seq => exact request_keeps storeSettings_keeps h
  | storeCompletion now outcome => exact plain_event_keeps (completeStore_keeps outcome) h
  | loadBegin now seq table length => exact request_keeps (loadBegin_keeps table length) h
  | loadData now seq offset data => exact loadDataRequest_keeps h
  | loadEnd now seq => exact request_keeps loadEnd_keeps h
  | readTable now seq table offset => exact request_keeps (readTable_keeps table offset) h
  | readCounters now seq port => exact request_keeps (readCounters_keeps port) h
  | readStation now seq address clear => exact request_keeps (readStation_keeps address clear) h
  | readConditions now seq => exact request_keeps readConditions_keeps h
  | setReportEnables now seq conditions kinds => exact request_keeps (setReportEnables_keeps conditions kinds) h
  | snapshot now seq => exact request_keeps snapshot_keeps h
  | snapshotPart now seq part => exact request_keeps (snapshotPart_keeps part) h
  | roundOpen now seq round => exact request_keeps (roundOpen_keeps round) h
  | roundClose now seq => exact request_keeps roundClose_keeps h
  | resultsClear now seq => exact request_keeps resultsClear_keeps h
  | listInsert now seq bib position => exact request_keeps (listInsert_keeps bib position) h
  | listRemove now seq bib => exact request_keeps (listRemove_keeps bib) h
  | listMove now seq bib position => exact request_keeps (listMove_keeps bib position) h
  | listRead now seq index => exact request_keeps (listRead_keeps index) h
  | resultsRead now seq index detail => exact request_keeps (resultsRead_keeps index detail) h
  | clear now seq => exact request_keeps clearJumper_keeps h
  | hold now seq => exact request_keeps holdJumper_keeps h
  | windGate now seq on => exact request_keeps (setWindGate_keeps on) h
  | setReferenceGate now seq gate => exact request_keeps (setReference_keeps gate) h
  | enterDistance now seq bib distance => exact request_keeps (enterDistance_keeps bib distance) h
  | enterMark now seq bib seat mark => exact request_keeps (enterMark_keeps bib seat mark) h
  | annul now seq bib => exact request_keeps (annul_keeps bib) h
  | disqualify now seq bib => exact request_keeps (disqualify_keeps bib) h
  | reinstate now seq bib => exact request_keeps (reinstate_keeps bib) h
  | readJump now seq slot part => exact request_keeps (readJump_keeps slot part) h
  | unknownRequest now seq code args => exact unknownRequest_keeps h
  | officePass now seq destination payload => exact plain_event_keeps (takePass_keeps seq destination payload) h
  | frameDiscarded now port line => exact plain_event_keeps (dropOr_keeps port (discardBytes_keeps port line)) h
  | abortReceived now port => exact plain_event_keeps (dropOr_keeps port (takeAbort_keeps port)) h
  | cycleStart now => exact plain_event_keeps startCycle_keeps h
  | slotOpen now seg => exact plain_event_keeps (openNext_keeps seg) h
  | replyWindowOpen now seg => exact plain_event_keeps (openWindow_keeps seg) h
  | replyWindowClose now seg => exact plain_event_keeps (closeWindow_keeps seg) h
  | slotBudgetEnd now seg => exact plain_event_keeps (endBudget_keeps seg) h
  | windFrame now seg source seq payload => exact plain_event_keeps (stationFrame_keeps seg source _ seq payload) h
  | gateFrame now seg source seq payload => exact plain_event_keeps (stationFrame_keeps seg source _ seq payload) h
  | edgeFrame now seg source seq payload => exact plain_event_keeps (stationFrame_keeps seg source _ seq payload) h
  | coachFrame now seg source seq payload => exact plain_event_keeps (stationFrame_keeps seg source _ seq payload) h
  | styleFrame now seg source seq payload => exact plain_event_keeps (stationFrame_keeps seg source _ seq payload) h
  | distFrame now seg source seq payload => exact plain_event_keeps (stationFrame_keeps seg source _ seq payload) h
  | lampstatFrame now seg source seq payload => exact plain_event_keeps (stationFrame_keeps seg source _ seq payload) h
  | stationPassFrame now seg source seq payload => exact plain_event_keeps (stationFrame_keeps seg source _ seq payload) h
  | noneFrame now seg source seq payload => exact plain_event_keeps (stationFrame_keeps seg source _ seq payload) h
  | windWaitExpiry now => exact expiry_keeps (fun s => s.stu.windWait = some s.now) takeWindWait_keeps h
  | greenFlashExpiry now => exact expiry_keeps (fun s => s.stu.greenFlash = some s.now) takeGreenFlash_keeps h
  | greenExpiry now => exact expiry_keeps (fun s => s.stu.greenExpiry = some s.now) takeGreenExpiry_keeps h
  | countdownSecondExpiry now => exact expiry_keeps (fun s => s.dsp.countdownExpiry = some s.now) takeCountdown_keeps h
  | inRunExpiry now => exact inRunExpiry_keeps h
  | flightExpiry now => exact plain_event_keeps takeFlightExpiry_keeps h
  | landingSettle now => exact plain_event_keeps takeSettle_keeps h
  | windClose now slot => exact plain_event_keeps (windCloseAtCycle_keeps slot) h
  | confirmExpiry now slot => exact confirmExpiry_keeps h
  | marksWindowExpiry now slot => exact marksWindowExpiry_keeps h
  | officeFrameSent now => exact plain_event_keeps frameSent_keeps h
  | resetPinDrivenLow itemsWritten midItem => cases h; exact .of_keeps (pinLow_keeps _ midItem s)
  | frameBegun now seg => exact plain_event_keeps (beginFrame_keeps seg) h
  | stationFrameNotAdmitted now seg source kind seq payload =>
    exact plain_event_keeps (stationFrame_keeps seg source kind seq payload) h

theorem pending_keeps (s : State) (l : List Instr) : Keeps s { s with pending := l } := .quiet rfl rfl rfl

theorem tick_keeps (s : State) : Keeps s s.tick := by
  unfold State.tick
  split
  · exact .refl s
  · exact (setNow_keeps s _).trans (pending_keeps _ _)

/-- Every step keeps the laws. -/
theorem step_keeps {s t : State} (h : step s = .next t) : CommandKeeps s t := by
  unfold step at h
  split at h
  · cases h
    exact .of_keeps (tick_keeps s)
  · exact .before (pending_keeps s _) (exec_keeps h)

/-! ### The invariants -/

/-- Settles O56: the queue bounds by the room each admission leaves, the counters and values operation by operation, and the mark
history by the cycle start alone. -/
theorem boundsAreKept : Obligations.BoundsAreKept := by
  unfold Obligations.BoundsAreKept
  intro s t queues status history stepped
  have keeps := step_keeps stepped
  exact ⟨keeps.queues queues, keeps.status status, keeps.history history⟩

/-- Settles O57: every change of the records either shrinks them or creates one where none is active, and derives the lamp anew. -/
theorem lampLawIsKept : Obligations.LampLawIsKept := by
  unfold Obligations.LampLawIsKept
  intro s t one round law stepped
  exact (step_keeps stepped).lists.lamp one round law

/-- Settles O58: a bib moves between the start list and the records, and an entry is placed by the ranking order among entries of
other bibs. -/
theorem listsStayLawful : Obligations.ListsStayLawful := by
  unfold Obligations.ListsStayLawful
  intro s t round law order stepped
  have keeps := step_keeps stepped
  exact ⟨keeps.lists.rounds round, keeps.lists.bibs round law order⟩

/-- A context that is not LOST has an entry that a sample gave among its latest ones: the one behind its bad run (R91). -/
theorem sampled_of_contextFits {lost : Nat} {c : WindContext} (fits : ContextFits lost c) (alive : c.state ≠ .lost) :
    ∃ e ∈ c.ring.take lost, e.quality ≠ .repeated ∧ e.quality ≠ .missing := by
  obtain ⟨run, -, bounds⟩ := fits
  obtain ⟨bad, entries⟩ := bounds alive
  have length : (c.ring.takeWhile fun e => !e.quality.sampled).length = c.badRun := by omega
  have inside : c.badRun < c.ring.length := by omega
  have stops := List.takeWhile_eq_take_findIdx_not (p := fun e : GridEntry => !e.quality.sampled) (xs := c.ring)
  have index : c.ring.findIdx (fun e => e.quality.sampled) = c.badRun := by
    rw [stops, List.length_take, Nat.min_eq_left List.findIdx_le_length] at length
    simpa using length
  have sampled : (c.ring[c.badRun]).quality.sampled = true := by
    have := List.findIdx_getElem (p := fun e : GridEntry => e.quality.sampled) (xs := c.ring) (w := by rw [index]; exact inside)
    simpa [index] using this
  refine ⟨c.ring[c.badRun], ?_, ?_⟩
  · exact List.mem_take_iff_getElem.2 ⟨c.badRun, by omega, rfl⟩
  · constructor <;> intro quality <;> rw [quality] at sampled <;> cases sampled

/-- Settles O59: a table becomes active or is stored only when it is valid, and each grid entry carries the wind law on. -/
theorem tablesAndWindStayLawful : Obligations.TablesAndWindStayLawful := by
  unfold Obligations.TablesAndWindStayLawful
  intro s t tables wind stepped
  have keeps := (step_keeps stepped).tables
  have law := keeps.wind tables wind
  exact ⟨keeps.tables tables, law, fun c hc alive => sampled_of_contextFits (law c hc) alive⟩

end Sys2Proof.Proofs
end

section
/-! The step and the state after reset (O1, O60). -/

namespace Sys2Proof.Proofs

open Sys2Proof.Machine Sys2Proof.Claims

/-- Settles O1: by the front of the queue, which `step` looks at. -/
theorem stepRunsFrontCommand : Obligations.StepRunsFrontCommand := by
  unfold Obligations.StepRunsFrontCommand
  intro c rest s front
  rw [step, front]

/-- No slot of the empty jump table holds a record. -/
theorem get_empty (k : Fin 4) : JumpTable.empty.get k = none := by
  match k with
  | 0 | 1 | 2 | 3 => rfl

theorem reset_statusLegal : StatusLegal State.reset :=
  ⟨countersFit_zero, countersFit_zero, countersFit_zero, rfl, rfl, afterReset_values true⟩

theorem reset_historyFits : HistoryFits State.reset := ⟨rfl, fun _ _ _ h => nomatch h⟩

theorem reset_oneActive : OneActive State.reset.jtb := fun j _ _ _ h => by
  rw [show State.reset.jtb = .empty from rfl, get_empty j] at h
  cases h

theorem reset_recordsInRound : RecordsInRound State.reset := fun k _ h => by
  rw [show State.reset.jtb = .empty from rfl, get_empty k] at h
  cases h

/-- The settings store that was never written leaves empty tables and the HILL defaults, which are valid. -/
theorem reset_tablesFit : TablesFit State.reset :=
  ⟨by decide, schedFits_nil, schedFits_nil, by decide, by decide, by decide, trivial, trivial, trivial, trivial, trivial,
    fun _ h => nomatch h⟩

/-- Settles O60: the queues, lists, tables and contexts are empty, the counters 0, and the lamp OFF is the one derived. -/
theorem resetMeetsInvariants : Obligations.ResetMeetsInvariants :=
  ⟨by unfold QueueBounds; decide, reset_statusLegal, reset_historyFits, reset_oneActive, reset_recordsInRound,
    lampLaw_of_derived reset_oneActive reset_recordsInRound rfl rfl, ⟨.nil, .nil⟩, ⟨.nil, .nil⟩, reset_tablesFit,
    fun _ h => nomatch h⟩

end Sys2Proof.Proofs
end

section
/-! One step: what an empty queue does (log 1), and what comes before a request's own rule (R183, R188, R189, R199). -/

namespace Sys2Proof.Proofs

open Sys2Proof.Machine Sys2Proof.Claims

/-! ### Every step goes on -/

/-- Two commands change the reset pin at once; every other command is an event. -/
theorem exec_goes_on (c : Instr) (s : State) : ∃ t, exec c s = .next t := by
  cases c with
  | powerOnReset => exact ⟨_, rfl⟩
  | resetPinDrivenLow itemsWritten midItem => exact ⟨_, rfl⟩
  | loadData now seq offset data =>
    unfold exec execLoadData
    dsimp only
    split <;> exact event_goes_on ..
  | inRunExpiry now =>
    unfold exec execInRunExpiry
    exact event_goes_on ..
  | confirmExpiry now slot =>
    unfold exec execConfirmExpiry
    exact event_goes_on ..
  | marksWindowExpiry now slot =>
    unfold exec execMarksWindowExpiry
    exact event_goes_on ..
  | _ => exact event_goes_on ..

theorem step_goes_on (s : State) : ∃ t, step s = .next t := by
  unfold step
  split
  · exact ⟨_, rfl⟩
  · exact exec_goes_on _ _

/-! ### What falls due -/

theorem mem_dueAt {t : Time} {expiry : Option Time} {c d : Instr} : d ∈ dueAt t expiry c ↔ d = c ∧ expiry = some t := by
  unfold dueAt
  split <;> simp [*]

theorem cycleDue_iff (s : State) (t : Time) :
    (s.ready && decide (t.toNat % Config.cycleLength = 0 ∧ t ≠ 0)) = true ↔ CycleDue s t := by
  rw [Bool.and_eq_true, decide_eq_true_iff]
  rfl

theorem mem_dueAtCycle {s : State} {t : Time} {c : Instr} :
    c ∈ dueAtCycle s t ↔
      CycleDue s t ∧ (c = .cycleStart t ∨ c = .landingSettle t ∨ c = .flightExpiry t ∨ ∃ k, c = .windClose t k) := by
  have slots : ∀ k : Fin 4, k ∈ slotNumbers := by decide
  unfold dueAtCycle
  by_cases due : CycleDue s t
  · rw [if_pos ((cycleDue_iff s t).2 due)]
    simp [due, slots, eq_comm]
  · rw [if_neg (mt (cycleDue_iff s t).1 due)]
    simp [due]

/-- The cycle start comes first among the commands due with it. -/
theorem head_dueAtCycle {s : State} {t : Time} (due : CycleDue s t) : (dueAtCycle s t).head? = some (.cycleStart t) := by
  unfold dueAtCycle
  rw [if_pos ((cycleDue_iff s t).2 due)]
  rfl

theorem mem_dueInSlots {s : State} {t : Time} {c : Instr} :
    c ∈ slotNumbers.flatMap (dueInSlot s t) ↔
      ∃ k r, s.jtb.get k = some r ∧
        ((c = .confirmExpiry t k ∧ r.confirmExpiry = some t) ∨ (c = .marksWindowExpiry t k ∧ r.marksExpiry = some t)) := by
  have slots : ∀ k : Fin 4, k ∈ slotNumbers := by decide
  simp only [List.mem_flatMap, slots, true_and, dueInSlot, List.mem_append, mem_dueAt, Option.bind_eq_some_iff]
  constructor
  · rintro ⟨k, ⟨rfl, r, held, due⟩ | ⟨rfl, r, held, due⟩⟩
    · exact ⟨k, r, held, .inl ⟨rfl, due⟩⟩
    · exact ⟨k, r, held, .inr ⟨rfl, due⟩⟩
  · rintro ⟨k, r, held, ⟨rfl, due⟩ | ⟨rfl, due⟩⟩
    · exact ⟨k, .inl ⟨rfl, r, held, due⟩⟩
    · exact ⟨k, .inr ⟨rfl, r, held, due⟩⟩

theorem mem_dueOnSegment {s : State} {t : Time} {p : Seg} {c : Instr} :
    c ∈ dueOnSegment s t p ↔
      (c = .replyWindowClose t p ∧ ∃ slot, (s.seg p).slot = some slot ∧ slot.windowClose = some t) ∨
        (c = .slotBudgetEnd t p ∧ ∃ slot, (s.seg p).slot = some slot ∧ slot.budgetEnd = t) ∨
        (c = .restartSilenceEnd t p ∧ (s.seg p).silentUntil = some t) := by
  simp only [dueOnSegment, List.mem_append, mem_dueAt, Option.bind_eq_some_iff, Option.map_eq_some_iff, or_assoc]

/-- The commands queued are exactly those due, command by command. -/
theorem mem_dueCommands (s : State) (t : Time) (c : Instr) : c ∈ dueCommands s t ↔ Due s t c := by
  simp only [dueCommands, List.mem_append, mem_dueAtCycle, mem_dueOnSegment, mem_dueAt, mem_dueInSlots]
  cases c with
  | replyWindowClose x p => cases p <;> simp +contextual [Due, eq_comm]
  | slotBudgetEnd x p => cases p <;> simp +contextual [Due, eq_comm]
  | restartSilenceEnd x p => cases p <;> simp +contextual [Due, eq_comm]
  | confirmExpiry x k =>
    simp only [Due, Instr.confirmExpiry.injEq]
    grind
  | marksWindowExpiry x k =>
    simp only [Due, Instr.marksWindowExpiry.injEq]
    grind
  | _ => simp [Due, and_comm, eq_comm]

/-- Settles O2: each command is an event or a change of the reset pin, and an empty queue is filled with the commands due. -/
theorem everyStepGoesOn : Obligations.EveryStepGoesOn := by
  unfold Obligations.EveryStepGoesOn
  refine ⟨step_goes_on, fun s empty held => ?held, fun s empty outside => ?passes⟩
  case held =>
    simp only [step, empty, State.tick, held, if_true]
  case passes =>
    refine ⟨s.tick, by simp only [step, empty], ?_⟩
    have ticked : s.tick = { s.setNow (s.hck.time + 1) with pending := dueCommands s (s.hck.time + 1) } := by
      simp only [State.tick, outside, Bool.false_eq_true, if_false]
      rfl
    rw [ticked]
    refine ⟨rfl, fun due => ?_, fun c => mem_dueCommands s _ c⟩
    simp only [dueCommands, List.head?_append, head_dueAtCycle due, Option.some_or]

/-! ### Before a request's own rule -/

/-- A request of Table 2-17 in its form is taken with a rule of its own; only IDENTIFY is taken before READY (R189). -/
theorem exec_of_requestOf {c : Instr} {now : Time} {seq code : Byte} (asks : requestOf c = some (now, seq, code)) :
    ∃ early body, (early = true → code = 0x01) ∧ ∀ s, exec c s = event now (State.takeRequest seq code early body) s := by
  cases c with
  | identify now seq =>
    cases asks
    exact ⟨true, _, fun _ => rfl, fun s => rfl⟩
  | loadData now seq offset data =>
    simp only [requestOf] at asks
    split at asks
    · next fits =>
      cases asks
      refine ⟨false, loadData offset data, fun h => (nomatch h), fun s => ?_⟩
      unfold exec execLoadData
      exact if_pos fits
    · cases asks
  | _ =>
    cases asks
    all_goals exact ⟨false, _, fun h => (nomatch h), fun s => rfl⟩

section
variable {now : Time} {seq code : Byte} {early : Bool} {body : State → Answer} {s : State}

/-- While a RESET waits no request is taken (R199). -/
theorem takeRequest_of_reset (held : s.heldInReset = false) (waits : s.takenReset ≠ none) :
    event now (State.takeRequest seq code early body) s = .next (s.setNow now).pumpOffice := by
  rw [event_outside_reset _ _ _ held]
  simp [State.takeRequest, Option.isSome_iff_ne_none.2 waits]

/-- A request that meets a full office queue gets OFFICE_OVERRUN and no reply (R183). -/
theorem takeRequest_of_full (held : s.heldInReset = false) (free : s.takenReset = none) (full : 64 ≤ s.office.count) :
    event now (State.takeRequest seq code early body) s =
      .next ((s.setNow now).raise .officeOverrun 0x20).pumpOffice := by
  rw [event_outside_reset _ _ _ held]
  simp [State.takeRequest, free, Config.replyLimit, full, FrameKind.code]

/-- Before READY a request that waits for it is refused (R189). -/
theorem takeRequest_before_ready (takes : Takes s) (waits : s.ready = false) :
    event now (State.takeRequest seq code false body) s = refused now seq code .notReady s := by
  obtain ⟨held, free, room⟩ := takes
  have noReset : ¬(s.setNow now).takenReset.isSome = true := by simp [free]
  have below : ¬64 ≤ (s.setNow now).office.count := Nat.not_le.2 room
  have unready : ¬((s.setNow now).ready || false) = true := by simp [waits]
  rw [event_outside_reset _ _ _ held, State.takeRequest, if_neg noReset, Config.replyLimit, if_neg below]
  dsimp only
  rw [if_neg unready]
  rfl

end

/-! ### A form that is not in Table 2-17 (R188) -/

theorem length_of_noArgument {c : Instr} {args : List Byte} (h : (noArgument c args).isSome) :
    0 ≤ args.length ∧ args.length ≤ 0 := by
  unfold noArgument at h
  split at h <;> simp_all

theorem length_of_oneByte {f : Byte → Instr} {args : List Byte} (h : (oneByte f args).isSome) :
    1 ≤ args.length ∧ args.length ≤ 1 := by
  unfold oneByte at h
  split at h <;> simp_all

theorem length_of_twoBytes {f : Byte → Byte → Instr} {args : List Byte} (h : (twoBytes f args).isSome) :
    2 ≤ args.length ∧ args.length ≤ 2 := by
  unfold twoBytes at h
  split at h <;> simp_all

theorem length_of_threeBytes {f : Byte → Byte → Byte → Instr} {args : List Byte} (h : (threeBytes f args).isSome) :
    3 ≤ args.length ∧ args.length ≤ 3 := by
  unfold threeBytes at h
  split at h <;> simp_all

theorem length_of_fourBytes {f : Byte → Byte → Byte → Byte → Instr} {args : List Byte} (h : (fourBytes f args).isSome) :
    4 ≤ args.length ∧ args.length ≤ 4 := by
  unfold fourBytes at h
  split at h <;> simp_all

theorem length_of_loadBytes {f : Half → List Byte → Instr} {args : List Byte} (h : (loadBytes f args).isSome) :
    3 ≤ args.length ∧ args.length ≤ 119 := by
  unfold loadBytes at h
  split at h
  · split at h
    · simp only [List.length_cons]
      omega
    · cases h
  · cases h

/-- Bytes that make a request have a code of Table 2-17 and as many argument bytes as it gives. -/
theorem decodeRequest_fits {now : Time} {seq code : Byte} {args : List Byte} (h : (decodeRequest now seq code args).isSome) :
    ∃ least most, argumentBytes code.toNat = some (least, most) ∧ least ≤ args.length ∧ args.length ≤ most := by
  unfold decodeRequest at h
  split at h
  case h_33 => cases h
  case h_6 named =>
    rw [named]
    exact ⟨_, _, rfl, length_of_loadBytes h⟩
  case h_1 named | h_4 named | h_7 named | h_11 named | h_13 named | h_16 named | h_17 named | h_23 named | h_24 named =>
    rw [named]
    exact ⟨_, _, rfl, length_of_noArgument h⟩
  case h_2 named | h_3 named | h_9 named | h_14 named | h_15 named | h_25 named | h_26 named =>
    rw [named]
    exact ⟨_, _, rfl, length_of_oneByte h⟩
  case h_10 named | h_19 named | h_21 named | h_29 named | h_30 named | h_31 named | h_32 named =>
    rw [named]
    exact ⟨_, _, rfl, length_of_twoBytes h⟩
  case h_5 named | h_8 named | h_12 named | h_22 named =>
    rw [named]
    exact ⟨_, _, rfl, length_of_threeBytes h⟩
  case h_18 named | h_20 named | h_27 named | h_28 named =>
    rw [named]
    exact ⟨_, _, rfl, length_of_fourBytes h⟩

/-- A request whose form is not in Table 2-17 is taken, before READY too, and refused (R188, R189). -/
theorem exec_of_malformed {c : Instr} {now : Time} {seq code : Byte} (bad : Malformed c now seq code) {s : State}
    (held : s.heldInReset = false) :
    exec c s = event now (State.takeRequest seq code true (refuse .badRequest)) s := by
  obtain ⟨args, rfl, unfit⟩ | ⟨offset, data, rfl, rfl, unfit⟩ := bad
  · have undecoded : (decodeRequest (s.setNow now).now seq code args).isNone = true := by
      rw [← Option.not_isSome, Bool.not_eq_true', Bool.eq_false_iff]
      intro decodes
      obtain ⟨least, most, named, fits⟩ := decodeRequest_fits decodes
      exact unfit least most named fits
    unfold exec execUnknownRequest
    dsimp only
    rw [event_outside_reset _ _ _ held, event_outside_reset _ _ _ held, if_pos undecoded]
  · unfold exec execLoadData
    exact if_neg unfit

/-- Settles O3: the three tests come before the rule of any request, and the rule of a malformed one is to refuse. -/
theorem requestsAreGated : Obligations.RequestsAreGated := by
  unfold Obligations.RequestsAreGated
  refine ⟨fun c now seq code s asks held => ?_, fun c now seq code s bad held => ?_⟩
  · obtain ⟨early, body, earlyOnly, taken⟩ := exec_of_requestOf asks
    rw [taken s]
    refine ⟨takeRequest_of_reset held, takeRequest_of_full held, fun takes waits other => ?_⟩
    obtain rfl : early = false := Bool.eq_false_iff.2 fun h => other (earlyOnly h)
    exact takeRequest_before_ready takes waits
  · rw [exec_of_malformed bad held]
    exact ⟨takeRequest_of_reset held, takeRequest_of_full held, fun takes => early_request_replied takes rfl⟩

end Sys2Proof.Proofs
end

section
/-! The readings: parts of what is held, station fields, conditions, snapshots and the views of the lists (sections 2.11, 4.3, 5.6,
10.6, 11.5, 11.9 and 12.4). -/

namespace Sys2Proof.Proofs

open Sys2Proof.Machine Sys2Proof.Claims

/-! ### READ_JUMP (R75) -/

theorem slotOf_val (k : Fin 4) : slotOf k.val = some k := by
  fin_cases k <;> rfl

theorem slotOf_eq_none {n : Nat} (h : 3 < n) : slotOf n = none := by
  unfold slotOf
  split
  case h_5 => rfl
  all_goals omega

theorem readJump_of_slot {slot part : Byte} {k : Fin 4} (s : State) (named : slot.toNat = k.val) (first : part.toNat ≤ 1) :
    readJump slot part s =
      accept (match s.jtb.get k with
        | none => .slotFree k
        | some r => if part.toNat = 0 then .jumpPart0 k r else .jumpPart1 k r) s := by
  simp only [readJump, named, slotOf_val, first, if_true]
  cases s.jtb.get k with
  | none => rfl
  | some r =>
    dsimp only
    split <;> rfl

theorem readJump_badValue {slot part : Byte} (s : State) (bad : 3 < slot.toNat ∨ 1 < part.toNat) :
    readJump slot part s = refuse .badValue s := by
  unfold readJump
  split
  · rfl
  · next k named =>
    have noPart : ¬part.toNat ≤ 1 := by
      rintro fits
      rw [slotOf_eq_none (by omega)] at named
      cases named
    rw [if_neg noPart]

/-! ### SNAPSHOT_PART (R187) and READ_TABLE (R196) -/

theorem snapshotPart_of_copy {part : Byte} {s : State} {c : Snapshot} (fits : part.toNat ≤ 3) (copied : s.snapshot = some c) :
    snapshotPart part s =
      accept (if part.toNat = 0 then .snapshotHead c.time c.head
        else if part.toNat = 1 then .snapshotJump c.time c.jump
        else if part.toNat = 2 then .snapshotMeans c.time c.means
        else .snapshotPresences c.time c.presences) s := by
  simp only [snapshotPart, Nat.not_lt.2 fits, if_false, copied]
  split
  · next h => simp only [h, if_true]
  · next h => simp only [h, if_true, Nat.one_ne_zero, if_false]
  · next h => simp [h]
  · next h0 h1 h2 => rw [if_neg h0, if_neg h1, if_neg h2]

theorem snapshotPart_of_none {part : Byte} {s : State} (fits : part.toNat ≤ 3) (none : s.snapshot = none) :
    snapshotPart part s = refuse .wrongState s := by
  simp only [snapshotPart, Nat.not_lt.2 fits, if_false, none]

theorem ofCode_code (code : TableCode) : TableCode.ofCode code.code = some code := by
  cases code <;> rfl

theorem ofCode_eq_none {n : Nat} (h : ¬(1 ≤ n ∧ n ≤ 6)) : TableCode.ofCode n = none := by
  unfold TableCode.ofCode
  split
  case h_7 => rfl
  all_goals omega

theorem readTable_eq_judged {table : Byte} {offset : Half} {code : TableCode} {s : State} {o : Option Status}
    (named : table.toNat = code.code) (first : FirstOf [((s.tables.image code).length < offset.toNat, .badValue)] o) :
    readTable table offset s =
      judged o (.tablePiece table.toNat (s.tables.image code).length offset.toNat
        (((s.tables.image code).drop offset.toNat).take 112)) s s := by
  simp only [readTable, named, ofCode_code]
  exact ite_refuse_judged first Iff.rfl fun _ first => accept_eq_judged first

/-- Settles O5: each of the three rules looks up its part and leaves the state as it is. -/
theorem partReadsChangeNothing : Obligations.PartReadsChangeNothing := by
  unfold Obligations.PartReadsChangeNothing
  intro now seq s listens
  refine ⟨fun slot part bad => ?_, fun slot part k named fits => ?_, fun part big => ?_, fun part fits none => ?_,
    fun part c fits copied => ?_, fun table offset bad => ?_, fun table offset code o named first => ?_⟩
  · exact request_refused listens (readJump_badValue _ bad)
  · exact request_replied listens (readJump_of_slot (s.asked now) named fits)
  · exact request_refused listens (if_pos big)
  · exact request_refused listens (snapshotPart_of_none (s := s.asked now) fits none)
  · exact request_replied listens (snapshotPart_of_copy (s := s.asked now) fits copied)
  · refine request_refused listens ?_
    simp only [readTable, ofCode_eq_none bad]
  · exact request_answered listens (readTable_eq_judged (s := s.asked now) named first)

/-! ### READ_STATION (R27) -/

/-- The two refusals of R27, in its order. -/
def stationRefusals (address clear : Byte) (s : State) : List (Prop × Status) :=
  [(¬(0x10 ≤ address.toNat ∧ address.toNat ≤ 0xEF) ∨ ¬(clear.toNat = 0 ∨ clear.toNat = 1), .badValue),
    (stationAt s.tables.stations address.toNat = none, .notFound)]

theorem stationValue_iff (address clear : Byte) :
    address.toNat < 0x10 ∨ 0xEF < address.toNat ∨ 1 < clear.toNat ↔
      ¬(0x10 ≤ address.toNat ∧ address.toNat ≤ 0xEF) ∨ ¬(clear.toNat = 0 ∨ clear.toNat = 1) := by
  omega

theorem readStation_of_unknown {address clear : Byte} {s : State} {o : Option Status}
    (unknown : stationAt s.tables.stations address.toNat = none) (first : FirstOf (stationRefusals address clear s) o)
    (results : Results) (t : State) : readStation address clear s = judged o results s t := by
  unfold readStation
  refine ite_refuse_judged first (stationValue_iff _ _) fun _ first => ?_
  simp only [unknown]
  exact refuse_eq_judged first unknown

theorem readStation_of_known {address clear : Byte} {s : State} {o : Option Status} {e : StationEntry} {l : Link}
    (known : stationAt s.tables.stations address.toNat = some e) (linked : linkAt s.lsc.links e.addr = some l)
    (first : FirstOf (stationRefusals address clear s) o) :
    readStation address clear s =
      judged o (.station e.role.kind e.port l.presence l.missRun l.goodRun (s.windReading e)) s
        (if clear.toNat = 1 then s.clearSlipsOf e else s) := by
  have found : ¬stationAt s.tables.stations address.toNat = none := by simp [known]
  unfold readStation
  refine ite_refuse_judged first (stationValue_iff _ _) fun _ first => ?_
  simp only [known, linked, Option.getD_some]
  exact accept_eq_judged (firstOf_of_passes first found)

/-- The slip counters of a WIND station cleared, through the frame of a request. -/
theorem clearSlipsOf_asked (now : Time) (s : State) (e : StationEntry) :
    (s.asked now).clearSlipsOf e = (s.clearSlipsOf e).asked now := by
  unfold State.clearSlipsOf
  split <;> rfl

theorem clearSlipsOf_wind {e : StationEntry} {w : WindPlace} (s : State) (wind : e.role = .wind w) :
    s.clearSlipsOf e = { s with wnd := { s.wnd with
      contexts := s.wnd.contexts.map fun x => if x.index = w.index then { x with drops := 0, repeats := 0 } else x } } := by
  unfold State.clearSlipsOf
  rw [wind]
  rfl

theorem clearSlipsOf_other {e : StationEntry} (s : State) (other : ∀ w, e.role ≠ .wind w) : s.clearSlipsOf e = s := by
  unfold State.clearSlipsOf
  split
  · next w wind => exact absurd wind (other w)
  · rfl

theorem windReading_other {e : StationEntry} (s : State) (other : ∀ w, e.role ≠ .wind w) : s.windReading e = none := by
  unfold State.windReading
  split
  · next w wind => exact absurd wind (other w)
  · rfl

/-- READ_STATION of a station that stands in the table: its link, and what `clear` does to its slip counters. -/
theorem exec_readStation {now : Time} {seq address clear : Byte} {s : State} {e : StationEntry} {l : Link}
    (listens : Listens s) (known : stationAt s.tables.stations address.toNat = some e)
    (linked : linkAt s.lsc.links e.addr = some l) (first : FirstOf (stationRefusals address clear s) none) :
    exec (.readStation now seq address clear) s =
      .next (replied now seq 0x11 .ok
        (.station e.role.kind e.port l.presence l.missRun l.goodRun (s.windReading e))
        (if clear.toNat = 1 then s.clearSlipsOf e else s)) := by
  refine request_replied listens ?_
  rw [readStation_of_known (s := s.asked now) known linked first, clearSlipsOf_asked]
  dsimp only [judged]
  split <;> rfl

/-- Settles O7: by whether the station stands in the table, and whether it is a WIND station. -/
theorem readStationAnswers : Obligations.ReadStationAnswers := by
  unfold Obligations.ReadStationAnswers
  intro now seq address clear s o listens first
  refine ⟨?refuses, ?answers⟩
  case refuses =>
    rintro status rfl
    cases known : stationAt s.tables.stations address.toNat with
    | none =>
      exact request_refused listens (readStation_of_unknown (s := s.asked now) known first .nothing s)
    | some e =>
      obtain ⟨bad, same⟩ | ⟨-, ⟨unknown, -⟩ | ⟨-, same⟩⟩ := first
      · cases same
        exact request_refused listens (if_pos ((stationValue_iff _ _).2 bad))
      · exact nomatch known.symm.trans unknown
      · cases same
  case answers =>
    rintro e l rfl known linked
    have answered := exec_readStation (now := now) (seq := seq) listens known linked first
    refine ⟨fun w c wind context => ?_, fun other => ?_⟩
    · rw [answered, clearSlipsOf_wind s wind]
      unfold State.windReading WindUnit.context
      rw [wind]
      simp only [context, Option.map_some]
      rfl
    · rw [answered, clearSlipsOf_other s other, windReading_other s other, ite_self]

/-! ### READ_CONDITIONS (R179) and SET_REPORT_ENABLES (R180) -/

theorem afterRead_of_clear {c : Condition} (clear : c.v = false) : c.afterRead = { c with i := false, argument := 0 } := by
  unfold Condition.afterRead
  simp [clear]

theorem afterRead_of_set {c : Condition} (set : c.v = true) : c.afterRead = c := if_pos set

/-- An E reads the bit of its condition (R180). -/
theorem enables_of (e : Enables) (c : CondName) : e.of c = e.conditions.getLsbD (c.number - 1) := BitVec.testBit_toNat _

/-- Settles O8: each condition is kept or cleared by its V, which an event condition never has. -/
theorem conditionsReadAndEnabled : Obligations.ConditionsReadAndEnabled := by
  unfold Obligations.ConditionsReadAndEnabled
  refine ⟨fun now seq s listens legal => ?reads, fun now seq conditions kinds s listens => ⟨?sets, fun c => enables_of _ c⟩⟩
  case reads =>
    obtain ⟨-, -, -, -, -, noValue⟩ := legal
    refine ⟨s.conditions.afterRead, request_replied listens rfl, fun c => ⟨fun clear => ?_, fun _ set => ?_⟩⟩
    · rw [conditions_get_afterRead, afterRead_of_clear (clear.elim (noValue c) id)]
    · rw [conditions_get_afterRead, afterRead_of_set set]
  case sets =>
    have bits : ∀ k, bitOf kinds k = kinds.getLsbD k := fun k => BitVec.testBit_toNat _
    refine request_replied listens ?_
    simp only [setReportEnables, enablesOf, bits]
    rfl

/-! ### SNAPSHOT (R186) -/

theorem remaining_of_none {s : State} (h : ∀ k r, s.jtb.get k = some r → r.state ≠ .green) : s.remaining = 0 := by
  have none : (s.jtb.inState fun x => decide (x = .green)) = none :=
    JumpTable.inState_none_iff.2 fun k r held => decide_eq_false (h k r held)
  simp only [State.remaining, none]

/-- The record in one of the six states of R64 is the only one. -/
theorem inState_of_active {t : JumpTable} {p : RecState → Bool} {k : Fin 4} {r : JumpRecord} (one : OneActive t)
    (active : ∀ x, p x = true → x.active = true) (held : t.get k = some r) (meets : p r.state = true) :
    t.inState p = some (k, r) :=
  JumpTable.inState_unique (fun j a ha pa => one j k a r ha held (active _ pa) (active _ meets)) held meets

/-- A record in one state of R64 is found by that state. -/
theorem inState_of_state {t : JumpTable} {k : Fin 4} {r : JumpRecord} {x : RecState} (one : OneActive t)
    (active : x.active = true) (held : t.get k = some r) (state : r.state = x) :
    t.inState (fun y => decide (y = x)) = some (k, r) :=
  inState_of_active one (fun y h => by rw [of_decide_eq_true h]; exact active) held (decide_eq_true state)

theorem remaining_of_green {s : State} {k : Fin 4} {r : JumpRecord} {x : Time} (one : OneActive s.jtb)
    (held : s.jtb.get k = some r) (green : r.state = .green) (expiry : r.greenExpiryTime = some x) :
    s.remaining = ((x - s.now).toNat + 999) / 1000 := by
  simp only [State.remaining, inState_of_state one rfl held green, expiry, Option.getD_some]

/-- Settles O9: the copy's fields one by one, the GREEN record and the one on the bar or the course being unique. -/
theorem snapshotCopies : Obligations.SnapshotCopies := by
  unfold Obligations.SnapshotCopies
  intro now seq s listens one
  refine ⟨(s.asked now).takeSnapshot, request_replied listens rfl, rfl, rfl, rfl, rfl, rfl, rfl, ?noGreen, ?green, ?fixed,
    ?pending, ?unset, ?active, ?noActive, ?length, ?presence⟩
  case noGreen => exact fun h => remaining_of_none (s := s.asked now) h
  case green => exact fun k r x held green expiry => remaining_of_green (s := s.asked now) one held green expiry
  case fixed =>
    intro g fixed reference
    change s.stu.reference = _
    simp only [StartUnit.reference, fixed, reference]
  case pending =>
    intro g free reference
    change s.stu.reference = _
    simp only [StartUnit.reference, free, reference]
  case unset =>
    intro free reference
    change s.stu.reference = _
    simp only [StartUnit.reference, free, reference]
  case active => exact fun k r held active => inState_of_active one (fun _ => id) held active
  case noActive => exact fun h => JumpTable.inState_none_iff.2 h
  case length => exact List.length_map ..
  case presence =>
    intro i e l entry linked
    change (s.tables.stations.map _)[i]? = _
    rw [List.getElem?_map, entry]
    have presence : ((linkAt s.lsc.links e.addr).map (·.presence)).getD .absent = l.presence := by rw [linked]; rfl
    exact congrArg some presence

/-! ### LIST_READ (R48) and RESULTS_READ (R168, R170) -/

theorem outranks_iff (x e : ResultEntry) :
    outranks x e = decide (x.status = .ok ∧ (e.rounds < x.rounds ∨ (x.rounds = e.rounds ∧ e.total < x.total))) := by
  simp only [outranks, Bool.decide_and, Bool.decide_or]

/-- The rank a view gives is the rank R168 words. -/
theorem rankIn_eq_rankAmong (l : List ResultEntry) (e : ResultEntry) : rankIn l e = rankAmong l e := by
  simp only [rankIn, rankAmong, outranks_iff]
  cases e.status <;> rfl

theorem listRead_eq_judged {index : Half} {s : State} {o : Option Status}
    (first : FirstOf [(s.startList.length < index.toNat, .badValue)] o) :
    listRead index s =
      judged o (.listView s.startList.length s.competition ((s.startList.drop index.toNat).take 40)) s s :=
  ite_refuse_judged first Iff.rfl fun _ first => accept_eq_judged first

/-- The entries RESULTS_READ may give, and those of them that fit into a reply. -/
def rankedFrom (index : Nat) (most : Nat) (l : List ResultEntry) : List RankedEntry :=
  ((l.drop index).take most).map fun e => ⟨e, rankAmong l e⟩

def shownOf (withDetail : Bool) (entries : List RankedEntry) : List RankedEntry :=
  takeFitting (fun e => (RankedEntry.bytes withDetail e).length) 115 entries

theorem resultsRead_eq_judged {index : Half} {detail : Byte} {s : State} {o : Option Status}
    (first : FirstOf
      [(¬(detail.toNat = 0 ∨ detail.toNat = 1) ∨ s.results.length < index.toNat, .badValue)] o) :
    resultsRead index detail s =
      judged o (.resultsView s.results.length s.competition
        (shownOf (decide (detail.toNat = 1)) (rankedFrom index.toNat (if detail.toNat = 0 then 8 else 4) s.results))
        (decide (detail.toNat = 1))) s s := by
  refine ite_refuse_judged first (by omega) fun _ first => ?_
  simp only [rankIn_eq_rankAmong]
  exact accept_eq_judged first

theorem length_optional_le {α : Type} {f : α → List Byte} {n : Nat} (fits : ∀ a, (f a).length ≤ n) (o : Option α) :
    (Machine.optional f o).length ≤ n + 1 := by
  cases o with
  | none => simp [Machine.optional]
  | some a => simpa [Machine.optional] using fits a

theorem length_u16 (n : Nat) : (u16 n).length = 2 := rfl
theorem length_i16 (z : Int) : (i16 z).length = 2 := rfl
theorem length_u8 (n : Nat) : (u8 n).length = 1 := rfl

theorem length_detail_le (d : JumpDetail) : d.bytes.length ≤ 22 := by
  have h16 : ∀ o, (Machine.optional u16 o).length ≤ 3 := length_optional_le fun n => (length_u16 n).le
  have hi16 : ∀ o, (Machine.optional i16 o).length ≤ 3 := length_optional_le fun n => (length_i16 n).le
  simp only [JumpDetail.bytes, List.length_append, length_u16, length_u8]
  have := h16 d.speed
  have := h16 (d.points.map (·.distancePoints))
  have := h16 (d.points.map (·.style))
  have := hi16 (d.points.map (·.gateComp))
  have := hi16 (d.points.map (·.windComp))
  have := h16 (d.points.map (·.roundTotal))
  omega

/-- One entry always fits into a reply. -/
theorem length_ranked_le (withDetail : Bool) (e : RankedEntry) : (e.bytes withDetail).length ≤ 115 := by
  have h16 : ∀ o, (Machine.optional u16 o).length ≤ 3 := length_optional_le fun n => (length_u16 n).le
  have detail : (if withDetail = true then Machine.optional JumpDetail.bytes e.entry.detail else []).length ≤ 23 := by
    split
    · exact length_optional_le length_detail_le _
    · simp
  simp only [RankedEntry.bytes, ResultEntry.bytes, List.length_append, length_u16, length_u8]
  have := h16 e.entry.round1
  have := h16 e.entry.round2
  have := h16 e.rank
  omega

theorem length_resultsView (n : Nat) (x : CompState) (entries : List RankedEntry) (withDetail : Bool) :
    (Results.resultsView n x entries withDetail).bytes.length =
      3 + (entries.map fun e => (RankedEntry.bytes withDetail e).length).sum := by
  simp only [Results.bytes, List.length_append, List.length_flatMap, length_u16, length_u8]

theorem shownOf_ne_nil {withDetail : Bool} {entries : List RankedEntry} (some : entries ≠ []) :
    shownOf withDetail entries ≠ [] := by
  obtain ⟨e, rest, rfl⟩ := List.exists_cons_of_ne_nil some
  unfold shownOf takeFitting
  rw [if_pos (length_ranked_le withDetail e)]
  exact List.cons_ne_nil _ _

/-- Settles O12: the views are read off the lists, and the entries given are the longest start that fits, never empty. -/
theorem listsAreRead : Obligations.ListsAreRead := by
  unfold Obligations.ListsAreRead
  refine ⟨fun now seq index s o listens first => ?_, ?_⟩
  · exact request_answered listens (listRead_eq_judged (s := s.asked now) first)
  · rintro now seq index detail s o most listens first rfl
    obtain ⟨isPrefix, fits, longest⟩ := takeFitting_spec
      (fun e => (RankedEntry.bytes (decide (detail.toNat = 1)) e).length) 115
      (rankedFrom index.toNat (if detail.toNat = 0 then 8 else 4) s.results)
    refine ⟨_, request_answered listens (resultsRead_eq_judged (s := s.asked now) first), isPrefix, shownOf_ne_nil, ?_,
      fun longer hp more => ?_⟩
    · rw [length_resultsView]
      exact Nat.add_le_add_left fits 3
    · rw [length_resultsView]
      have := longest longer hp more
      omega

end Sys2Proof.Proofs
end

section
/-! The arithmetic of the scoring path and of the wind unit: rounding, points, the wind value, components and grid entries (sections
6.2 to 6.8, 9.2, 9.5, 9.7 and 10.4). -/

namespace Sys2Proof.Proofs

open Sys2Proof.Machine Sys2Proof.Claims

/-! ### Rounding (R142) -/

/-- A number that is not negative rounds to a quotient that is at most half a divisor too large, and less than half one too small. -/
theorem roundDiv_of_nonneg {n : Int} {d : Nat} (pos : 0 < d) (nonneg : 0 ≤ n) :
    0 ≤ roundDiv n d ∧ -(d : Int) ≤ 2 * (n - roundDiv n d * d) ∧ 2 * (n - roundDiv n d * d) < d := by
  rw [roundDiv, if_pos nonneg]
  have division := Int.mul_ediv_add_emod (2 * n + d) (2 * d)
  have low := Int.emod_nonneg (2 * n + d) (b := 2 * (d : Int)) (by omega)
  have high := Int.emod_lt_of_pos (2 * n + d) (b := 2 * (d : Int)) (by omega)
  have quotient : 0 ≤ (2 * n + d) / (2 * (d : Int)) := Int.ediv_nonneg (by omega) (by omega)
  rw [Int.mul_assoc, Int.mul_comm (d : Int)] at division
  generalize (2 * n + d) / (2 * (d : Int)) * d = product at *
  omega

/-- Rounding away from zero is odd. -/
theorem roundDiv_neg {n : Int} (d : Nat) (negative : n < 0) : roundDiv n d = -roundDiv (-n) d := by
  rw [roundDiv, roundDiv, if_neg (by omega), if_pos (by omega)]

/-- A quotient within half a divisor is a nearest integer. -/
theorem nearest_of_half {n q : Int} {d : Nat} (low : -(d : Int) ≤ 2 * (n - q * d)) (high : 2 * (n - q * d) ≤ d) (z : Int) :
    (n - q * d).natAbs ≤ (n - z * d).natAbs := by
  have split : n - z * d = n - q * d - (z - q) * d := by ring
  rw [split]
  rcases lt_trichotomy z q with less | rfl | more
  · have step : (z - q) * d ≤ -1 * (d : Int) := Int.mul_le_mul_of_nonneg_right (by omega) (by omega)
    omega
  · omega
  · have step : 1 * (d : Int) ≤ (z - q) * d := Int.mul_le_mul_of_nonneg_right (by omega) (by omega)
    omega

/-- The same where the quotient is at least as near on one side only: of two as near, it is the greater. -/
theorem greatest_of_half {n q z : Int} {d : Nat} (high : 2 * (n - q * d) < d) (near : (n - q * d).natAbs = (n - z * d).natAbs)
    (pos : 0 < d) : z ≤ q := by
  by_contra more
  have step : 1 * (d : Int) ≤ (z - q) * d := Int.mul_le_mul_of_nonneg_right (by omega) (by omega)
  have split : n - z * d = n - q * d - (z - q) * d := by ring
  rw [split] at near
  omega

/-- A number as near as the quotient of a number that is not negative is not farther from zero. -/
theorem tie_away_of_nonneg {n z : Int} {d : Nat} (pos : 0 < d) (nonneg : 0 ≤ n)
    (near : (n - roundDiv n d * d).natAbs = (n - z * d).natAbs) : z.natAbs ≤ (roundDiv n d).natAbs := by
  obtain ⟨quotient, low, high⟩ := roundDiv_of_nonneg pos nonneg
  have below := greatest_of_half high near pos
  rcases Int.le_total 0 z with up | down
  · omega
  · by_cases far : (roundDiv n d).natAbs < z.natAbs
    · have apart : z * d ≤ (-roundDiv n d - 1) * (d : Int) := Int.mul_le_mul_of_nonneg_right (by omega) (by omega)
      rw [Int.sub_mul, Int.neg_mul] at apart
      have product : 0 ≤ roundDiv n d * (d : Int) := Int.mul_nonneg quotient (by omega)
      omega
    · omega

/-- Settles O35: the quotient lies within half a divisor, on the side away from zero at a tie; a negative number by symmetry. -/
theorem divisionRounds : Obligations.DivisionRounds := by
  unfold Obligations.DivisionRounds
  rintro n d q pos rfl
  rcases Int.le_total 0 n with nonneg | nonpos
  · obtain ⟨-, low, high⟩ := roundDiv_of_nonneg pos nonneg
    exact ⟨nearest_of_half low high.le, fun z near => tie_away_of_nonneg pos nonneg near⟩
  · rcases nonpos.lt_or_eq with negative | rfl
    · obtain ⟨-, low, high⟩ := roundDiv_of_nonneg (n := -n) pos (by omega)
      have mirrored : ∀ z : Int, (n - z * d).natAbs = (-n - -z * d).natAbs := by
        intro z
        rw [← Int.natAbs_neg, Int.neg_mul]
        congr 1
        ring
      rw [roundDiv_neg d negative]
      refine ⟨fun z => ?_, fun z near => ?_⟩
      · rw [mirrored z, mirrored, Int.neg_neg]
        exact nearest_of_half low high.le (-z)
      · rw [mirrored z, mirrored, Int.neg_neg] at near
        rw [Int.natAbs_neg, ← Int.natAbs_neg z]
        exact tie_away_of_nonneg pos (by omega) near
    · obtain ⟨-, low, high⟩ := roundDiv_of_nonneg (n := 0) pos (by omega)
      exact ⟨nearest_of_half low high.le, fun z near => tie_away_of_nonneg pos le_rfl near⟩

/-! ### Points (R150, R151, R161 to R164) -/

theorem clampTo_eq (bound z : Int) (h : 0 ≤ bound) : clampTo bound z = max (-bound) (min bound z) := by
  unfold clampTo
  split
  · omega
  · split <;> omega

theorem distancePoints_of_even {h : HillTable} {d : Nat} (even : h.m % 2 = 0) :
    (distancePoints h d : Int) = max 0 ((h.b : Int) + ((d : Int) - h.k) * (h.m / 2 : Nat)) := by
  have half : ((d : Int) - h.k) * h.m / 2 = ((d : Int) - h.k) * (h.m / 2 : Nat) := by
    have double : (h.m : Int) = (h.m / 2 : Nat) * 2 := by omega
    conv_lhs => rw [double]
    rw [← Int.mul_assoc, Int.mul_ediv_cancel _ (by decide)]
  rw [distancePoints, half]
  omega

section
variable {m1 m2 m3 m4 m5 : Nat}

theorem style_eq (h1 : m1 ≤ 40) (h2 : m2 ≤ 40) (h3 : m3 ≤ 40) (h4 : m4 ≤ 40) (h5 : m5 ≤ 40) :
    style ⟨some m1, some m2, some m3, some m4, some m5⟩ =
      (m1 + m2 + m3 + m4 + m5 - max m1 (max m2 (max m3 (max m4 m5))) - min m1 (min m2 (min m3 (min m4 m5)))) * 5 := by
  have sum : [m1, m2, m3, m4, m5].sum = m1 + m2 + m3 + m4 + m5 := by simp only [List.sum_cons, List.sum_nil]; omega
  have most : [m1, m2, m3, m4, m5].foldl max 0 = max m1 (max m2 (max m3 (max m4 m5))) := by
    simp only [List.foldl_cons, List.foldl_nil]; omega
  have least : [m1, m2, m3, m4, m5].foldl min 40 = min m1 (min m2 (min m3 (min m4 m5))) := by
    simp only [List.foldl_cons, List.foldl_nil]; omega
  rw [← sum, ← most, ← least]
  rfl

/-- Five numbers less the greatest and the least are three numbers of at most 40. -/
theorem sum_less_ends_le (h1 : m1 ≤ 40) (h2 : m2 ≤ 40) (h3 : m3 ≤ 40) (h4 : m4 ≤ 40) (h5 : m5 ≤ 40) :
    m1 + m2 + m3 + m4 + m5 - max m1 (max m2 (max m3 (max m4 m5))) - min m1 (min m2 (min m3 (min m4 m5))) ≤ 120 := by
  omega

end

theorem roundTotal_eq (dp st : Nat) (gc wc : Int) :
    (roundTotal dp st gc wc : Int) = max 0 (min 30000 ((dp : Int) + st + gc + wc)) := by
  unfold roundTotal
  omega

theorem gateUsed_of_some {h : HillTable} {r : JumpRecord} {d gate used : Nat} (latched : r.gate = some gate)
    (from_ : (if r.coachRequest = true ∧ d < h.coachThreshold then r.juryGate else some gate) = some used) :
    gateUsed h r d = used := by
  unfold gateUsed
  split
  · next coach =>
    rw [if_pos coach] at from_
    rw [from_]
    rfl
  · next coach =>
    rw [if_neg coach] at from_
    rw [latched, from_]
    rfl

/-! ### The included stations and the wind value (R146, R147) -/

theorem mem_placedMeans {stations : List StationEntry} {items : List WindMean} {m : WindMean} {w : WindPlace} :
    (m, w) ∈ placedMeans stations items ↔ m ∈ items ∧ windPlaceOf stations m.index = some w := by
  simp only [placedMeans, List.mem_filterMap, Option.map_eq_some_iff, Prod.mk.injEq]
  constructor
  · rintro ⟨x, listed, y, placed, rfl, rfl⟩
    exact ⟨listed, placed⟩
  · rintro ⟨listed, placed⟩
    exact ⟨m, listed, w, placed, rfl, rfl⟩

/-- A slope position above the distance is the nearest above it when no placed item has one between. -/
theorem nearestAbove_eq_some_iff {d p : Nat} {placed : List (WindMean × WindPlace)} (above : d < p)
    (stands : ∃ x ∈ placed, x.2.slope = p) :
    some p = nearestAbove d placed ↔ ∀ x ∈ placed, d < x.2.slope → p ≤ x.2.slope := by
  rw [eq_comm, nearestAbove, List.min?_eq_some_iff]
  constructor
  · rintro ⟨-, least⟩ x hx higher
    exact least _ (List.mem_filter.2 ⟨List.mem_map_of_mem hx, decide_eq_true higher⟩)
  · rintro least
    obtain ⟨x, hx, rfl⟩ := stands
    refine ⟨List.mem_filter.2 ⟨List.mem_map_of_mem hx, decide_eq_true above⟩, fun b hb => ?_⟩
    obtain ⟨listed, higher⟩ := List.mem_filter.1 hb
    obtain ⟨y, hy, rfl⟩ := List.mem_map.1 listed
    exact least y hy (of_decide_eq_true higher)

theorem mem_included {stations : List StationEntry} {items : List WindMean} {d : Nat} {m : WindMean} {w : WindPlace} :
    (m, w) ∈ included stations items d ↔
      m ∈ items ∧ windPlaceOf stations m.index = some w ∧
        (w.slope ≤ d ∨
          ∀ x y, x ∈ items → windPlaceOf stations x.index = some y → d < y.slope → w.slope ≤ y.slope) := by
  simp only [included, List.mem_filter, mem_placedMeans, decide_eq_true_eq, and_assoc]
  refine and_congr_right fun listed => and_congr_right fun placed => ?_
  by_cases below : w.slope ≤ d
  · simp [below]
  · have stands : ∃ x ∈ placedMeans stations items, x.2.slope = w.slope := ⟨(m, w), mem_placedMeans.2 ⟨listed, placed⟩, rfl⟩
    rw [nearestAbove_eq_some_iff (Nat.not_le.1 below) stands]
    refine or_congr_right ⟨fun least x y hx hy => least (x, y) (mem_placedMeans.2 ⟨hx, hy⟩), fun least x hx => ?_⟩
    obtain ⟨hm, hp⟩ := mem_placedMeans.1 hx
    exact least x.1 x.2 hm hp

/-- Some placed item has the least slope position. -/
theorem exists_included {stations : List StationEntry} {items : List WindMean} {m : WindMean} {w : WindPlace} (d : Nat)
    (listed : m ∈ items) (placed : windPlaceOf stations m.index = some w) : included stations items d ≠ [] := by
  have stands : (m, w) ∈ placedMeans stations items := mem_placedMeans.2 ⟨listed, placed⟩
  obtain ⟨x, hx⟩ := Option.ne_none_iff_exists'.1 (mt List.argmin_eq_none.1 (List.ne_nil_of_mem stands) :
    List.argmin (fun y : WindMean × WindPlace => y.2.slope) (placedMeans stations items) ≠ none)
  obtain ⟨hm, hp⟩ := mem_placedMeans.1 (List.argmin_mem hx)
  refine List.ne_nil_of_mem (mem_included (m := x.1) (w := x.2) |>.2 ⟨hm, hp, .inr fun y z hy hz _ => ?_⟩)
  exact List.le_of_mem_argmin (f := fun y : WindMean × WindPlace => y.2.slope) (mem_placedMeans.2 ⟨hy, hz⟩) hx

theorem included_eq_nil_iff {stations : List StationEntry} {items : List WindMean} {d : Nat} :
    included stations items d = [] ↔ ∀ m ∈ items, windPlaceOf stations m.index = none := by
  constructor
  · intro empty m listed
    by_contra placed
    obtain ⟨w, placed⟩ := Option.ne_none_iff_exists'.1 placed
    exact exists_included d listed placed empty
  · intro unplaced
    refine List.eq_nil_iff_forall_not_mem.2 fun x hx => ?_
    obtain ⟨listed, placed, -⟩ := mem_included (m := x.1) (w := x.2) |>.1 hx
    exact nomatch (unplaced _ listed).symm.trans placed

/-- Settles O34: each part of the score by its own function, and the included stations by the nearest slope position above. -/
theorem scorePartsAndWind : Obligations.ScorePartsAndWind := by
  unfold Obligations.ScorePartsAndWind
  refine ⟨?points, fun stations items d => ⟨fun m w => mem_included, included_eq_nil_iff, fun empty => ?_, fun some => ?_⟩⟩
  case points =>
    rintro h reference r d gate m1 m2 m3 m4 m5 p even latched marks h1 h2 h3 h4 h5 rfl
    have style : (pointsOf h reference r d).style = _ := (congrArg style marks).trans (style_eq h1 h2 h3 h4 h5)
    refine ⟨distancePoints_of_even even, style, ?_, fun used source => ?_, fun none => ?_, fun w value up => ?_,
      fun w value down => ?_, roundTotal_eq _ _ _ _⟩
    · rw [style]
      have := sum_less_ends_le h1 h2 h3 h4 h5
      omega
    · change gateCompensation h reference (gateUsed h r d) = _
      rw [gateUsed_of_some latched source, gateCompensation, clampTo_eq _ _ (by decide)]
    · change windCompensation h r.windValue = _
      rw [none, windCompensation]
    · change windCompensation h r.windValue = _
      rw [value, windCompensation, if_pos up, clampTo_eq _ _ (by decide)]
    · change windCompensation h r.windValue = _
      rw [value, windCompensation, if_neg (by omega), clampTo_eq _ _ (by decide)]
  · rw [windValueOf, empty]
    rfl
  · rw [windValueOf, if_neg (by simpa using some)]

/-! ### The along-axis component (R81 to R83) -/

theorem headValid_iff (speed direction : Nat) (fault : Bool) :
    headValid speed direction fault = true ↔ fault = false ∧ speed ≤ 4000 ∧ direction ≤ 359 := by
  simp [headValid]

theorem cosine_le (angle : Nat) : cosine angle ≤ 10000 := by
  have table : ∀ x ∈ cosineTable, x ≤ 10000 := by decide
  unfold cosine
  rw [List.getD_eq_getElem?_getD]
  cases entry : cosineTable[angle]? with
  | none => simp
  | some x => exact table x (List.mem_of_getElem? entry)

theorem cosine_succ_lt : ∀ a < 90, cosine (a + 1) < cosine a := by decide

theorem cosine_lt {a b : Nat} (less : a < b) (bound : b ≤ 90) : cosine b < cosine a := by
  induction b with
  | zero => omega
  | succ b ih =>
    have step := cosine_succ_lt b (by omega)
    rcases Nat.lt_succ_iff_lt_or_eq.1 less with before | rfl
    · exact step.trans (ih before (by omega))
    · exact step

theorem abs_signedFactor_le (delta : Nat) : -10000 ≤ signedFactor delta ∧ signedFactor delta ≤ 10000 := by
  unfold signedFactor
  have h1 := cosine_le delta
  have h2 := cosine_le (180 - delta)
  have h3 := cosine_le (delta - 180)
  have h4 := cosine_le (360 - delta)
  repeat' split
  all_goals omega

/-- Ten thousandths of a number below 40 000 000 in size are at most 4000 in size. -/
theorem roundDiv_bounds {n : Int} (low : -40000000 ≤ n) (high : n ≤ 40000000) :
    -4000 ≤ roundDiv n 10000 ∧ roundDiv n 10000 ≤ 4000 := by
  unfold roundDiv
  split <;> omega

theorem component_bounds {bearing speed direction : Nat} (slow : speed ≤ 4000) :
    -4000 ≤ component bearing speed direction ∧ component bearing speed direction ≤ 4000 := by
  obtain ⟨low, high⟩ := abs_signedFactor_le ((direction + 360 - bearing) % 360)
  unfold component
  generalize signedFactor ((direction + 360 - bearing) % 360) = factor at *
  have bound : (speed : Int) * 10000 ≤ 4000 * 10000 := by omega
  have up : (speed : Int) * factor ≤ speed * 10000 := Int.mul_le_mul_of_nonneg_left high (by omega)
  have down : (speed : Int) * (-10000) ≤ speed * factor := Int.mul_le_mul_of_nonneg_left low (by omega)
  exact roundDiv_bounds (by omega) (by omega)

/-! ### Grid entries (R84 to R90) -/

theorem countTo255_eq {n : Nat} (h : n ≤ 255) : countTo255 n = min 255 (n + 1) := by
  unfold countTo255
  split <;> omega

theorem countUp_eq {n : Nat} (h : n ≤ 65535) : countUp n = min 65535 (n + 1) := by
  unfold countUp Config.counterTop
  split <;> omega

theorem not_sampled_iff (q : Quality) : q.sampled = false ↔ q = .repeated ∨ q = .missing := by
  cases q <;> simp [Quality.sampled]

/-- What a sample with two valid heads gives (R84, R85). -/
theorem take_of_two_heads {h : HillTable} {now : Time} {c : WindContext} {y : Sample} {rest : List Sample} {cp cs : Int}
    (buffered : c.buffer = y :: rest) (primary : y.primary c.bearing = some cp) (secondary : y.secondary c.bearing = some cs)
    (fits : c.mismatch ≤ 255) {n : Nat}
    (count : n = if h.mismatchThreshold < (cp - cs).natAbs then min 255 (c.mismatch + 1) else 0) :
    c.take h now = ({ c with buffer := rest, mismatch := n },
      if n < h.mismatchCount then ⟨now, .good, some cp⟩ else ⟨now, .mean, some (roundDiv (cp + cs) 2)⟩) := by
  have mismatch : mismatchAfter h c.mismatch (some cp) (some cs) = n := by
    simp only [mismatchAfter, count, countTo255_eq fits, Nat.cast_lt]
  simp only [WindContext.take, buffered, primary, secondary, mismatch, entryOfSample]
  by_cases few : n < h.mismatchCount
  · rw [if_pos few, if_neg (Nat.not_le.2 few)]
  · rw [if_neg few, if_pos (Nat.not_lt.1 few)]

/-- What a sample with one valid head, or none, gives (R84, R85). -/
theorem take_of_one_head {h : HillTable} {now : Time} {c : WindContext} {y : Sample} {rest : List Sample}
    (buffered : c.buffer = y :: rest) (single : y.primary c.bearing = none ∨ y.secondary c.bearing = none) :
    c.take h now = ({ c with buffer := rest, mismatch := 0 },
      match y.primary c.bearing, y.secondary c.bearing with
      | some v, _ => ⟨now, .single, some v⟩
      | none, some v => ⟨now, .single, some v⟩
      | none, none => ⟨now, .missing, none⟩) := by
  simp only [WindContext.take, buffered, mismatchAfter, entryOfSample]
  cases hp : y.primary c.bearing <;> cases hs : y.secondary c.bearing <;> simp_all

/-- An empty buffer repeats the newest entry where there is one to repeat (R86). -/
theorem take_of_repeat {h : HillTable} {now : Time} {c : WindContext} {y : GridEntry} {rest : List GridEntry}
    (empty : c.buffer = []) (ring : c.ring = y :: rest) (alive : c.state ≠ .lost) (some : y.quality ≠ .missing) :
    c.take h now = ({ c with repeats := countUp c.repeats }, ⟨now, .repeated, y.value⟩) := by
  simp only [WindContext.take, empty, ring]
  rw [if_pos ⟨alive, some⟩]

theorem take_of_missing {h : HillTable} {now : Time} {c : WindContext} (empty : c.buffer = [])
    (none : c.state = .lost ∨ ∀ y, c.ring.head? = some y → y.quality = .missing) :
    c.take h now = (c, ⟨now, .missing, Option.none⟩) := by
  simp only [WindContext.take, empty]
  cases ring : c.ring with
  | nil => rfl
  | cons y rest =>
    have nothing : ¬(c.state ≠ .lost ∧ y.quality ≠ .missing) := by
      rw [ring] at none
      rintro ⟨alive, some⟩
      exact none.elim alive fun h => some (h y rfl)
    simp only
    rw [if_neg nothing]

/-- A context less a taken sample keeps everything but the buffer, the mismatch count and the repeat slips, and its entry bears the
time of the cycle start. -/
theorem take_keeps (h : HillTable) (now : Time) (c : WindContext) :
    (c.take h now).1 =
        { c with buffer := c.buffer.drop 1, mismatch := (c.take h now).1.mismatch, repeats := (c.take h now).1.repeats } ∧
      (c.take h now).2.time = now := by
  unfold WindContext.take
  split
  · next buffered =>
    refine ⟨by simp only [buffered, List.drop_succ_cons, List.drop_zero], ?_⟩
    dsimp only
    unfold entryOfSample
    split
    · split <;> rfl
    · rfl
    · rfl
    · rfl
  · next empty =>
    have same : c.buffer.drop 1 = c.buffer := by rw [empty, List.drop_nil]
    rw [same]
    split
    · split <;> exact ⟨rfl, rfl⟩
    · exact ⟨rfl, rfl⟩

/-- Table 6-5 after an entry that no sample gave. -/
theorem stateAfter_of_gap {h : HillTable} {c : WindContext} {q : Quality} (gap : q = .repeated ∨ q = .missing) :
    stateAfter h c q = if c.state = .lost ∨ h.lostThreshold ≤ c.badRun then .lost else c.state := by
  have unsampled := (not_sampled_iff q).2 gap
  have notGood : q ≠ .good := by rintro rfl; cases unsampled
  unfold stateAfter
  cases state : c.state <;> simp [unsampled, notGood]

/-- Table 6-5 after an entry that a sample gave. -/
theorem stateAfter_of_sampled {h : HillTable} {c : WindContext} {q : Quality} (sampled : ¬(q = .repeated ∨ q = .missing)) :
    stateAfter h c q =
      if c.state = .lost ∧ ¬(h.recoverCount ≤ c.goodRun ∧ h.lostThreshold ≤ c.ring.length) then .lost
      else if q = .good then .active else .degraded := by
  rw [← not_sampled_iff, Bool.not_eq_false] at sampled
  unfold stateAfter
  cases state : c.state with
  | lost =>
    by_cases recovers : h.recoverCount ≤ c.goodRun ∧ h.lostThreshold ≤ c.ring.length <;> simp [sampled, recovers]
  | active => simp [sampled]
  | degraded => simp [sampled]

theorem write_of_gap {c : WindContext} {e : GridEntry} (gap : e.quality = .repeated ∨ e.quality = .missing) :
    c.write e = { c with ring := pushEntry e c.ring, goodRun := 0, badRun := countTo255 c.badRun } := by
  simp [WindContext.write, (not_sampled_iff _).2 gap]

theorem write_of_sampled {c : WindContext} {e : GridEntry} (sampled : ¬(e.quality = .repeated ∨ e.quality = .missing)) :
    c.write e = { c with ring := pushEntry e c.ring, goodRun := countTo255 c.goodRun, badRun := 0 } := by
  rw [← not_sampled_iff, Bool.not_eq_false] at sampled
  simp [WindContext.write, sampled]

/-- A context at a cycle start, taken apart: what it takes from the buffer, the entry written and the state after it. -/
theorem tick_eq (h : HillTable) (now : Time) (c : WindContext) :
    c.tick h now = { (c.take h now).1.write (c.take h now).2 with
      state := stateAfter h ((c.take h now).1.write (c.take h now).2) (c.take h now).2.quality } := rfl

/-! ### Means (R94, R95) -/

theorem stationMean_of_few {span : Nat} {ring : List GridEntry}
    (few : 2 * ((ring.take span).filterMap (·.value)).length < span) : stationMean span ring = none :=
  if_neg (by unfold entryValues; omega)

theorem stationMean_of_enough {span : Nat} {ring : List GridEntry}
    (enough : span ≤ 2 * ((ring.take span).filterMap (·.value)).length) :
    stationMean span ring = some (roundDiv ((ring.take span).filterMap (·.value)).sum
      ((ring.take span).filterMap (·.value)).length) :=
  if_pos (by unfold entryValues; omega)

/-- Settles O53: heads and components by their definitions, a context's cycle start by what its buffer and ring hold, and the
means by whether enough values stand. -/
theorem gridEntriesAreWritten : Obligations.GridEntriesAreWritten := by
  unfold Obligations.GridEntriesAreWritten
  refine ⟨fun bearing x => ⟨?_, ?_⟩, ?component, ⟨by decide, fun a b less bound => cosine_lt less bound⟩, ?tick,
    fun span ring => ⟨stationMean_of_few, stationMean_of_enough⟩, fun means => ⟨fun none => ?_, fun some => ?_⟩⟩
  · simp only [Sample.primary, headValid_iff]
  · simp only [Sample.secondary, headValid_iff]
  case component =>
    intro bearing speed direction delta near far angle
    have same : (direction + 360 - bearing) % 360 = delta := by omega
    refine ⟨?_, fun slow => component_bounds slow⟩
    rw [component, same]
    rfl
  case tick =>
    rintro h now c x rfl mismatch good bad repeats lost
    obtain ⟨taken, time⟩ := take_keeps h now c
    have runs : (c.take h now).1.goodRun = c.goodRun ∧ (c.take h now).1.badRun = c.badRun ∧
        (c.take h now).1.state = c.state ∧ (c.take h now).1.ring = c.ring := by
      rw [taken]
      exact ⟨rfl, rfl, rfl, rfl⟩
    obtain ⟨sameGood, sameBad, sameState, sameRing⟩ := runs
    rw [tick_eq]
    refine ⟨congrArg (·.index) taken, congrArg (·.bearing) taken, congrArg (·.buffer) taken, congrArg (·.drops) taken,
      (c.take h now).2, congrArg (pushEntry _) sameRing, time, ?two, ?one, ?again, ?missing, ?gap, ?sampled⟩
    case two =>
      intro y rest cp cs n buffered primary secondary count
      have := take_of_two_heads (h := h) (now := now) buffered primary secondary mismatch count
      exact ⟨congrArg (·.1.mismatch) this, congrArg (·.1.repeats) this, congrArg (·.2) this⟩
    case one =>
      intro y rest buffered single
      have := take_of_one_head (h := h) (now := now) buffered single
      exact ⟨congrArg (·.1.mismatch) this, congrArg (·.1.repeats) this, congrArg (·.2) this⟩
    case again =>
      intro y rest empty ring alive some
      have := take_of_repeat (h := h) (now := now) empty ring alive some
      exact ⟨congrArg (·.1.mismatch) this, (congrArg (·.1.repeats) this).trans (countUp_eq repeats), congrArg (·.2) this⟩
    case missing =>
      intro empty none
      have := take_of_missing (h := h) (now := now) empty none
      exact ⟨congrArg (·.1.mismatch) this, congrArg (·.1.repeats) this, congrArg (·.2) this⟩
    case gap =>
      intro gap
      rw [stateAfter_of_gap gap, write_of_gap gap, sameBad, sameState, countTo255_eq bad]
      exact ⟨rfl, rfl, rfl⟩
    case sampled =>
      intro sampled
      rw [stateAfter_of_sampled sampled, write_of_sampled sampled, sameGood, sameState, countTo255_eq good]
      exact ⟨rfl, rfl, rfl⟩
  · rw [liveWindOf, none]
    rfl
  · rw [liveWindOf, if_neg (by simpa using some)]
    rfl

end Sys2Proof.Proofs
end

section
/-! The images of the six tables read back as the tables they came from (R8, R14, R15, R43, R124, R194, R195), and the load buffer
(R192). -/

namespace Sys2Proof.Proofs

open Sys2Proof.Machine Sys2Proof.Claims

/-! ### Bytes of numbers -/

theorem toNat_byte {n : Nat} (fits : n < 256) : (BitVec.ofNat 8 n).toNat = n := by
  rw [BitVec.toNat_ofNat, Nat.mod_eq_of_lt fits]

theorem natOf_bytes {n : Nat} (fits : n < 65536) : natOf (BitVec.ofNat 8 (n / 256)) (BitVec.ofNat 8 n) = n := by
  rw [natOf, toNat_byte (by omega), BitVec.toNat_ofNat]
  omega

theorem intOf_bytes {z : Int} (low : -32768 ≤ z) (high : z < 32768) :
    intOf (BitVec.ofNat 8 ((z % 65536).toNat / 256)) (BitVec.ofNat 8 (z % 65536).toNat) = z := by
  rw [intOf, natOf_bytes (by omega)]
  split <;> omega

/-- A table image begins with its entry count (R194). -/
theorem u16_append (n : Nat) (rest : List Byte) : u16 n ++ rest = BitVec.ofNat 8 (n / 256) :: BitVec.ofNat 8 n :: rest := rfl

/-! ### STATIONS -/

/-- A role in its ranges is read back from its kind code, its flag and its six bytes (Table 12-3). -/
theorem roleOf_bytes {e : StationEntry} (fits : e.inRange = true) :
    ∃ b5 b6 b7 b8 b9 b10, e.role.bytes = [b5, b6, b7, b8, b9, b10] ∧
      roleOf (BitVec.ofNat 8 e.role.kind.code) (BitVec.ofNat 8 (bitsByte [e.mirror, e.role.startWindow]))
        b5 b6 b7 b8 b9 b10 = some e.role := by
  unfold StationEntry.inRange at fits
  cases role : e.role with
  | wind w =>
    simp only [role, Bool.and_eq_true, decide_eq_true_eq] at fits
    obtain ⟨-, index, bearing, slope, weight⟩ := fits
    have flag : bitOf (BitVec.ofNat 8 (bitsByte [e.mirror, w.startWindow])) 1 = w.startWindow := by
      cases e.mirror <;> cases w.startWindow <;> decide
    refine ⟨_, _, _, _, _, _, rfl, ?_⟩
    change some (StationRole.wind ⟨(BitVec.ofNat 8 w.index).toNat, natOf _ _, natOf _ _, (BitVec.ofNat 8 w.weight).toNat,
      bitOf (BitVec.ofNat 8 (bitsByte [e.mirror, w.startWindow])) 1⟩) = _
    rw [toNat_byte (by omega), natOf_bytes (by omega), natOf_bytes (by omega), toNat_byte (by omega), flag]
  | landing m n =>
    simp only [role, Bool.and_eq_true, decide_eq_true_eq] at fits
    refine ⟨_, _, _, _, _, _, rfl, ?_⟩
    change some (StationRole.landing (BitVec.ofNat 8 m).toNat (BitVec.ofNat 8 n).toNat) = _
    rw [toNat_byte (by omega), toNat_byte (by omega)]
  | judge seat =>
    simp only [role, Bool.and_eq_true, decide_eq_true_eq] at fits
    refine ⟨_, _, _, _, _, _, rfl, ?_⟩
    change some (StationRole.judge (BitVec.ofNat 8 seat).toNat) = _
    rw [toNat_byte (by omega)]
  | board mask =>
    obtain ⟨current, leaders, countdown⟩ := mask
    refine ⟨_, _, _, _, _, _, rfl, ?_⟩
    cases current <;> cases leaders <;> cases countdown <;> rfl
  | _ => exact ⟨_, _, _, _, _, _, rfl, rfl⟩

theorem stationEntriesOf_bytes {e : StationEntry} (fits : e.inRange = true) (n : Nat) (rest : List Byte) :
    stationEntriesOf (n + 1) (e.bytes ++ rest) = (stationEntriesOf n rest).map (e :: ·) := by
  obtain ⟨b5, b6, b7, b8, b9, b10, bytes, role⟩ := roleOf_bytes fits
  simp only [StationEntry.inRange, Bool.and_eq_true, decide_eq_true_eq] at fits
  obtain ⟨⟨low, high, least, most⟩, -⟩ := fits
  have mirror : bitOf (BitVec.ofNat 8 (bitsByte [e.mirror, e.role.startWindow])) 0 = e.mirror := by
    cases e.mirror <;> cases e.role.startWindow <;> decide
  have port : segOfCode (BitVec.ofNat 8 (segCode e.port)).toNat = some e.port := by cases e.port <;> rfl
  have miss : missLimitOf (BitVec.ofNat 8 e.missLimit).toNat = e.missLimit := by
    rw [toNat_byte (by omega), missLimitOf, if_neg (by omega)]
  have spelled : e.bytes ++ rest = BitVec.ofNat 8 e.addr :: BitVec.ofNat 8 e.role.kind.code ::
      BitVec.ofNat 8 (segCode e.port) :: BitVec.ofNat 8 (bitsByte [e.mirror, e.role.startWindow]) ::
      BitVec.ofNat 8 e.missLimit :: b5 :: b6 :: b7 :: b8 :: b9 :: b10 :: rest := by
    simp [StationEntry.bytes, bytes, u8]
  rw [spelled]
  simp only [stationEntriesOf, role, port, mirror, miss, toNat_byte (show e.addr < 256 by omega)]
  cases stationEntriesOf n rest <;> rfl

theorem stationEntriesOf_image {t : List StationEntry} (fits : ∀ e ∈ t, e.inRange = true) :
    stationEntriesOf t.length (t.flatMap StationEntry.bytes) = some t := by
  induction t with
  | nil => rfl
  | cons e rest ih =>
    rw [List.flatMap_cons, List.length_cons, stationEntriesOf_bytes (fits e (by simp)),
      ih fun x hx => fits x (by simp [hx])]
    rfl

theorem inRange_of_stationsValid {t : List StationEntry} (valid : stationsValid t = true) :
    t.length ≤ 64 ∧ ∀ e ∈ t, e.inRange = true := by
  simp only [stationsValid, Bool.and_eq_true, decide_eq_true_eq, List.all_eq_true] at valid
  obtain ⟨⟨⟨⟨⟨length, ranges⟩, -⟩, -⟩, -⟩, -⟩ := valid
  exact ⟨length, ranges⟩

theorem stationsOfImage_image {t : List StationEntry} (valid : stationsValid t = true) :
    stationsOfImage (stationsImage t) = some t := by
  obtain ⟨length, ranges⟩ := inRange_of_stationsValid valid
  rw [stationsImage, u16_append]
  simp only [stationsOfImage, natOf_bytes (by omega : t.length < 65536), stationEntriesOf_image ranges, valid, if_true]

/-! ### SCHED_T and SCHED_S -/

theorem schedEntriesOf_image {t : List SchedEntry} (fits : ∀ e ∈ t, e.addr < 256 ∧ e.interval < 256 ∧ e.phase < 256) :
    schedEntriesOf t.length (t.flatMap fun e => u8 e.addr ++ u8 e.interval ++ u8 e.phase) = some t := by
  induction t with
  | nil => rfl
  | cons e rest ih =>
    obtain ⟨addr, interval, phase⟩ := fits e (by simp)
    simp only [List.flatMap_cons, List.length_cons, u8, List.cons_append, List.nil_append, schedEntriesOf, toNat_byte addr,
      toNat_byte interval, toNat_byte phase]
    have later := ih fun x hx => fits x (by simp [hx])
    simp only [u8, List.cons_append, List.nil_append] at later
    rw [later]
    rfl

/-- The entries of a valid schedule fit into bytes: its stations stand in the STATIONS table (R8). -/
theorem bytes_of_schedValid {stations : List StationEntry} {port : Seg} {t : List SchedEntry}
    (stationsFit : stationsValid stations = true) (valid : schedValid stations port t = true) :
    t.length ≤ 48 ∧ ∀ e ∈ t, e.addr < 256 ∧ e.interval < 256 ∧ e.phase < 256 := by
  simp only [schedValid, Bool.and_eq_true, decide_eq_true_eq, List.all_eq_true, Option.any_eq_true] at valid
  obtain ⟨⟨⟨⟨length, ranges⟩, -⟩, standing⟩, -⟩ := valid
  refine ⟨length, fun e he => ?_⟩
  obtain ⟨interval, phase⟩ := ranges e he
  have bound : e.interval ≤ 32 := by
    simp only [List.mem_cons, List.not_mem_nil, or_false] at interval
    omega
  obtain ⟨x, found, -⟩ := standing e he
  have range := (inRange_of_stationsValid stationsFit).2 x (List.mem_of_find?_eq_some found)
  simp only [StationEntry.inRange, Bool.and_eq_true, decide_eq_true_eq] at range
  have same : x.addr = e.addr := by simpa using List.find?_some found
  omega

theorem schedOfImage_image {stations : List StationEntry} {port : Seg} {t : List SchedEntry}
    (stationsFit : stationsValid stations = true) (valid : schedValid stations port t = true) :
    schedOfImage stations port (schedImage t) = some t := by
  obtain ⟨length, bytes⟩ := bytes_of_schedValid stationsFit valid
  rw [schedImage, u16_append]
  simp only [schedOfImage, natOf_bytes (by omega : t.length < 65536), schedEntriesOf_image bytes, valid, if_true]

/-! ### HILL -/

/-- A field of the HILL image. -/
def field (n : Nat) : Byte × Byte := (BitVec.ofNat 8 (n / 256), BitVec.ofNat 8 n)

theorem onOff_field (b : Bool) : onOff (field b.toNat) = some b := by
  have same : natOf (field b.toNat).1 (field b.toNat).2 = b.toNat := natOf_bytes (by cases b <;> decide)
  simp only [onOff, same]
  cases b <;> decide

theorem fieldsOf_u16 (n : Nat) (rest : List Byte) : fieldsOf (u16 n ++ rest) = (fieldsOf rest).map (field n :: ·) := rfl

theorem fieldsOf_flatMap (l : List Nat) (rest : List Byte) :
    fieldsOf (l.flatMap u16 ++ rest) = (fieldsOf rest).map (l.map field ++ ·) := by
  induction l with
  | nil => simp
  | cons n l ih =>
    rw [List.flatMap_cons, List.append_assoc, fieldsOf_u16, ih, Option.map_map]
    rfl

theorem fieldsOf_image (h : HillTable) :
    fieldsOf h.image = some
      [field h.k, field h.hs, field h.b, field h.m, field h.headFactor, field h.tailFactor, field h.g,
        field h.coachThreshold, field h.lead, field h.flightMin, field h.flightMax, field h.inRunMax, field h.startTime,
        field h.flashTime, field h.windWait, field (h.bandLow % 65536).toNat, field (h.bandHigh % 65536).toNat,
        field h.liveSpan, field h.confirmWindow, field h.autoConfirm.toNat, field h.marksWindow, field h.mismatchThreshold,
        field h.mismatchCount, field h.lostThreshold, field h.recoverCount, field h.cellSpacing, field h.q,
        field h.windGateAtPowerOn.toNat] := by
  rw [HillTable.image, List.append_assoc, List.append_assoc, fieldsOf_flatMap, i16, fieldsOf_u16, i16, fieldsOf_u16,
    ← List.append_nil (List.flatMap u16 _), fieldsOf_flatMap]
  rfl

/-- Each field of a valid HILL table fits into two bytes (R195). -/
theorem hillOfImage_image {h : HillTable} (valid : h.valid = true) : hillOfImage h.image = some h := by
  have ranges := valid
  simp only [HillTable.valid, Bool.and_eq_true, decide_eq_true_eq] at ranges
  simp only [hillOfImage, fieldsOf_image, onOff_field]
  simp (disch := omega) only [field, natOf_bytes, intOf_bytes]
  exact if_pos valid

/-! ### DISTANCE -/

theorem distanceEntriesOf_image {t : List DistanceEntry}
    (fits : ∀ e ∈ t, e.moduleIndex < 256 ∧ e.sensor < 256 ∧ e.distance < 65536) :
    distanceEntriesOf t.length (t.flatMap fun e => u8 e.moduleIndex ++ u8 e.sensor ++ u16 e.distance) = some t := by
  induction t with
  | nil => rfl
  | cons e rest ih =>
    obtain ⟨moduleIndex, sensor, distance⟩ := fits e (by simp)
    have later := ih fun x hx => fits x (by simp [hx])
    simp only [u8, u16, List.cons_append, List.nil_append] at later
    simp only [List.flatMap_cons, List.length_cons, u8, u16, List.cons_append, List.nil_append, distanceEntriesOf,
      toNat_byte moduleIndex, toNat_byte sensor, natOf_bytes distance]
    rw [later]
    rfl

theorem distanceOfImage_image {t : List DistanceEntry} (valid : distanceValid t = true) :
    distanceOfImage (distanceImage t) = some t := by
  have ranges := valid
  simp only [distanceValid, Bool.and_eq_true, decide_eq_true_eq, List.all_eq_true] at ranges
  obtain ⟨⟨length, entries⟩, -⟩ := ranges
  have fits : ∀ e ∈ t, e.moduleIndex < 256 ∧ e.sensor < 256 ∧ e.distance < 65536 := fun e he => by
    obtain ⟨moduleIndex, sensor, distance⟩ := entries e he
    omega
  rw [distanceImage, u16_append]
  simp only [distanceOfImage, natOf_bytes (by omega : t.length < 65536), distanceEntriesOf_image fits, valid, if_true]

/-! ### COMPETITORS -/

/-- A competitor's fields fit their bytes: the bib, the name's length, and the three team characters. -/
def CompetitorFits (c : Competitor) : Prop := c.bib < 65536 ∧ c.name.length < 256 ∧ c.team.length = 3

theorem competitorsOf_bytes {c : Competitor} (fits : CompetitorFits c) (n : Nat) (rest : List Byte) :
    competitorsOf (n + 1) (u16 c.bib ++ u8 c.name.length ++ c.name ++ c.team ++ rest) =
      (competitorsOf n rest).map (c :: ·) := by
  obtain ⟨bib, name, team⟩ := fits
  obtain ⟨t1, t2, t3, letters⟩ := List.length_eq_three.1 team
  have behind : (c.name ++ t1 :: t2 :: t3 :: rest).drop c.name.length = t1 :: t2 :: t3 :: rest := List.drop_left
  have before : (c.name ++ t1 :: t2 :: t3 :: rest).take c.name.length = c.name := List.take_left
  have reaches : c.name.length ≤ (c.name ++ t1 :: t2 :: t3 :: rest).length := by simp
  have spelled : u16 c.bib ++ u8 c.name.length ++ c.name ++ c.team ++ rest = BitVec.ofNat 8 (c.bib / 256) ::
      BitVec.ofNat 8 c.bib :: BitVec.ofNat 8 c.name.length :: (c.name ++ t1 :: t2 :: t3 :: rest) := by
    simp [u16, u8, letters]
  rw [spelled]
  simp only [competitorsOf, toNat_byte name, natOf_bytes bib, behind, before, reaches, if_true, ← letters]

theorem competitorsOf_image {t : List Competitor} (fits : ∀ c ∈ t, CompetitorFits c) :
    competitorsOf t.length (t.flatMap fun c => u16 c.bib ++ u8 c.name.length ++ c.name ++ c.team) = some t := by
  induction t with
  | nil => rfl
  | cons c rest ih =>
    rw [List.flatMap_cons, List.length_cons, competitorsOf_bytes (fits c (by simp)), ih fun x hx => fits x (by simp [hx])]
    rfl

theorem competitorsOfImage_image {t : List Competitor} (valid : competitorsValid t = true) :
    competitorsOfImage (competitorsImage t) = some t := by
  have ranges := valid
  simp only [competitorsValid, Bool.and_eq_true, decide_eq_true_eq, List.all_eq_true, bibInRange_iff] at ranges
  obtain ⟨⟨length, entries⟩, -⟩ := ranges
  have fits : ∀ c ∈ t, CompetitorFits c := fun c hc => by
    obtain ⟨⟨⟨⟨bib, name⟩, -⟩, team⟩, -⟩ := entries c hc
    exact ⟨by omega, by omega, team⟩
  rw [competitorsImage, u16_append]
  simp only [competitorsOfImage, natOf_bytes (by omega : t.length < 65536), competitorsOf_image fits, valid, if_true]

/-- Settles O40: each field is read back from its bytes, entry by entry, because a valid table keeps it in range. -/
theorem tableImagesRoundTrip : Obligations.TableImagesRoundTrip := by
  unfold Obligations.TableImagesRoundTrip
  exact ⟨fun _ => stationsOfImage_image, fun _ _ _ => schedOfImage_image, fun h valid => ⟨hillOfImage_image valid, rfl⟩,
    fun _ => distanceOfImage_image, fun _ => competitorsOfImage_image⟩

/-! ### The load buffer (R192) -/

/-- The only refusal of LOAD_BEGIN tests the table code and the length. -/
def beginRefusals (table length : Nat) : List (Prop × Status) :=
  [(¬(1 ≤ table ∧ table ≤ 6) ∨ ¬(1 ≤ length ∧ length ≤ 4098), .badValue)]

theorem exists_ofCode {n : Nat} (h : 1 ≤ n ∧ n ≤ 6) : ∃ code, TableCode.ofCode n = some code ∧ code.code = n := by
  obtain ⟨low, high⟩ := h
  interval_cases n <;> exact ⟨_, rfl, rfl⟩

theorem loadBegin_eq_judged {table : Byte} {length : Half} {o : Option Status}
    (first : FirstOf (beginRefusals table.toNat length.toNat) o) :
    ∃ code : TableCode, (o = none → code.code = table.toNat) ∧
      ∀ u : State, loadBegin table length u =
        judged o (.loadOpened table.toNat length.toNat) u { u with loadBuffer := some ⟨code, length.toNat, []⟩ } := by
  by_cases named : 1 ≤ table.toNat ∧ table.toNat ≤ 6
  · obtain ⟨code, found, same⟩ := exists_ofCode named
    refine ⟨code, fun _ => same, fun u => ?_⟩
    simp only [loadBegin, found, same]
    refine ite_judged_refuse first ?_ fun _ first => accept_eq_judged first
    rw [Config.loadLimit]
    tauto
  · refine ⟨.stations, ?_, fun u => ?_⟩
    · rintro rfl
      exact absurd (.inl named) (first.elim (fun h => nomatch h.2) And.left)
    · simp only [loadBegin, ofCode_eq_none named]
      exact refuse_eq_judged first (.inl named)

theorem length_overwrite {content data : List Byte} {offset : Nat} (reaches : offset ≤ content.length) :
    (overwrite content offset data).length = max content.length (offset + data.length) := by
  simp only [overwrite, List.length_append, List.length_take, List.length_drop]
  omega

theorem getElem?_overwrite {content data : List Byte} {offset : Nat} (reaches : offset ≤ content.length) (i : Nat) :
    (overwrite content offset data)[i]? =
      if offset ≤ i ∧ i < offset + data.length then data[i - offset]? else content[i]? := by
  have before : (content.take offset).length = offset := List.length_take_of_le reaches
  rw [overwrite, List.append_assoc]
  rcases Nat.lt_or_ge i offset with first | later
  · rw [if_neg (by omega), List.getElem?_append_left (by omega), List.getElem?_take_of_lt first]
  · rw [List.getElem?_append_right (by omega), before]
    rcases Nat.lt_or_ge i (offset + data.length) with inside | behind
    · rw [if_pos ⟨later, inside⟩, List.getElem?_append_left (by omega)]
    · rw [if_neg (by omega), List.getElem?_append_right (by omega), List.getElem?_drop]
      congr 1
      omega

/-- The two refusals of LOAD_DATA with a load buffer open. -/
def dataRefusals (b : LoadBuffer) (offset : Nat) (data : List Byte) : List (Prop × Status) :=
  [(b.content.length < offset, .badValue), (b.length < offset + data.length, .badValue)]

theorem loadData_eq_judged {offset : Half} {data : List Byte} {s : State} {b : LoadBuffer} {o : Option Status}
    (opened : s.loadBuffer = some b) (first : FirstOf (dataRefusals b offset.toNat data) o) :
    loadData offset data s =
      judged o (.loadFill (max b.content.length (offset.toNat + data.length))) s
        { s with loadBuffer := some ⟨b.table, b.length, overwrite b.content offset.toNat data⟩ } := by
  simp only [loadData, opened]
  refine ite_refuse_judged first Iff.rfl fun reaches first => ?_
  refine ite_refuse_judged first Iff.rfl fun _ first => ?_
  rw [← length_overwrite (Nat.not_lt.1 reaches)]
  exact accept_eq_judged first

theorem exec_loadData {now : Time} {seq : Byte} {offset : Half} {data : List Byte} (fits : 1 ≤ data.length ∧ data.length ≤ 117)
    (s : State) : exec (.loadData now seq offset data) s = request now seq 0x06 (loadData offset data) s := by
  unfold exec execLoadData
  exact if_pos fits

/-- Settles O38: LOAD_BEGIN by its table code, LOAD_DATA by what its bytes overwrite. -/
theorem loadBufferFills : Obligations.LoadBufferFills := by
  unfold Obligations.LoadBufferFills
  intro now seq s listens
  refine ⟨fun table length o first => ?_, fun offset data some few => ⟨fun closed => ?_, fun b o opened first => ?_⟩⟩
  · obtain ⟨code, same, judged⟩ := loadBegin_eq_judged first
    exact ⟨code, same, request_answered listens (judged (s.asked now))⟩
  · rw [exec_loadData ⟨some, few⟩]
    refine request_refused listens ?_
    simp only [loadData, show (s.asked now).loadBuffer = none from closed]
  · refine ⟨overwrite b.content offset.toNat data, ?_, fun none => ?_⟩
    · rw [exec_loadData ⟨some, few⟩]
      exact request_answered listens (loadData_eq_judged (s := s.asked now) opened first)
    · have reaches : offset.toNat ≤ b.content.length := by
        subst none
        exact Nat.not_lt.1 (first.elim (fun h => nomatch h.2) And.left)
      exact ⟨length_overwrite reaches, getElem?_overwrite reaches⟩

end Sys2Proof.Proofs
end

section
/-! Pages, reports and conditions: the images and the bytes of a page, the queue it joins, and what the office queue admits (sections
2.9, 11.1 to 11.7). -/

namespace Sys2Proof.Proofs

open Sys2Proof.Machine Sys2Proof.Claims

/-! ### Pages -/

theorem boardsShowing_eq (stations : List StationEntry) (kind : PageKind) :
    boardsShowing stations kind = boardsOf stations kind := by
  unfold boardsShowing boardsOf
  induction stations with
  | nil => rfl
  | cons e rest ih =>
    rw [List.filterMap_cons, List.filter_cons]
    cases e.role with
    | board mask =>
      have same : maskHolds mask kind = mask.has kind := by cases kind <;> rfl
      simp only [same]
      cases mask.has kind
      · exact ih
      · exact congrArg (e.addr :: ·) ih
    | _ => exact ih

/-- A page sent changes the slope queue alone. -/
theorem sendPage_eq (kind : PageKind) (s : State) :
    s.sendPage kind =
      { s with lsc := { s.lsc with segS := { s.lsc.segS with
          queue := pageShown s.dsp s.tables.stations kind s.lsc.segS.queue } } } := by
  unfold State.sendPage pageShown
  rw [boardsShowing_eq]
  rfl

/-- The CURRENT image of a record. -/
theorem recordImage_eq (s : State) (r : JumpRecord) : s.recordImage r = recordPage s.tables.competitors s.stu.gate r := by
  have gate : r.gate.or s.stu.gate = if r.gate = none then s.stu.gate else r.gate := by cases r.gate <;> rfl
  have distance : r.finalDistance.or r.preliminary = if r.finalDistance = none then r.preliminary else r.finalDistance := by
    cases r.finalDistance <;> rfl
  simp only [State.recordImage, gate, distance, Option.isSome_iff_ne_none]
  rfl

/-- The CURRENT image of a result entry. -/
theorem resultImage_eq (s : State) (e : ResultEntry) : s.resultImage e = entryPage s.tables.competitors s.results e := by
  have marker : (if e.detail.isSome = true then DistMarker.final else .none) =
      if e.detail = none then .none else .final := by cases e.detail <;> rfl
  simp only [State.resultImage, entryPage, marker, rankIn_eq_rankAmong]
  cases e.status <;> rfl

/-- The LEADERS image of a results list. -/
theorem leaderRows_eq (s : State) : s.leaderRows = leadersOf s.tables.competitors s.results := by
  simp only [State.leaderRows, leadersOf, rankIn_eq_rankAmong]
  rfl

theorem pageInt_eq (z : Option Int) : pageInt z = i16 (z.getD (-32768)) := by
  cases z <;> rfl

theorem currentFields_none :
    currentFields none =
      [0xFF, 0xFF, 0xFF, 0xFF, 0x00, 0xFF, 0xFF, 0xFF, 0xFF, 0xFF, 0xFF, 0x00, 0x00, 0x80, 0x00, 0x80, 0x00, 0xFF, 0xFF, 0xFF,
        0xFF, 0xFF, 0xFF] := by decide

/-- The fields of a CURRENT page that holds a jump or a result (Table 11-1). -/
theorem currentFields_some (c : CurrentImage) :
    currentFields (some c) =
      u16 (c.round.getD 0xFFFF) ++ u16 c.bib ++ BitVec.ofNat 8 c.name.length :: c.name ++ c.team ++
        u16 (c.gate.getD 0xFFFF) ++ u16 (c.speed.getD 0xFFFF) ++ u16 (c.distance.getD 0xFFFF) ++
        ([match c.marker with
          | .none => 0
          | .preliminary => 1
          | .final => 2,
          match c.status with
          | none => 0
          | some .ok => 1
          | some .dsq => 2] : List Byte) ++
        i16 (c.windComp.getD (-32768)) ++ i16 (c.gateComp.getD (-32768)) ++ u16 (c.roundTotal.getD 0xFFFF) ++
        u16 (c.competitionTotal.getD 0xFFFF) ++ u16 (c.rank.getD 0xFFFF) := by
  have codes : u8 c.marker.code ++ u8 (pageStatus c.status) =
      ([match c.marker with
        | .none => 0
        | .preliminary => 1
        | .final => 2,
        match c.status with
        | none => 0
        | some .ok => 1
        | some .dsq => 2] : List Byte) := by
    rcases c.marker with _ | _ | _ <;> rcases c.status with _ | _ | _ <;> rfl
  rw [← codes]
  simp only [currentFields, pageNat, pageInt_eq, pageName, u8, List.append_assoc, List.cons_append, List.nil_append,
    Option.getD_some]

/-! ### The slope queue (R23) -/

theorem isPage_iff {f : QueuedFrame} {board : Nat} {kind : PageKind} :
    f.isPage board kind = true ↔ ∃ x, f = .page board kind x := by
  cases f with
  | page b k payload => simp [QueuedFrame.isPage]
  | pass a seq payload => simp [QueuedFrame.isPage]

theorem isPage_eq_false {f : QueuedFrame} {board : Nat} {kind : PageKind} (other : ∀ x, f ≠ .page board kind x) :
    f.isPage board kind = false :=
  Bool.eq_false_iff.2 fun h => (isPage_iff.1 h).elim other

/-- A page coalesces into the one waiting page of its board and kind. -/
theorem queuePage_of_waiting {board : Nat} {kind : PageKind} {payload old : List Byte} {before behind : List QueuedFrame}
    (only : ∀ f ∈ before ++ behind, ∀ x, f ≠ .page board kind x) :
    queuePage board kind payload (before ++ .page board kind old :: behind) = before ++ .page board kind payload :: behind := by
  have waits : (before ++ QueuedFrame.page board kind old :: behind).any (QueuedFrame.isPage board kind) = true :=
    List.any_eq_true.2 ⟨_, by simp, isPage_iff.2 ⟨old, rfl⟩⟩
  have kept : ∀ l : List QueuedFrame, (∀ f ∈ l, ∀ x, f ≠ .page board kind x) →
      l.map (fun f => if f.isPage board kind then .page board kind payload else f) = l := by
    intro l none
    refine List.map_congr_left (fun f hf => ?_) |>.trans (List.map_id l)
    rw [isPage_eq_false (none f hf)]
    rfl
  rw [queuePage, if_pos waits, List.map_append, List.map_cons, kept before fun f hf => only f (by simp [hf]),
    kept behind fun f hf => only f (by simp [hf]), if_pos (isPage_iff.2 ⟨old, rfl⟩)]

/-- A page of which none waits joins the end, or is dropped by a full queue. -/
theorem queuePage_of_none {board : Nat} {kind : PageKind} {payload : List Byte} {q : List QueuedFrame}
    (none : ∀ f ∈ q, ∀ x, f ≠ .page board kind x) :
    queuePage board kind payload q = if q.length < 32 then q ++ [.page board kind payload] else q := by
  refine if_neg fun waits => ?_
  obtain ⟨f, hf, page⟩ := List.any_eq_true.1 waits
  rw [isPage_eq_false (none f hf)] at page
  cases page

/-! ### What the office queue admits (R182) -/

theorem offerReport_of_room {s : State} (r : Report) (room : s.office.count < 60) :
    s.offerReport r = { s with office := { s.office with reports := s.office.reports ++ [r] } } := if_pos room

theorem offerReport_of_lost {s : State} (r : Report) (full : 60 ≤ s.office.count) (lost : s.conditions.reportLost.i = true) :
    s.offerReport r = s := by
  rw [State.offerReport, if_neg (show ¬s.office.count < Config.reportLimit from Nat.not_lt.2 full), State.loseReport,
    if_pos lost]

theorem offerReport_of_full {s : State} (r : Report) (full : 60 ≤ s.office.count) (free : s.conditions.reportLost.i = false) :
    s.offerReport r =
      { s with conditions := { s.conditions with reportLost := ⟨s.conditions.reportLost.v, true, r.kindCode⟩ } } := by
  rw [State.offerReport, if_neg (show ¬s.office.count < Config.reportLimit from Nat.not_lt.2 full), State.loseReport,
    if_neg (by simp [free])]
  rfl

/-- A condition's report is offered after READY when its E and its kind are enabled (R177). -/
theorem offerCondition_of_room {s : State} {c : CondName} (ready : s.ready = true) (kind : s.enables.condition = true)
    (enabled : s.enables.conditions.getLsbD (c.number - 1) = true) (room : s.office.count < 60) :
    s.offerCondition c =
      { s with office := { s.office with
          reports := s.office.reports ++ [.condition c.number (s.conditions.get c).v (s.conditions.get c).argument] } } := by
  rw [State.offerCondition, if_pos (by rw [enables_of, ready, kind, enabled]; rfl), offerReport_of_room _ room]

theorem offerCondition_of_quiet {s : State} {c : CondName}
    (quiet : s.ready = false ∨ s.enables.condition = false ∨ s.enables.conditions.getLsbD (c.number - 1) = false) :
    s.offerCondition c = s := by
  refine if_neg ?_
  rw [enables_of]
  rintro offered
  simp only [Bool.and_eq_true] at offered
  rcases quiet with h | h | h <;> simp [h] at offered

/-- A condition that has just been indicated keeps its content when it is reported: a report lost then finds I already 1. -/
theorem offerCondition_get (s : State) (c : CondName) {x : Condition} (indicated : x.i = true) :
    ((s.setCondition c x).offerCondition c).conditions.get c = x := by
  have set : (s.setCondition c x).conditions.get c = x := by cases c <;> rfl
  by_cases own : c = .reportLost
  · subst own
    unfold State.offerCondition
    split
    · rcases Nat.lt_or_ge (s.setCondition .reportLost x).office.count 60 with room | full
      · rw [offerReport_of_room _ room]
        exact set
      · rw [offerReport_of_lost _ full (by rw [show (s.setCondition .reportLost x).conditions.reportLost = x from set]; exact indicated)]
        exact set
    · exact set
  · obtain ⟨lost, o, same⟩ := State.offerCondition_touches (s.setCondition c x) c
    rw [same]
    have kept : ({ (s.setCondition c x).conditions with reportLost := lost } : Conditions).get c =
        (s.setCondition c x).conditions.get c := by
      cases c with
      | reportLost => exact absurd rfl own
      | _ => rfl
    exact kept.trans set

theorem setCondition_get_other (s : State) {c d : CondName} (x : Condition) (apart : d ≠ c) :
    (s.setCondition c x).conditions.get d = s.conditions.get d := by
  cases c <;> cases d <;> first | rfl | exact absurd rfl apart

/-- An indication that is 0 rises with its argument, and is reported. -/
theorem raise_of_unset {s : State} {c : CondName} (n : Nat) (unset : (s.conditions.get c).i = false) :
    s.raise c n = (s.setCondition c ⟨(s.conditions.get c).v, true, n⟩).offerCondition c :=
  if_neg (by simp [unset])

theorem raise_get {s : State} {c : CondName} (n : Nat) (unset : (s.conditions.get c).i = false) :
    (s.raise c n).conditions.get c = ⟨(s.conditions.get c).v, true, n⟩ := by
  rw [raise_of_unset n unset]
  exact offerCondition_get s c rfl

theorem setCondition_get (s : State) (c : CondName) (x : Condition) : (s.setCondition c x).conditions.get c = x := by
  cases c <;> rfl

theorem setCondition_twice (s : State) (c : CondName) (x y : Condition) :
    (s.setCondition c x).setCondition c y = s.setCondition c y := by
  cases c <;> rfl

theorem setCondition_same (s : State) (c : CondName) : s.setCondition c (s.conditions.get c) = s := by
  cases c <;> rfl

section
variable {s : State} {c : CondName}

theorem setV_same {v : Bool} (same : (s.conditions.get c).v = v) : s.setV c v = s := by
  subst same
  rw [State.setV, if_neg (by simp)]
  exact setCondition_same s c

theorem setV_false (s : State) (c : CondName) : s.setV c false = s.setCondition c { s.conditions.get c with v := false } := by
  simp only [State.setV, Bool.false_and, Bool.false_eq_true, if_false]

/-- A rise of V is an occurrence (R177). -/
theorem setV_true (low : (s.conditions.get c).v = false) :
    s.setV c true = (s.setCondition c { s.conditions.get c with v := true }).raise c 0 := by
  simp only [State.setV, low, Bool.not_false, Bool.and_self, if_true]

theorem setV_of_indicated (low : (s.conditions.get c).v = false) (indicated : (s.conditions.get c).i = true) :
    s.setV c true = s.setCondition c { s.conditions.get c with v := true } := by
  rw [setV_true low]
  exact State.raise_again _ _ _ (by rw [setCondition_get]; exact indicated)

theorem setV_of_unset (low : (s.conditions.get c).v = false) (unset : (s.conditions.get c).i = false) :
    s.setV c true = (s.setCondition c ⟨true, true, 0⟩).offerCondition c := by
  rw [setV_true low, raise_of_unset 0 (by rw [setCondition_get]; exact unset), setCondition_get, setCondition_twice]

end

/-- What an indication that rises changes elsewhere: no other condition but REPORT_LOST. -/
theorem offerCondition_get_other (s : State) {c d : CondName} (x : Condition) (apart : d ≠ c) (other : d ≠ .reportLost) :
    ((s.setCondition c x).offerCondition c).conditions.get d = s.conditions.get d := by
  obtain ⟨lost, o, same⟩ := State.offerCondition_touches (s.setCondition c x) c
  rw [same, ← setCondition_get_other s x apart]
  cases d with
  | reportLost => exact absurd rfl other
  | _ => rfl

/-- The office queue after the report of an indication that has just risen. -/
theorem offerCondition_office {s : State} {c : CondName} (x : Condition) (ready : s.ready = true)
    (kind : s.enables.condition = true) (enabled : s.enables.conditions.getLsbD (c.number - 1) = true)
    (room : s.office.count < 60) :
    ((s.setCondition c x).offerCondition c).office =
      { s.office with reports := s.office.reports ++ [.condition c.number x.v x.argument] } := by
  rw [offerCondition_of_room (s := s.setCondition c x) ready kind enabled room, setCondition_get]
  rfl

theorem offerCondition_office_quiet {s : State} {c : CondName} (x : Condition)
    (quiet : s.ready = false ∨ s.enables.condition = false ∨ s.enables.conditions.getLsbD (c.number - 1) = false) :
    ((s.setCondition c x).offerCondition c).office = s.office := by
  rw [offerCondition_of_quiet (s := s.setCondition c x) quiet]
  rfl

/-- Settles O55: an occurrence and a rise by the indication they find, admission by the room, and pages by their fields and the
waiting page of their board. -/
theorem queuesAdmit : Obligations.QueuesAdmit := by
  unfold Obligations.QueuesAdmit
  refine ⟨⟨fun c n s => ⟨State.raise_again s c n, fun unset => ?raised⟩,
      fun c v s => ⟨setV_same, ?fallen, fun up low => ?risen⟩,
      fun r s => ⟨offerReport_of_room r, offerReport_of_lost r, fun full free => ?refused⟩,
      fun m s => ⟨fun room => if_pos room, fun full => if_neg (Nat.not_lt.2 full)⟩⟩,
    sendPage_eq, fun d => ⟨?leaders, rfl, fun none => ?empty, fun c some => ?current⟩,
    fun board kind payload q => ⟨?coalesces, fun none => ?joins⟩⟩
  case raised =>
    refine ⟨raise_get n unset, fun d => State.raise_others s c d n, fun ready kind enabled room => ?_, fun quiet => ?_⟩
    · rw [raise_of_unset n unset, offerCondition_office _ ready kind enabled room]
    · rw [raise_of_unset n unset, offerCondition_office_quiet _ quiet]
  case fallen =>
    rintro rfl
    exact setV_false s c
  case risen =>
    subst up
    refine ⟨fun indicated => setV_of_indicated low indicated, fun unset => ⟨_, setV_of_unset low unset, ?_, ?_, ?_, ?_, ?_⟩⟩
    · obtain ⟨lost, o, same⟩ := State.offerCondition_touches (s.setCondition c ⟨true, true, 0⟩) c
      rw [same]
      rfl
    · exact offerCondition_get s c rfl
    · exact fun d => offerCondition_get_other s _
    · exact fun ready kind enabled room => offerCondition_office _ ready kind enabled room
    · exact fun quiet => offerCondition_office_quiet _ quiet
  case refused =>
    rw [offerReport_of_full r full free]
    cases r <;> rfl
  case leaders =>
    simp only [pagePayload, leadersFields, pageName, u8, List.append_assoc, List.cons_append, List.nil_append]
    rfl
  case empty =>
    rw [pagePayload, none, currentFields_none]
    rfl
  case current =>
    rw [pagePayload, some, currentFields_some]
    rfl
  case coalesces =>
    rintro before old behind rfl only
    exact queuePage_of_waiting only
  case joins =>
    rw [queuePage_of_none none]
    exact ⟨fun room => if_pos room, fun full => if_neg (Nat.not_lt.2 full)⟩

end Sys2Proof.Proofs
end

section
/-! The envelope of a frame on a line (R1, R2, R3, R4). -/

namespace Sys2Proof.Proofs

open Sys2Proof.Machine Sys2Proof.Claims

/-- An escaped byte holds no delimiter. -/
theorem delimiter_not_mem_escapeByte (b : Byte) : 0x7A#8 ∉ escapeByte b := by
  unfold escapeByte
  split
  · next special => rcases special with rfl | rfl <;> decide
  · next plain => simpa [eq_comm] using fun h => plain (.inl h)

/-- An escaped byte is read back, whatever follows it. -/
theorem unescape_escapeByte (b : Byte) (rest : List Byte) :
    unescape (escapeByte b ++ rest) = (unescape rest).map (b :: ·) := by
  unfold escapeByte
  split
  · next special => rcases special with rfl | rfl <;> rfl
  · next plain =>
    have unescaped : ¬b = 0x7B#8 := fun h => plain (.inr h)
    rw [List.singleton_append, unescape.eq_def]
    exact if_neg unescaped

/-- The escapes of content bytes are undone (R1). -/
theorem unescape_flatMap (content : List Byte) : unescape (content.flatMap escapeByte) = some content := by
  induction content with
  | nil => rfl
  | cons b rest ih =>
    rw [List.flatMap_cons, unescape_escapeByte, ih]
    rfl

theorem length_body (f : Frame) : f.body.length = f.payload.length + 5 := rfl

theorem length_content (f : Frame) : f.content.length = f.payload.length + 7 := by
  rw [Frame.content, List.length_append, length_body, length_u16]

theorem take_content (f : Frame) : f.content.take (f.content.length - 2) = f.body := by
  rw [length_content, Frame.content]
  exact List.take_left' (length_body f)

theorem drop_content (f : Frame) : f.content.drop (f.content.length - 2) = u16 (crc16 f.body).toNat := by
  rw [length_content, Frame.content]
  exact List.drop_left' (length_body f)

/-- The checks of Table 2-3 up to the address pass a frame of an allowed length. -/
theorem receiveCheck_content {f : Frame} (fits : f.payload.length ≤ 120) (port : Port) (station : Option Nat)
    (addressed : validDestination f.destination.toNat = true) :
    receiveCheck port station f.content =
      if port = .O then none
      else if f.destination.toNat ≠ 0x01 then some .address
      else if station = some f.source.toNat then none
      else some .source := by
  have length := length_content f
  have byte : (BitVec.ofNat 8 f.payload.length).toNat = f.payload.length := toNat_byte (by omega)
  have spelled : f.content = f.destination :: f.source :: f.kind :: f.sequence :: BitVec.ofNat 8 f.payload.length ::
      (f.payload ++ u16 (crc16 f.body).toNat) := rfl
  unfold receiveCheck
  rw [spelled]
  dsimp only
  rw [← spelled, take_content, drop_content, length, byte, if_neg (by omega), if_neg (by omega), if_neg (by simp),
    if_neg (by simp), if_neg (by simp [addressed])]
  cases port <;> rfl

/-- Settles O45: the escapes leave no delimiter and are undone, and the checks meet the fields they were formed from. -/
theorem envelopeRoundTrips : Obligations.EnvelopeRoundTrips := by
  unfold Obligations.EnvelopeRoundTrips
  intro f fits
  refine ⟨f.content.flatMap escapeByte, rfl, fun inside => ?delimiter, unescape_flatMap f.content, fun addressed => ?office,
    fun addressed port => ?station, fun g => ⟨g.content.flatMap escapeByte, rfl, ?joined⟩, fun now u => LineUnit.start_bytes ..⟩
  case delimiter =>
    obtain ⟨b, -, held⟩ := List.mem_flatMap.1 inside
    exact delimiter_not_mem_escapeByte b held
  case office => exact receiveCheck_content fits .O none addressed
  case station =>
    rw [receiveCheck_content fits port _ (by rw [addressed]; decide), addressed]
    cases port <;> simp
  case joined =>
    simp only [linesOf, List.flatMap_cons, List.flatMap_nil, List.append_nil, Frame.behindDelimiter, List.append_assoc,
      List.cons_append, List.nil_append]

end Sys2Proof.Proofs
end

section
/-! Port O: PASS frames from the office and the frames sent to it (R21, R22, R184, R185, R199), and what counts a failure (R5). -/

namespace Sys2Proof.Proofs

open Sys2Proof.Machine Sys2Proof.Claims

/-! ### Counted failures -/

theorem line_setNow (s : State) (now : Time) (p : Port) : (s.setNow now).line p = s.line p := by
  cases p <;> rfl

theorem seg_setNow (s : State) (now : Time) (p : Seg) : (s.setNow now).seg p = s.seg p := by
  cases p <;> rfl

theorem portCode_eq (p : Port) : portCode p = codeFor p := by
  cases p <;> rfl

theorem countFailure_setNow (s : State) (now : Time) (p : Port) (c : CounterName) :
    (s.setNow now).countFailure p c =
      State.raise .lineErrors (codeFor p)
        ((s.setNow now).setLine p { s.line p with counters := (s.line p).counters.bump c }) := by
  rw [State.countFailure, line_setNow, portCode_eq]

theorem bump_framing {c : Counters} (fits : c.framing ≤ 65535) :
    c.bump .framing = { c with framing := min 65535 (c.framing + 1) } := by
  rw [← countUp_eq fits]
  rfl

theorem bump_address {c : Counters} (fits : c.address ≤ 65535) :
    c.bump .address = { c with address := min 65535 (c.address + 1) } := by
  rw [← countUp_eq fits]
  rfl

/-- Port O's ADDRESS counter, counted (R5, R21). -/
theorem countAddress_setNow {s : State} (now : Time) (fits : s.lineO.counters.address ≤ 65535) :
    (s.setNow now).countFailure .O .address =
      State.raise .lineErrors 3
        { s with
          hck := { s.hck with time := now }
          lineO := { s.lineO with counters := { s.lineO.counters with
            address := min 65535 (s.lineO.counters.address + 1) } } } := by
  rw [countFailure_setNow, show s.line .O = s.lineO from rfl, bump_address fits]
  rfl

/-! ### PASS frames from the office (R21, R22) -/

theorem takePass_before_ready {s : State} (seq destination : Byte) (payload : List Byte) (waits : s.ready = false) :
    s.takePass seq destination payload = s.raise .officeOverrun 0x05 := by
  simp only [State.takePass, waits, Bool.false_eq_true, if_false]
  rfl

/-- A PASS to no station of the table, or to the light station, counts ADDRESS. -/
theorem takePass_misaddressed {s : State} {destination : Byte} (seq : Byte) (payload : List Byte) (ready : s.ready = true)
    (noStation : ∀ e, stationAt s.tables.stations destination.toNat = some e → e.role.kind = .light) :
    s.takePass seq destination payload = s.countFailure .O .address := by
  simp only [State.takePass, ready, if_true]
  cases found : stationAt s.tables.stations destination.toNat with
  | none => rfl
  | some e => exact if_pos (noStation e found)

theorem takePass_of_station {s : State} {destination : Byte} {e : StationEntry} (seq : Byte) (payload : List Byte)
    (ready : s.ready = true) (found : stationAt s.tables.stations destination.toNat = some e) (other : e.role.kind ≠ .light) :
    s.takePass seq destination payload =
      if (s.seg e.port).queue.length < 32 then
        s.setSeg e.port { s.seg e.port with queue := (s.seg e.port).queue ++ [.pass destination.toNat seq payload] }
      else s.raise .officeOverrun 0x05 := by
  have addr : e.addr = destination.toNat := by simpa using List.find?_some found
  simp only [State.takePass, ready, if_true, found, if_neg other, addr]
  rfl

/-! ### Frames sent to the office (R184, R185, R199) -/

/-- The state once the frame in transmission has left the queue. -/
def officeClosed (now : Time) (s : State) : State :=
  { s with
    hck := { s.hck with time := now }
    office := { s.office with sending := none }
    lineO := s.lineO.close now }

theorem frameSent_plain {now : Time} {s : State} {f : OfficeFrame} (sending : s.office.sending = some f)
    (plain : s.takenReset = none ∨ ∀ r, f = .reply r → ¬(r.code = 0x02 ∧ r.status = .ok)) :
    (s.setNow now).frameSent = officeClosed now s := by
  have sending : (s.setNow now).office.sending = some f := sending
  unfold State.frameSent
  simp only [sending]
  split
  · next x r waits _ =>
    have noReset : ¬isResetReply r = true := by
      rcases plain with none | other
      · exact nomatch none.symm.trans waits
      · exact fun h => other r rfl (of_decide_eq_true h)
    rw [if_neg noReset]
    rfl
  · rfl

theorem frameSent_reset {now : Time} {s : State} {x : TakenReset} {r : Reply} (waits : s.takenReset = some x)
    (sending : s.office.sending = some (.reply r)) (code : r.code = 0x02) (ok : r.status = .ok) :
    (s.setNow now).frameSent =
      { s with
        hck := { s.hck with time := now }
        office := ⟨[], [], [], none, false⟩
        lineO := { s.lineO with shifter := none, ahead := .delimiter now }
        takenReset := some { x with replySent := true } } := by
  have own : isResetReply r = true := decide_eq_true ⟨code, ok⟩
  have sending : (s.setNow now).office.sending = some (.reply r) := sending
  have waits : (s.setNow now).takenReset = some x := waits
  unfold State.frameSent
  simp only [sending, waits, own, if_true]
  rfl

section
variable {s : State}

/-- A free OLU starts the oldest reply (R184). -/
theorem pumpOffice_of_reply {r : Reply} {rest : List Reply} (free : s.office.sending = none)
    (replies : s.office.replies = r :: rest) :
    s.pumpOffice = State.startSending (.reply r) { s with office := { s.office with replies := rest } } := by
  simp only [State.pumpOffice, free, replies]

theorem pumpOffice_of_reports {r : Report} {rest : List Report} (free : s.office.sending = none)
    (replies : s.office.replies = []) (reports : s.office.reports = r :: rest) :
    s.pumpOffice = State.startSending (.report r) { s with office := { s.office with reports := rest } } := by
  simp only [State.pumpOffice, free, replies, reports]

theorem pumpOffice_of_mirrors {m : Mirror} {rest : List Mirror} (free : s.office.sending = none)
    (replies : s.office.replies = []) (reports : s.office.reports = []) (mirrors : s.office.mirrors = m :: rest) :
    s.pumpOffice = State.startSending (.mirror m) { s with office := { s.office with mirrors := rest } } := by
  simp only [State.pumpOffice, free, replies, reports, mirrors]

theorem pumpOffice_of_nothing (replies : s.office.replies = []) (reports : s.office.reports = [])
    (mirrors : s.office.mirrors = []) : s.pumpOffice = s := by
  unfold State.pumpOffice
  split
  · rfl
  · simp only [replies, reports, mirrors]

end

/-- A frame started where the one before has just been sent shares its delimiter. -/
theorem startSending_closed (now : Time) (s : State) (f : OfficeFrame) (q : OfficeQueue) :
    State.startSending f { officeClosed now s with office := q } =
      { s with
        hck := { s.hck with time := now }
        office := { q with sending := some f }
        lineO := { s.lineO with
          txSeq := (State.startSending f s).lineO.txSeq
          shifter := some (f.frame s.lineO.txSeq)
          ahead := .delimiter now } } := by
  have shared : ({ s.lineO with shifter := none, ahead := .delimiter now } : LineUnit).start now (f.frame s.lineO.txSeq) =
      { s.lineO with shifter := some (f.frame s.lineO.txSeq), ahead := .delimiter now } := by
    simp only [LineUnit.start, if_true]
  have started : State.startSending f { officeClosed now s with office := q } =
      { s with
        hck := { s.hck with time := now }
        office := { q with sending := some f }
        lineO := { ({ s.lineO with shifter := none, ahead := .delimiter now } : LineUnit).start now (f.frame s.lineO.txSeq) with
          txSeq := (State.startSending f s).lineO.txSeq } } := rfl
  rwa [shared] at started

/-- What the statement says of the state that OLU leaves where the frame before has just been sent. -/
def ServedFrom (now : Time) (s t : State) : Prop :=
  t = { s with
    hck := { s.hck with time := now }
    office := t.office
    lineO := { s.lineO with txSeq := t.lineO.txSeq, shifter := t.lineO.shifter, ahead := .delimiter now } }

theorem bytes_of_shared {now : Time} {u : LineUnit} (shared : u.ahead = .delimiter now) {g : Frame}
    (shifted : u.shifter = some g) : u.bytes = g.behindDelimiter := by
  simp only [LineUnit.bytes, shifted, shared]

/-- Whatever waits, only the office queue and the transmitter change. -/
theorem pumpOffice_closed (now : Time) (s : State) : ServedFrom now s (officeClosed now s).pumpOffice := by
  cases replies : s.office.replies with
  | cons r rest =>
    rw [pumpOffice_of_reply (s := officeClosed now s) rfl replies, startSending_closed]
    rfl
  | nil =>
    cases reports : s.office.reports with
    | cons r rest =>
      rw [pumpOffice_of_reports (s := officeClosed now s) rfl replies reports, startSending_closed]
      rfl
    | nil =>
      cases mirrors : s.office.mirrors with
      | cons m rest =>
        rw [pumpOffice_of_mirrors (s := officeClosed now s) rfl replies reports mirrors, startSending_closed]
        rfl
      | nil =>
        rw [pumpOffice_of_nothing (s := officeClosed now s) replies reports mirrors]
        rfl

/-- Settles O54: a PASS by READY, its station and its queue's room; a frame sent by what waits, the reply of a RESET apart. -/
theorem officePortIsServed : Obligations.OfficePortIsServed := by
  unfold Obligations.OfficePortIsServed
  refine ⟨fun now seq destination payload s held fits => ⟨fun waits => ?early, fun ready => ⟨fun noStation => ?lost,
    fun e found other => ?queued⟩⟩, fun now s f held sending => ⟨fun plain => ?served, ?reset⟩⟩
  case early =>
    exact (event_outside_reset _ _ _ held).trans
      (by rw [takePass_before_ready (s := s.setNow now) seq destination payload waits])
  case lost =>
    exact (event_outside_reset _ _ _ held).trans
      (by rw [takePass_misaddressed (s := s.setNow now) seq payload ready noStation, countAddress_setNow now fits])
  case queued =>
    have taken := takePass_of_station (s := s.setNow now) seq payload ready found other
    rw [seg_setNow] at taken
    refine ⟨fun full => ?_, fun room => ?_⟩
    · exact (event_outside_reset _ _ _ held).trans (by rw [taken, if_neg (Nat.not_lt.2 full)])
    · exact (event_outside_reset _ _ _ held).trans (by rw [taken, if_pos room])
  case served =>
    have exec_eq : exec (.officeFrameSent now) s = .next (officeClosed now s).pumpOffice :=
      (event_outside_reset _ _ _ held).trans (by rw [frameSent_plain sending plain])
    have shared : (officeClosed now s).pumpOffice.lineO.ahead = .delimiter now := by
      rw [pumpOffice_closed now s]
    refine ⟨_, exec_eq, pumpOffice_closed now s, fun g shifted => ⟨bytes_of_shared shared shifted, rfl⟩,
      fun r rest replies => ?_, fun r rest replies reports => ?_, fun m rest replies reports mirrors => ?_,
      fun replies reports mirrors => ?_⟩
    · rw [pumpOffice_of_reply (s := officeClosed now s) rfl replies, startSending_closed]
      exact ⟨rfl, rfl, rfl⟩
    · rw [pumpOffice_of_reports (s := officeClosed now s) rfl replies reports, startSending_closed]
      exact ⟨rfl, rfl, rfl⟩
    · rw [pumpOffice_of_mirrors (s := officeClosed now s) rfl replies reports mirrors, startSending_closed]
      exact ⟨rfl, rfl, rfl⟩
    · rw [pumpOffice_of_nothing (s := officeClosed now s) replies reports mirrors]
      exact ⟨rfl, rfl⟩
  case reset =>
    rintro x r waits rfl code ok
    have empty : ∀ u : State, u.office = ⟨[], [], [], none, false⟩ → u.pumpOffice = u := by
      intro u h
      exact pumpOffice_of_nothing (by rw [h]) (by rw [h]) (by rw [h])
    refine (event_outside_reset _ _ _ held).trans ?_
    rw [frameSent_reset waits sending code ok, empty _ rfl]

end Sys2Proof.Proofs
end

section
/-! The receive checks and the frames and aborts that a port discards (R3, R4, R5, R10, R21). -/

namespace Sys2Proof.Proofs

open Sys2Proof.Machine Sys2Proof.Claims

/-! ### The checks of Table 2-3 -/

theorem receiveCheck_of_length {content : List Byte} (port : Port) (station : Option Nat)
    (bad : content.length < 7 ∨ 127 < content.length) : receiveCheck port station content = some .framing := by
  unfold receiveCheck
  split
  · rcases bad with short | long
    · rw [if_pos short]
    · rw [if_neg (by omega), if_pos long]
  · rfl

section
variable {destination source kind seq length : Byte} {rest content : List Byte} (port : Port) (station : Option Nat)
  (spelled : content = destination :: source :: kind :: seq :: length :: rest) (least : 7 ≤ content.length)
  (most : content.length ≤ 127)
include spelled least most

theorem receiveCheck_of_count (bad : length.toNat + 7 ≠ content.length) :
    receiveCheck port station content = some .framing := by
  unfold receiveCheck
  rw [spelled] at bad least most ⊢
  dsimp only
  rw [if_neg (by omega), if_neg (by omega), if_pos bad]

theorem receiveCheck_of_crc (count : length.toNat + 7 = content.length)
    (bad : u16 (crc16 (content.take (content.length - 2))).toNat ≠ content.drop (content.length - 2)) :
    receiveCheck port station content = some .crc := by
  unfold receiveCheck
  rw [spelled] at bad count least most ⊢
  dsimp only
  rw [if_neg (by omega), if_neg (by omega), if_neg (by omega), if_pos bad]

/-- A frame of the right length and CRC is judged by its addresses. -/
theorem receiveCheck_of_good (count : length.toNat + 7 = content.length)
    (good : u16 (crc16 (content.take (content.length - 2))).toNat = content.drop (content.length - 2)) :
    receiveCheck port station content =
      if validDestination destination.toNat = false then some .address
      else if port = .O then none
      else if destination.toNat ≠ 0x01 then some .address
      else if station = some source.toNat then none
      else some .source := by
  unfold receiveCheck
  rw [spelled] at good count least most ⊢
  dsimp only
  rw [if_neg (by omega), if_neg (by omega), if_neg (by omega), if_neg (not_not.2 good)]
  cases port <;> rfl

end

theorem validDestination_iff (a : Nat) :
    validDestination a = true ↔ a = 0x01 ∨ (0x10 ≤ a ∧ a ≤ 0xEF) ∨ a = 0xFF := decide_eq_true_iff

/-! ### What a port discards -/

theorem exec_discard {now : Time} {port : Port} {line : List Byte} {s : State} (held : s.heldInReset = false)
    (listens : (s.line port).dropping = false) :
    exec (.frameDiscarded now port line) s = .next (State.discardBytes port line (s.setNow now)).pumpOffice := by
  refine (event_outside_reset _ _ _ held).trans ?_
  rw [State.discard, ((s.setNow now).dropOr_spec port _).2 (by rw [line_setNow]; exact listens)]

theorem exec_abort {now : Time} {port : Port} {s : State} (held : s.heldInReset = false)
    (listens : (s.line port).dropping = false) :
    exec (.abortReceived now port) s = .next (State.takeAbort port (s.setNow now)).pumpOffice := by
  refine (event_outside_reset _ _ _ held).trans ?_
  rw [((s.setNow now).dropOr_spec port _).2 (by rw [line_setNow]; exact listens)]

/-- An event of a dropping assembler ends the dropping and counts nothing (R3). -/
theorem event_dropping {now : Time} {port : Port} {s : State} (body : State → State) (held : s.heldInReset = false)
    (drops : (s.line port).dropping = true) :
    event now (State.dropOr port body) s =
      .next (State.pumpOffice ((s.setNow now).setLine port { s.line port with dropping := false })) := by
  rw [event_outside_reset _ _ _ held, ((s.setNow now).dropOr_spec port body).1 (by rw [line_setNow]; exact drops), line_setNow]

theorem framing_of_legal {s : State} (legal : StatusLegal s) (port : Port) : (s.line port).counters.framing ≤ 65535 := by
  obtain ⟨⟨fitsT, -⟩, ⟨fitsS, -⟩, ⟨fitsO, -⟩, -⟩ := legal
  cases port
  · exact fitsT
  · exact fitsS
  · exact fitsO

theorem slotStation_setNow (s : State) (now : Time) (port : Port) : (s.setNow now).slotStation port = s.slotStation port := by
  cases port <;> rfl

/-- A frame that a receive check discards counts in its port and ends the slot it began in. -/
theorem discardBytes_failed {port : Port} {line content : List Byte} {c : CounterName} {s : State}
    (read : unescape line = some content) (filled : content ≠ []) (fails : receiveCheck port (s.slotStation port) content = some c) :
    s.discardBytes port line = s.failFrame port c := by
  simp only [State.discardBytes, read, if_neg filled, fails]

/-- Idle fill, and a frame that every check of a station port passes, are no discarded frame. -/
theorem discardBytes_nothing {port : Port} {line : List Byte} {s : State}
    (none : unescape line = some [] ∨ (port ≠ .O ∧ ∃ content, unescape line = some content ∧
      receiveCheck port (s.slotStation port) content = none)) :
    s.discardBytes port line = s := by
  rcases none with idle | ⟨station, content, read, passes⟩
  · simp only [State.discardBytes, idle, if_true]
  · simp only [State.discardBytes, read, passes]
    split
    · rfl
    · cases port with
      | O => exact absurd rfl station
      | _ => rfl

/-- An office frame that every check passes is judged by its kind and its destination. -/
theorem discardBytes_office {line rest : List Byte} {destination source kind : Byte} {s : State}
    (read : unescape line = some (destination :: source :: kind :: rest))
    (passes : receiveCheck .O none (destination :: source :: kind :: rest) = none) :
    s.discardBytes .O line = s.misaddressed destination.toNat kind.toNat := by
  simp only [State.discardBytes, read, if_neg (List.cons_ne_nil _ _), show s.slotStation .O = none from rfl, passes]

section
variable {destination kind : Byte} {s : State}

theorem kind_iff {n : Nat} (small : n < 256) : kind.toNat = n ↔ kind = BitVec.ofNat 8 n := by
  constructor
  · rintro rfl
    simp
  · rintro rfl
    exact toNat_byte small

/-- The part takes a REQUEST of its own, and a PASS to a station other than the light station (R21). -/
theorem officeTakes_iff :
    officeTakes s.tables.stations destination.toNat kind.toNat = true ↔
      (kind = 0x20 ∧ destination = 0x01) ∨
        (kind = 0x05 ∧ ∃ e, stationAt s.tables.stations destination.toNat = some e ∧ e.role.kind ≠ .light) := by
  have request : kind.toNat = 0x20 ↔ kind = 0x20 := kind_iff (by decide)
  have pass : kind.toNat = 0x05 ↔ kind = 0x05 := kind_iff (by decide)
  have part : destination.toNat = 0x01 ↔ destination = 0x01 := kind_iff (by decide)
  simp only [officeTakes, FrameKind.code, Bool.or_eq_true, Bool.and_eq_true, decide_eq_true_eq, Option.any_eq_true, request,
    pass, part]

theorem misaddressed_of_early (pass : kind = 0x05) (waits : s.ready = false) :
    s.misaddressed destination.toNat kind.toNat = s.raise .officeOverrun 0x05 := by
  subst pass
  exact if_pos ⟨rfl, waits⟩

theorem misaddressed_of_taken
    (taken : (kind = 0x20 ∧ destination = 0x01) ∨ (kind = 0x05 ∧ s.ready = true ∧
      ∃ e, stationAt s.tables.stations destination.toNat = some e ∧ e.role.kind ≠ .light)) :
    s.misaddressed destination.toNat kind.toNat = s := by
  have notEarly : ¬(kind.toNat = FrameKind.pass.code ∧ s.ready = false) := by
    rintro ⟨pass, waits⟩
    rcases taken with ⟨rfl, -⟩ | ⟨-, ready, -⟩
    · cases pass
    · exact nomatch ready.symm.trans waits
  have takes := officeTakes_iff.2 (taken.imp_right fun ⟨pass, _, found⟩ => ⟨pass, found⟩)
  rw [State.misaddressed, if_neg notEarly, if_pos takes]

theorem misaddressed_of_other (noRequest : ¬(kind = 0x20 ∧ destination = 0x01))
    (noPass : ¬(kind = 0x05 ∧ (s.ready = false ∨
      ∃ e, stationAt s.tables.stations destination.toNat = some e ∧ e.role.kind ≠ .light))) :
    s.misaddressed destination.toNat kind.toNat = s.countFailure .O .address := by
  have notEarly : ¬(kind.toNat = FrameKind.pass.code ∧ s.ready = false) := by
    rintro ⟨pass, waits⟩
    exact noPass ⟨(kind_iff (by decide)).1 pass, .inl waits⟩
  have notTaken : ¬officeTakes s.tables.stations destination.toNat kind.toNat = true := by
    rw [officeTakes_iff]
    rintro (request | ⟨pass, found⟩)
    · exact noRequest request
    · exact noPass ⟨pass, .inr found⟩
  rw [State.misaddressed, if_neg notEarly, if_neg notTaken]

end

/-- Settles O46: the checks one by one, and the events of a port by what its assembler does and what the bytes read as. -/
theorem lineFailuresAreCounted : Obligations.LineFailuresAreCounted := by
  unfold Obligations.LineFailuresAreCounted
  refine ⟨fun port station content => ⟨fun short => receiveCheck_of_length port station (.inl short),
      fun long => receiveCheck_of_length port station (.inr long), ?checks⟩,
    fun now port s held legal => ⟨fun line drops => ⟨event_dropping _ held drops, event_dropping _ held drops⟩,
      fun listens => ⟨fun line aborted => ?noContent, ⟨_, rfl, ?abort⟩, fun line content c read filled fails => ⟨_, rfl, ?failed⟩,
        fun line none => ?nothing, ?office⟩⟩⟩
  case checks =>
    intro destination source kind seq length rest spelled least most
    refine ⟨receiveCheck_of_count port station spelled least most, fun count =>
      ⟨receiveCheck_of_crc port station spelled least most count, fun good => ?_⟩⟩
    rw [receiveCheck_of_good port station spelled least most count good, ← validDestination_iff]
    refine ⟨?_, fun station => ⟨fun other => ?_, fun own => ?_⟩⟩
    · rintro rfl
      exact ⟨fun valid => by simp [valid], fun invalid => by simp [Bool.eq_false_iff.2 invalid]⟩
    · simp [station, other]
    · have valid : validDestination destination.toNat = true := (validDestination_iff _).2 (.inl own)
      simp [station, own, validDestination]
  case noContent =>
    rw [exec_discard held listens, exec_abort held listens]
    simp only [State.discardBytes, aborted]
  case abort =>
    rw [exec_abort held listens, State.takeAbort, countFailure_setNow, bump_framing (framing_of_legal legal port)]
    cases port <;> rfl
  case failed =>
    rw [exec_discard held listens, discardBytes_failed read filled (by rw [slotStation_setNow]; exact fails), State.failFrame,
      countFailure_setNow]
    cases port <;> rfl
  case nothing =>
    rw [exec_discard held listens, discardBytes_nothing (by rw [slotStation_setNow]; exact none)]
  case office =>
    rintro line rest destination source kind rfl read passes
    have judged := discardBytes_office (s := s.setNow now) read passes
    refine ⟨fun pass waits => ?_, fun taken => ?_, fun noRequest noPass => ?_⟩
    · rw [exec_discard held listens, judged, misaddressed_of_early (s := s.setNow now) pass waits]
    · rw [exec_discard held listens, judged, misaddressed_of_taken (s := s.setNow now) taken]
    · obtain ⟨-, -, ⟨-, -, fits, -⟩, -⟩ := legal
      rw [exec_discard held listens, judged, misaddressed_of_other (s := s.setNow now) noRequest noPass,
        countAddress_setNow now fits]

end Sys2Proof.Proofs
end

section
/-! What reports, mirrors and pages change, hidden: two states that agree in everything else. The statements word this as `ButReports`
and `ButShown`; here both are equalities of states with the same fields blanked, which operations keep or commute with. -/

namespace Sys2Proof.Proofs

open Sys2Proof.Machine Sys2Proof.Claims

/-! ### The two views -/

/-- A state without what the offering of reports and mirrors changes. -/
def unreported (s : State) : State :=
  { s with
    office := .empty
    lineO := { s.lineO with txSeq := 0, shifter := none, ahead := .idle }
    conditions := { s.conditions with reportLost := .clear false } }

/-- A state without what reports, pages and the state of JUMP_HELD change. -/
def unshown (s : State) : State :=
  { unreported s with
    conditions := { s.conditions with reportLost := .clear false, jumpHeld := .clear false }
    dsp := .fresh
    lsc := { s.lsc with segS := { s.lsc.segS with queue := [] } } }

theorem lineUnit_of_same {a b : LineUnit} (counters : a.counters = b.counters) (dropping : a.dropping = b.dropping) :
    a = { b with txSeq := a.txSeq, shifter := a.shifter, ahead := a.ahead } := by
  cases a
  cases b
  simp_all

theorem conditions_of_same {a b : Conditions}
    (h : ({ a with reportLost := .clear false } : Conditions) = { b with reportLost := .clear false }) :
    a = { b with reportLost := a.reportLost } := by
  cases a
  cases b
  simpa using h

theorem conditions_of_same_shown {a b : Conditions}
    (h : ({ a with reportLost := .clear false, jumpHeld := .clear false } : Conditions) =
      { b with reportLost := .clear false, jumpHeld := .clear false }) :
    a = { b with reportLost := a.reportLost, jumpHeld := a.jumpHeld } := by
  cases a
  cases b
  simpa using h

theorem scheduler_of_same {a b : Scheduler}
    (h : ({ a with segS := { a.segS with queue := [] } } : Scheduler) = { b with segS := { b.segS with queue := [] } }) :
    a = { b with segS := { b.segS with queue := a.segS.queue } } := by
  obtain ⟨_, _, ⟨_, _, _, _⟩, _, _⟩ := a
  obtain ⟨_, _, ⟨_, _, _, _⟩, _, _⟩ := b
  simpa using h

theorem butReports_iff {u t : State} : ButReports u t ↔ unreported t = unreported u := by
  constructor
  · intro h
    rw [h]
    rfl
  · intro h
    have same {α : Type} (f : State → α) : f (unreported t) = f (unreported u) := congrArg f h
    exact State.ext_fields (same (·.pending)) (same (·.heldInReset)) (same (·.ready)) (same (·.lastReset))
      (same (·.takenReset)) (same (·.lineT)) (same (·.lineS))
      (lineUnit_of_same (same (·.lineO.counters)) (same (·.lineO.dropping))) (same (·.lsc)) (same (·.tables)) (same (·.hck))
      (same (·.wnd)) (same (·.stu)) (same (·.flu)) (same (·.jtb)) (same (·.startList)) (same (·.results))
      (same (·.competition)) (same (·.dsp)) (conditions_of_same (same (·.conditions))) (same (·.enables)) rfl
      (same (·.snapshot)) (same (·.loadBuffer)) (same (·.engine)) (same (·.store))

theorem butShown_iff {u t : State} : ButShown u t ↔ unshown t = unshown u := by
  constructor
  · intro h
    rw [h]
    rfl
  · intro h
    have same {α : Type} (f : State → α) : f (unshown t) = f (unshown u) := congrArg f h
    exact State.ext_fields (same (·.pending)) (same (·.heldInReset)) (same (·.ready)) (same (·.lastReset))
      (same (·.takenReset)) (same (·.lineT)) (same (·.lineS))
      (lineUnit_of_same (same (·.lineO.counters)) (same (·.lineO.dropping))) (scheduler_of_same (same (·.lsc)))
      (same (·.tables)) (same (·.hck)) (same (·.wnd)) (same (·.stu)) (same (·.flu)) (same (·.jtb)) (same (·.startList))
      (same (·.results)) (same (·.competition)) rfl (conditions_of_same_shown (same (·.conditions))) (same (·.enables)) rfl
      (same (·.snapshot)) (same (·.loadBuffer)) (same (·.engine)) (same (·.store))

theorem butReports_refl (u : State) : ButReports u u := rfl

theorem butReports_trans {u v t : State} (h : ButReports u v) (h' : ButReports v t) : ButReports u t :=
  butReports_iff.2 ((butReports_iff.1 h').trans (butReports_iff.1 h))

theorem butShown_refl (u : State) : ButShown u u := rfl

theorem butShown_trans {u v t : State} (h : ButShown u v) (h' : ButShown v t) : ButShown u t :=
  butShown_iff.2 ((butShown_iff.1 h').trans (butShown_iff.1 h))

theorem unshown_of_unreported {u t : State} (h : unreported t = unreported u) : unshown t = unshown u := by
  have shown : ∀ s, unshown s = unshown (unreported s) := fun _ => rfl
  rw [shown t, h, ← shown u]

theorem butShown_of_reports {u t : State} (h : ButReports u t) : ButShown u t :=
  butShown_iff.2 (unshown_of_unreported (butReports_iff.1 h))

/-- A change of what is not hidden acts on both states. -/
theorem butShown_map {u t : State} (f : State → State) (h : ButShown u t) (commutes : ∀ s, unshown (f s) = unshown (f (unshown s))) :
    ButShown (f u) (f t) :=
  butShown_iff.2 (by rw [commutes t, commutes u, butShown_iff.1 h])

theorem butReports_map {u t : State} (f : State → State) (h : ButReports u t)
    (commutes : ∀ s, unreported (f s) = unreported (f (unreported s))) : ButReports (f u) (f t) :=
  butReports_iff.2 (by rw [commutes t, commutes u, butReports_iff.1 h])

/-- What is not hidden is the same in both states. -/
theorem butReports_same {α : Type} {u t : State} (f : State → α) (h : ButReports u t) (seen : ∀ s, f s = f (unreported s)) :
    f t = f u := by
  rw [seen t, butReports_iff.1 h, ← seen u]

theorem butShown_same {α : Type} {u t : State} (f : State → α) (h : ButShown u t) (seen : ∀ s, f s = f (unshown s)) :
    f t = f u := by
  rw [seen t, butShown_iff.1 h, ← seen u]

/-! ### What only reports -/

theorem pumpOffice_butReports (s : State) : ButReports s s.pumpOffice := by
  unfold State.pumpOffice
  split
  · exact butReports_refl s
  · split
    · rfl
    · split
      · rfl
      · split
        · rfl
        · exact butReports_refl s

theorem offerReport_butReports (s : State) (r : Report) : ButReports s (s.offerReport r) := by
  obtain ⟨lost, o, h⟩ := s.offerReport_touches r
  rw [h]
  rfl

theorem reportJump_butReports (s : State) (r : Report) : ButReports s (s.reportJump r) := by
  obtain ⟨lost, o, h⟩ := s.reportJump_touches r
  rw [h]
  rfl

theorem reportResult_butReports (s : State) (r : Report) : ButReports s (s.reportResult r) := by
  obtain ⟨lost, o, h⟩ := s.reportResult_touches r
  rw [h]
  rfl

theorem reportRecord_butReports (s : State) (k : Fin 4) (reason : JumpReason) : ButReports s (s.reportRecord k reason) := by
  obtain ⟨lost, o, h⟩ := s.reportRecord_touches k reason
  rw [h]
  rfl

theorem fillPlace_butReports (seq code : Byte) (a : Answer) : ButReports a.state (State.fillPlace seq code a) := rfl

theorem offerMirror_butReports (s : State) (m : Mirror) : ButReports s (s.offerMirror m) := by
  unfold State.offerMirror
  split
  · rfl
  · exact butReports_refl s

/-! ### What only reports and shows -/

theorem updateHeld_butShown (s : State) : ButShown s s.updateHeld := by
  obtain ⟨held, lost, o, h⟩ := s.updateHeld_touches
  rw [h]
  rfl

theorem display_butShown (s : State) (d : Display) : ButShown s { s with dsp := d } := rfl

theorem sendPage_butShown (s : State) (kind : PageKind) : ButShown s (s.sendPage kind) := by
  rw [sendPage_eq]
  rfl

theorem sendCountdown_butShown (s : State) (seconds : Nat) : ButShown s (s.sendCountdown seconds) :=
  butShown_trans (display_butShown s _) (sendPage_butShown _ _)

theorem sendLeaders_butShown (s : State) : ButShown s s.sendLeaders := butShown_trans (display_butShown s _) (sendPage_butShown _ _)

theorem sendResult_butShown (s : State) (e : ResultEntry) : ButShown s (s.sendResult e) :=
  butShown_trans (display_butShown s _) (sendPage_butShown _ _)

theorem sendCurrent_butShown (s : State) (k : Fin 4) : ButShown s (s.sendCurrent k) := by
  unfold State.sendCurrent
  split
  · exact butShown_refl s
  · exact butShown_trans (display_butShown s _) (sendPage_butShown _ _)

theorem emptyCurrent_butShown (s : State) (bib : Nat) : ButShown s (s.emptyCurrent bib) := by
  unfold State.emptyCurrent
  split
  · exact butShown_trans (display_butShown s _) (sendPage_butShown _ _)
  · exact butShown_refl s

/-! ### What a request and an event end with -/

/-- An accepted request: its answer is given, its reports reported, and only what reports change differs. -/
theorem request_accepted {now : Time} {seq code : Byte} {body : State → Answer} {s u : State} {results : Results}
    (listens : Listens s) (answers : body (s.asked now) = accept results u) :
    ∃ t, request now seq code body s = .next t ∧ Answered t seq code results ∧ ButReports u t ∧ t.dsp = u.dsp ∧
      t.conditions = u.conditions ∧ t.lsc = u.lsc ∧ ∀ r ∈ u.office.reports, Reported t r := by
  refine ⟨(State.fillPlace seq code (accept results u)).pumpOffice, ?_, ?_, ?_, ?_, ?_, ?_, fun r waits => ?_⟩
  · rw [request_of_listens now seq code body listens, answers]
  · exact State.pumpOffice_reply _ _ (by simp [State.fillPlace, accept])
  · exact butReports_trans (fillPlace_butReports seq code _) (pumpOffice_butReports _)
  · rw [State.pumpOffice_dsp]; rfl
  · rw [State.pumpOffice_conditions]; rfl
  · rw [State.pumpOffice_lsc]; rfl
  · exact State.pumpOffice_report _ _ waits

/-- An event outside reset: its reports are reported, and only what reports change differs from what its body leaves. -/
theorem event_taken {now : Time} {body : State → State} {s u : State} (held : s.heldInReset = false)
    (taken : body (s.setNow now) = u) :
    ∃ t, event now body s = .next t ∧ ButReports u t ∧ t.dsp = u.dsp ∧ t.conditions = u.conditions ∧ t.lsc = u.lsc ∧
      ∀ r ∈ u.office.reports, Reported t r := by
  refine ⟨u.pumpOffice, ?_, pumpOffice_butReports u, u.pumpOffice_dsp, u.pumpOffice_conditions, u.pumpOffice_lsc,
    fun r => State.pumpOffice_report u r⟩
  rw [event_outside_reset _ _ _ held, taken]

/-- The place that a request takes counts at most one (R183). -/
theorem asked_count (now : Time) (s : State) : (s.asked now).office.count ≤ s.office.count + 1 := by
  unfold State.asked OfficeQueue.count
  simp only [Bool.toNat_true]
  omega

end Sys2Proof.Proofs
end

section
/-! STORE and its completion (R197). -/

namespace Sys2Proof.Proofs

open Sys2Proof.Machine Sys2Proof.Claims

/-- STORE's own rule refuses while a store is in flight. -/
theorem storeSettings_eq_judged {s : State} {o : Option Status} (first : FirstOf [(s.engine ≠ none, .busy)] o) :
    storeSettings s = judged o .nothing s { s with engine := some ⟨s.storedItems, s.now⟩ } := by
  refine ite_refuse_judged first Option.isSome_iff_ne_none fun _ first => ?_
  exact accept_eq_judged first

theorem storePassed_iff (x : StoreOutcome) : storePassed x = true ↔ x = ⟨true, true, true, true, true, true⟩ := by
  obtain ⟨_, _, _, _, _, _⟩ := x
  simp [storePassed, and_assoc]

/-- What a completed store leaves before the office is pumped. -/
def storeWritten (x : StoreOutcome) (job : StoreJob) (s : State) : State :=
  State.setV .storeBad (!storePassed x)
    (State.raise .storeResult (if storePassed x then 0 else 1)
      { s with engine := none, store := writtenStore job.items x })

theorem completeStore_of_job {s : State} {job : StoreJob} (x : StoreOutcome) (inFlight : s.engine = some job)
    (inTime : (s.now - job.accepted).toNat ≤ 4000) : s.completeStore x = storeWritten x job s := by
  simp only [State.completeStore, inFlight]
  exact if_pos inTime

/-- A completed store touches the two conditions of it, REPORT_LOST and the office queue besides. -/
theorem storeWritten_touches (x : StoreOutcome) (job : StoreJob) (s : State) :
    ∃ bad result lost o, storeWritten x job s =
      { s with
        engine := none
        store := writtenStore job.items x
        conditions := { s.conditions with storeBad := bad, storeResult := result, reportLost := lost }
        office := o } := by
  obtain ⟨result, lost, o, raised⟩ := State.raise_touches
    { s with engine := none, store := writtenStore job.items x } .storeResult (if storePassed x then 0 else 1)
  obtain ⟨bad, lost', o', set⟩ := State.setV_touches (State.raise .storeResult (if storePassed x then 0 else 1)
    { s with engine := none, store := writtenStore job.items x }) .storeBad (!storePassed x)
  refine ⟨bad, result, lost', o', ?_⟩
  rw [storeWritten, set, raised]
  rfl

theorem storeWritten_bad (x : StoreOutcome) (job : StoreJob) (s : State) :
    (storeWritten x job s).conditions.storeBad.v = !storePassed x :=
  State.setV_value _ .storeBad _ (by decide)

theorem storeWritten_result (x : StoreOutcome) (job : StoreJob) (s : State) :
    (storeWritten x job s).conditions.storeResult.i = true ∧
      (s.conditions.storeResult.i = false →
        (storeWritten x job s).conditions.storeResult.argument = if storePassed x then 0 else 1) := by
  have kept : (storeWritten x job s).conditions.storeResult =
      (State.raise .storeResult (if storePassed x then 0 else 1)
        { s with engine := none, store := writtenStore job.items x }).conditions.storeResult := by
    obtain ⟨bad, lost, o, set⟩ := State.setV_touches (State.raise .storeResult (if storePassed x then 0 else 1)
      { s with engine := none, store := writtenStore job.items x }) .storeBad (!storePassed x)
    rw [storeWritten, set]
    rfl
  rw [kept]
  exact State.raise_indicates _ .storeResult _ (by decide)

/-- Settles O41: the copy is the six items; its completion writes each item by its outcome, and STORE_BAD and STORE_RESULT say
whether all six passed. -/
theorem storeWritesItems : Obligations.StoreWritesItems := by
  unfold Obligations.StoreWritesItems
  refine ⟨fun now seq s o listens first => ?copies, fun now x s job held inFlight inTime => ?completes⟩
  case copies => exact request_answered listens (storeSettings_eq_judged (s := s.asked now) first)
  case completes =>
    obtain ⟨t, exec_eq, same, -, conditions, -, -⟩ := event_taken (now := now) (body := State.completeStore x) held
      (completeStore_of_job (s := s.setNow now) x inFlight inTime)
    have store : t.store = (storeWritten x job (s.setNow now)).store := butReports_same State.store same fun _ => rfl
    obtain ⟨bad, result, lost, o, touched⟩ := storeWritten_touches x job (s.setNow now)
    obtain ⟨indicated, argument⟩ := storeWritten_result x job (s.setNow now)
    have value := storeWritten_bad x job (s.setNow now)
    rw [← conditions] at indicated argument value
    refine ⟨t, exec_eq, ?_, fun passed => ⟨?_, fun unset => ?_⟩, fun failed => ⟨?_, fun unset => ?_⟩, indicated, ?_⟩
    · rw [store, touched]
      rfl
    · rw [value, (storePassed_iff x).2 passed, Bool.not_true]
    · rw [argument unset, if_pos ((storePassed_iff x).2 passed)]
    · rw [value, Bool.eq_false_iff.2 (mt (storePassed_iff x).1 failed), Bool.not_false]
    · rw [argument unset, if_neg (mt (storePassed_iff x).1 failed)]
    · refine butReports_trans ?_ same
      rw [conditions, store, touched]
      rfl

end Sys2Proof.Proofs
end

section
/-! What every reset leaves (Table 12-5). -/

namespace Sys2Proof.Proofs

open Sys2Proof.Machine Sys2Proof.Claims

/-! ### The WIND entries of a table and the contexts begun for them -/

theorem mem_windPlaces {stations : List StationEntry} {w : WindPlace} :
    w ∈ windPlaces stations ↔ ∃ e ∈ stations, e.role = .wind w := by
  rw [windPlaces, List.mem_filterMap]
  refine exists_congr fun e => and_congr_right fun _ => ?_
  cases e.role <;> simp

theorem windPlaceOf_mem {stations : List StationEntry} {index : Nat} {w : WindPlace}
    (found : windPlaceOf stations index = some w) : w ∈ windPlaces stations ∧ w.index = index := by
  obtain ⟨e, listed, role⟩ := List.exists_of_findSome?_eq_some found
  split at role
  · next x wind =>
    split at role
    · next same =>
      cases role
      exact ⟨mem_windPlaces.2 ⟨e, listed, wind⟩, same⟩
    · cases role
  · cases role

theorem insertContext_perm (c : WindContext) (l : List WindContext) : (insertContext c l).Perm (c :: l) := by
  induction l with
  | nil => exact .refl _
  | cons x rest ih =>
    unfold insertContext
    split
    · exact .refl _
    · exact (ih.cons x).trans (.swap c x rest)

theorem insertContext_ordered {l : List WindContext} (c : WindContext) (ordered : (l.map (·.index)).Pairwise (· ≤ ·)) :
    ((insertContext c l).map (·.index)).Pairwise (· ≤ ·) := by
  rw [List.pairwise_map] at ordered ⊢
  induction l with
  | nil => exact List.pairwise_singleton _ _
  | cons x rest ih =>
    obtain ⟨least, later⟩ := List.pairwise_cons.1 ordered
    unfold insertContext
    split
    · next below =>
      refine List.pairwise_cons.2 ⟨fun y listed => ?_, ordered⟩
      rcases List.mem_cons.1 listed with rfl | listed
      · exact below.le
      · exact below.le.trans (least y listed)
    · next above =>
      refine List.pairwise_cons.2 ⟨fun y listed => ?_, ih later⟩
      rcases mem_insertContext.1 listed with rfl | listed
      · exact Nat.not_lt.1 above
      · exact least y listed

theorem freshContexts_indices (stations : List StationEntry) :
    ((freshContexts stations).map (·.index)).Perm ((windPlaces stations).map (·.index)) := by
  unfold freshContexts
  induction windPlaces stations with
  | nil => exact .refl _
  | cons w rest ih => exact ((insertContext_perm _ _).map _).trans (ih.cons w.index)

theorem freshContexts_ordered (stations : List StationEntry) :
    ((freshContexts stations).map (·.index)).Pairwise (· ≤ ·) := by
  unfold freshContexts
  induction windPlaces stations with
  | nil => exact .nil
  | cons w rest ih => exact insertContext_ordered _ ih

theorem freshMeans_unset {stations : List StationEntry} {m : Nat × Option Int} (listed : m ∈ freshMeans stations) :
    m.2 = none ∧ ∃ w ∈ windPlaces stations, w.index = m.1 ∧ w.startWindow = true := by
  obtain ⟨c, filtered, rfl⟩ := List.mem_map.1 listed
  obtain ⟨-, starts⟩ := List.mem_filter.1 filtered
  obtain ⟨w, found, starts⟩ := (Option.any_eq_true ..).1 starts
  obtain ⟨stands, same⟩ := windPlaceOf_mem found
  exact ⟨rfl, w, stands, same, starts⟩

theorem mem_freshMeans {stations : List StationEntry} {w : WindPlace} (found : windPlaceOf stations w.index = some w)
    (starts : w.startWindow = true) : (w.index, none) ∈ freshMeans stations := by
  have begun : WindContext.begin w.index w.bearing ∈ freshContexts stations :=
    mem_freshContexts.2 ⟨w, (windPlaceOf_mem found).1, rfl⟩
  refine List.mem_map.2 ⟨_, List.mem_filter.2 ⟨begun, ?_⟩, rfl⟩
  simp [inStartWindow, WindContext.begin, found, starts]

/-! ### The settings store as a reset reads it -/

theorem takenFrom_read {α : Type} (item : StoreItem α) (empty : α) : TakenFrom item empty (item.read empty) := by
  cases item <;> simp [TakenFrom, StoreItem.read]

theorem matched_iff {α : Type} (item : StoreItem α) : item.matched = true ↔ ∃ a, item = .stored a := by
  cases item <;> simp [StoreItem.matched]

/-- The read of a store finds it bad unless each item is stored and passes its check (R198). -/
theorem store_bad_iff (x : SettingsStore) : x.bad = true ↔ ¬AllStored x := by
  simp only [SettingsStore.bad, AllStored, Bool.not_eq_true', ← Bool.not_eq_true, Bool.and_eq_true, matched_iff, and_assoc]

/-! ### The units -/

/-- No condition is indicated after a reset. -/
theorem afterReset_quiet (bad : Bool) (c : CondName) :
    ((Conditions.afterReset bad).get c).i = false ∧ ((Conditions.afterReset bad).get c).argument = 0 := by
  cases c <;> exact ⟨rfl, rfl⟩

theorem afterReset_units (kind : ResetKind) (s : State) : UnitsReset s (s.afterReset kind) :=
  ⟨rfl, rfl, rfl, rfl, rfl, rfl, rfl, rfl, rfl, rfl, rfl, fun _ => freshMeans_unset, fun _ => mem_freshMeans,
    freshContexts_indices _, freshContexts_ordered _, fun _ => mem_freshContexts.1, rfl, rfl, rfl, rfl, rfl, rfl, rfl,
    store_bad_iff s.store, rfl, rfl, rfl, rfl, afterReset_quiet s.store.bad⟩

/-- After a reset that keeps nothing of the competition the store is active. -/
theorem afterReset_store {kind : ResetKind} (clears : kind ≠ .keep) (s : State) : StoreActive s (s.afterReset kind) := by
  have all : (s.afterReset kind).enables = s.store.enables.read .all ∧
      (s.afterReset kind).tables.stations = s.store.stations.read [] ∧
      (s.afterReset kind).tables.hill = s.store.hill.read .defaults ∧
      (s.afterReset kind).tables.distance = s.store.distance.read [] := by
    cases kind with
    | keep => exact absurd rfl clears
    | powerOn => exact ⟨rfl, rfl, rfl, rfl⟩
    | clear => exact ⟨rfl, rfl, rfl, rfl⟩
  obtain ⟨enables, stations, hill, distance⟩ := all
  rw [StoreActive, enables, stations, hill, distance]
  exact ⟨takenFrom_read .., takenFrom_read .., takenFrom_read .., takenFrom_read .., takenFrom_read .., takenFrom_read ..⟩

/-- A reset that keeps nothing leaves STU as a power-on does (R121). -/
theorem afterReset_stu {kind : ResetKind} (clears : kind ≠ .keep) (s : State) :
    (s.afterReset kind).stu = startUnitAtPowerOn (s.afterReset kind).tables.hill := by
  cases kind with
  | keep => exact absurd rfl clears
  | powerOn => rfl
  | clear => rfl

/-! ### The reset pin -/

theorem cutItem_cutAt {α : Type} (place written : Nat) (mid : Bool) (copy : α) (old : StoreItem α) :
    CutAt place written mid copy old (cutItem place written mid copy old) := by
  unfold CutAt cutItem
  refine ⟨fun before => if_pos before, ?_, fun behind => ?_⟩
  · rintro rfl
    cases mid <;> simp
  · rw [if_neg (Nat.lt_asymm behind), if_neg fun at_ => Nat.ne_of_gt behind at_.1]

theorem pinLow_cut {s : State} {job : StoreJob} (n : Nat) (mid : Bool) (inFlight : s.engine = some job) :
    (s.pinLow n mid).store = cutStore n mid job.items s.store := by
  simp only [State.pinLow, inFlight]

theorem pinLow_uncut {s : State} (n : Nat) (mid : Bool) (idle : s.engine = none) : (s.pinLow n mid).store = s.store := by
  simp only [State.pinLow, idle]

/-- Settles O43: the cut by the place of each item, held commands by the kind of command, and the release by Table 12-5. -/
theorem powerOnResets : Obligations.PowerOnResets := by
  unfold Obligations.PowerOnResets
  refine ⟨fun n mid s => ⟨s.pinLow n.val mid, rfl, rfl, rfl, rfl, rfl, rfl, rfl, rfl, rfl, rfl, pinLow_uncut _ _,
      fun job inFlight => ?cut⟩, fun c s held released low => ?held,
    fun s => ⟨s.afterReset .powerOn, rfl, afterReset_units _ _, afterReset_store (by decide) _, rfl, rfl, rfl, rfl, rfl,
      afterReset_stu (by decide) _⟩⟩
  case cut =>
    rw [pinLow_cut _ _ inFlight]
    exact ⟨cutItem_cutAt .., cutItem_cutAt .., cutItem_cutAt .., cutItem_cutAt .., cutItem_cutAt .., cutItem_cutAt ..⟩
  case held =>
    cases c with
    | powerOnReset => exact absurd rfl released
    | resetPinDrivenLow n mid => exact absurd rfl (low n mid)
    | loadData now seq offset data =>
      rw [exec, execLoadData]
      split
      · exact event_held _ _ _ held
      · exact event_held _ _ _ held
    | _ => exact if_pos held

end Sys2Proof.Proofs
end

section
/-! RESET and its effect (R49, R199). -/

namespace Sys2Proof.Proofs

open Sys2Proof.Machine Sys2Proof.Claims

/-! ### The order of the bibs that return -/

/-- The records of a table, oldest clear time first. -/
def returningRecords (t : JumpTable) : List JumpRecord := (t.records.map (·.2)).foldl (fun l r => insertByClear r l) []

theorem returning_eq (t : JumpTable) : t.returning = (returningRecords t).map (·.bib) := rfl

theorem returningRecords_perm (t : JumpTable) : (returningRecords t).Perm (t.records.map (·.2)) := by
  simpa [returningRecords] using insertByClear_foldl_perm (t.records.map (·.2)) []

/-- How long after a base a record was cleared. -/
def sinceClear (base : Time) (r : JumpRecord) : Nat := (r.clearTime - base).toNat

/-- Clear times within half the range of hill time are ordered as their distances from the base. -/
theorem clearedBefore_iff {base : Time} {a b : JumpRecord} (nearA : sinceClear base a < 2147483648)
    (nearB : sinceClear base b < 2147483648) :
    a.clearedBefore b = true ↔ sinceClear base a < sinceClear base b := by
  unfold sinceClear at *
  unfold JumpRecord.clearedBefore
  split
  · simp only [laterThan, decide_eq_true_eq]
    bv_omega
  · simp only [earlierThan, atOrAfter, laterThan, Bool.not_eq_true', Bool.or_eq_false_iff, decide_eq_false_iff_not]
    bv_omega

section
variable {base : Time}

theorem insertByClear_ordered {r : JumpRecord} {l : List JumpRecord} (near : ∀ x ∈ r :: l, sinceClear base x < 2147483648)
    (apart : ∀ x ∈ l, r.clearTime ≠ x.clearTime) (ordered : l.Pairwise fun a b => sinceClear base a < sinceClear base b) :
    (insertByClear r l).Pairwise fun a b => sinceClear base a < sinceClear base b := by
  induction l with
  | nil => exact List.pairwise_singleton _ _
  | cons x rest ih =>
    obtain ⟨least, later⟩ := List.pairwise_cons.1 ordered
    have before := clearedBefore_iff (near r (by simp)) (near x (by simp))
    unfold insertByClear
    split
    · next first =>
      refine List.pairwise_cons.2 ⟨fun y listed => ?_, ordered⟩
      rcases List.mem_cons.1 listed with rfl | listed
      · exact before.1 first
      · exact (before.1 first).trans (least y listed)
    · next second =>
      have ahead : sinceClear base x < sinceClear base r := by
        have distinct : sinceClear base x ≠ sinceClear base r := by
          have := apart x (by simp)
          unfold sinceClear
          bv_omega
        have := mt before.2 second
        omega
      refine List.pairwise_cons.2 ⟨fun y listed => ?_,
        ih (fun y listed => near y (by simp at listed ⊢; tauto)) (fun y listed => apart y (by simp [listed])) later⟩
      rcases List.mem_cons.1 ((insertByClear_perm r rest).mem_iff.1 listed) with rfl | listed
      · exact ahead
      · exact least y listed

theorem foldl_insertByClear_ordered (l : List JumpRecord) {m : List JumpRecord}
    (near : ∀ x ∈ l ++ m, sinceClear base x < 2147483648) (apart : ((l ++ m).map (·.clearTime)).Nodup)
    (ordered : m.Pairwise fun a b => sinceClear base a < sinceClear base b) :
    (l.foldl (fun l r => insertByClear r l) m).Pairwise fun a b => sinceClear base a < sinceClear base b := by
  induction l generalizing m with
  | nil => exact ordered
  | cons r rest ih =>
    have perm : (rest ++ insertByClear r m).Perm (r :: rest ++ m) :=
      ((insertByClear_perm r m).append_left rest).trans List.perm_middle
    refine ih (fun x listed => near x (perm.mem_iff.1 listed)) ((perm.map _).nodup_iff.2 apart)
      (insertByClear_ordered (fun x listed => near x ?_) (fun x listed same => ?_) ordered)
    · simp at listed ⊢
      tauto
    · refine (List.nodup_cons.1 apart).1 ?_
      exact List.mem_map.2 ⟨x, List.mem_append_right _ listed, same.symm⟩

end

theorem returningRecords_ordered {t : JumpTable} {base : Time}
    (near : ∀ r ∈ returningRecords t, sinceClear base r < 2147483648) (apart : ((returningRecords t).map (·.clearTime)).Nodup) :
    (returningRecords t).Pairwise fun a b => sinceClear base a < sinceClear base b := by
  have perm := returningRecords_perm t
  refine foldl_insertByClear_ordered _ (fun x listed => near x ?_) ?_ .nil
  · rw [List.append_nil] at listed
    exact perm.mem_iff.2 listed
  · rw [List.append_nil]
    exact (perm.map _).nodup_iff.1 apart

/-- Of two records the one created first stands first when the other's clear time is later (R31). -/
theorem returning_of_two {t : JumpTable} {a b : JumpRecord} (two : (t.records.map (·.2)).Perm [a, b]) (serial : a.serial < b.serial)
    (later : laterThan b.clearTime a.clearTime = true) : t.returning = [a.bib, b.bib] := by
  have first : a.clearedBefore b = true := (if_pos serial).trans later
  have second : b.clearedBefore a = false := by
    rw [JumpRecord.clearedBefore, if_neg (Nat.lt_asymm serial), earlierThan, atOrAfter, later, Bool.or_true, Bool.not_true]
  rw [returning_eq, returningRecords]
  rcases List.perm_pair.1 two with same | same
  · rw [same]
    simp [insertByClear, second]
  · rw [same]
    simp [insertByClear, first]

/-! ### RESET -/

/-- A taken reset that has no reply sent, or finds a store in flight, waits. -/
theorem takeReset_waits {s : State} {x : TakenReset} (taken : s.takenReset = some x)
    (waits : x.replySent = false ∨ s.engine ≠ none) : s.takeReset = s := by
  unfold State.takeReset
  rw [taken]
  rcases waits with unsent | busy
  · split
    · next h _ =>
      cases h
      rw [unsent, if_neg (by decide)]
    · rfl
  · split
    · next idle => exact absurd idle busy
    · rfl

theorem takeReset_takes {s : State} {clear : Bool} (taken : s.takenReset = some ⟨clear, true⟩) (idle : s.engine = none) :
    s.takeReset = s.afterReset (if clear then .clear else .keep) := by
  unfold State.takeReset
  rw [taken, idle]
  exact if_pos rfl

/-- The tables that a RESET(KEEP) leaves: in an open round STATIONS, HILL and DISTANCE as they are, otherwise as stored. -/
theorem tablesAfter_keep (s : State) :
    (RoundOpen s →
      (s.tablesAfter .keep).stations = s.tables.stations ∧ (s.tablesAfter .keep).hill = s.tables.hill ∧
        (s.tablesAfter .keep).distance = s.tables.distance) ∧
      (¬RoundOpen s →
        TakenFrom s.store.stations [] (s.tablesAfter .keep).stations ∧
          TakenFrom s.store.hill .defaults (s.tablesAfter .keep).hill ∧
          TakenFrom s.store.distance [] (s.tablesAfter .keep).distance) := by
  constructor
  · intro round
    simp [State.tablesAfter, (isOpen_iff_roundOpen s).2 round]
  · intro closed
    have shut : s.competition.isOpen = false := Bool.eq_false_iff.2 (mt (isOpen_iff_roundOpen s).1 closed)
    simp only [State.tablesAfter, shut, Bool.and_false, Bool.false_eq_true, if_false]
    exact ⟨takenFrom_read .., takenFrom_read .., takenFrom_read ..⟩

/-- The lamp with no record: RED in an open round, and OFF otherwise (R119). -/
theorem derivedLamp_empty (x : CompState) (flashing : Bool) :
    derivedLamp x .empty flashing = if x = .r1Open ∨ x = .r2Open then .red else .off := by
  cases x <;> rfl

theorem afterReset_keep_stu (s : State) :
    (s.afterReset .keep).stu =
      { gate := none, candidate := none, candidateCount := 0, coachRequest := none
        pendingReference := s.stu.pendingReference, roundReference := s.stu.roundReference
        referenceFixed := s.stu.referenceFixed, windGate := s.stu.windGate, lastLiveWind := none
        windWait := none, greenFlash := none, greenExpiry := none, flashing := false
        lamp := if s.competition = .r1Open ∨ s.competition = .r2Open then .red else .off, echoRun := 0 } := by
  rw [← derivedLamp_empty s.competition false]
  rfl

/-- Settles O42: RESET by its kind; its effect by what it waits for, and the bibs that return in the order that clearing gives. -/
theorem resetTakesEffect : Obligations.ResetTakesEffect := by
  unfold Obligations.ResetTakesEffect
  refine ⟨fun now seq kind s listens => ⟨fun keep => ?keep, fun clear => ?clear, fun other => ?other⟩,
    fun now s held => ⟨fun x taken waits => ?waits, fun idle taken => ?keeps, fun idle taken => ?clears⟩⟩
  case keep => exact request_replied listens (u := { s with takenReset := some ⟨false, false⟩ }) (by simp [resetPart, keep]; rfl)
  case clear => exact request_replied listens (u := { s with takenReset := some ⟨true, false⟩ }) (by simp [resetPart, clear]; rfl)
  case other =>
    refine request_refused listens ?_
    unfold resetPart
    split <;> first | rfl | omega
  case waits =>
    exact (event_outside_reset _ _ _ held).trans (by rw [takeReset_waits (s := s.setNow now) taken waits])
  case keeps =>
    obtain ⟨round, closed⟩ := tablesAfter_keep s
    refine ⟨s.afterReset .keep, ?_, afterReset_units _ _, rfl, rfl, rfl, rfl, rfl, afterReset_keep_stu s,
      ⟨returningRecords s.jtb, returningRecords_perm _, rfl, fun base => returningRecords_ordered⟩,
      fun a b two serial later => ?_, takenFrom_read .., takenFrom_read .., round, closed⟩
    · exact (event_outside_reset _ _ _ held).trans (by rw [takeReset_takes (s := s.setNow now) taken idle]; rfl)
    · rw [show (s.afterReset .keep).startList = s.jtb.returning ++ s.startList from rfl, returning_of_two two serial later]
      rfl
  case clears =>
    refine ⟨s.afterReset .clear, ?_, afterReset_units _ _, afterReset_store (by decide) s, rfl, rfl, rfl, rfl, rfl,
      afterReset_stu (by decide) s⟩
    exact (event_outside_reset _ _ _ held).trans (by rw [takeReset_takes (s := s.setNow now) taken idle]; rfl)

end Sys2Proof.Proofs
end

section
/-! READY (R178, R190). -/

namespace Sys2Proof.Proofs

open Sys2Proof.Machine Sys2Proof.Claims

/-! ### The indications of the raised state conditions -/

/-- A condition once READY has indicated the raised state conditions. -/
def indicated (c : CondName) (x : Condition) : Condition := if c.isState && x.v then { x with i := true } else x

theorem indicated_v (c : CondName) (x : Condition) : (indicated c x).v = x.v := by
  unfold indicated
  split <;> rfl

theorem indicated_i (c : CondName) (x : Condition) :
    (indicated c x).i = true ↔ x.i = true ∨ (c.isState = true ∧ x.v = true) := by
  unfold indicated
  split <;> simp_all

theorem indicate_eq (s : State) (c : CondName) :
    (if c.isState && (s.conditions.get c).v then s.setCondition c { s.conditions.get c with i := true } else s) =
      s.setCondition c (indicated c (s.conditions.get c)) := by
  unfold indicated
  split
  · rfl
  · exact (setCondition_same s c).symm

theorem indicateStates_eq (s : State) :
    s.indicateStates = CondName.all.foldl (fun s c => s.setCondition c (indicated c (s.conditions.get c))) s := by
  simp only [State.indicateStates, indicate_eq]

theorem indicate_foldl (l : List CondName) (once : l.Nodup) (s : State) :
    ∃ cs, l.foldl (fun s c => s.setCondition c (indicated c (s.conditions.get c))) s = { s with conditions := cs } ∧
      ∀ d, cs.get d = if d ∈ l then indicated d (s.conditions.get d) else s.conditions.get d := by
  induction l generalizing s with
  | nil => exact ⟨s.conditions, rfl, fun d => (if_neg (List.not_mem_nil)).symm⟩
  | cons c rest ih =>
    obtain ⟨new, once⟩ := List.nodup_cons.1 once
    obtain ⟨cs, same, values⟩ := ih once (s.setCondition c (indicated c (s.conditions.get c)))
    refine ⟨cs, same, fun d => ?_⟩
    rw [values d]
    by_cases own : d = c
    · subst own
      rw [if_neg new, if_pos List.mem_cons_self, setCondition_get]
    · rw [setCondition_get_other _ _ own]
      simp [own]

theorem mem_all (c : CondName) : c ∈ CondName.all := by
  cases c <;> decide

/-- Only the indications change, each by its own condition (R178). -/
theorem indicateStates_spec (s : State) :
    ∃ cs, s.indicateStates = { s with conditions := cs } ∧ ∀ d, cs.get d = indicated d (s.conditions.get d) := by
  obtain ⟨cs, same, values⟩ := indicate_foldl CondName.all (by decide) s
  exact ⟨cs, (indicateStates_eq s).trans same, fun d => (values d).trans (if_pos (mem_all d))⟩

/-! ### The reports of the indicated conditions -/

/-- The CONDITION reports that READY offers for some conditions. -/
def indicatedReports (s : State) (l : List CondName) : List Report :=
  (l.filter fun c => (s.conditions.get c).i && (s.ready && s.enables.of c && s.enables.condition)).map fun c =>
    .condition c.number (s.conditions.get c).v (s.conditions.get c).argument

theorem offerIndicated_foldl (l : List CondName) (s : State) (room : s.office.count + l.length ≤ 60) :
    l.foldl (fun s c => if (s.conditions.get c).i then s.offerCondition c else s) s =
      { s with office := { s.office with reports := s.office.reports ++ indicatedReports s l } } := by
  induction l generalizing s with
  | nil => simp [indicatedReports]
  | cons c rest ih =>
    rw [List.length_cons] at room
    rw [List.foldl_cons]
    by_cases offered : ((s.conditions.get c).i && (s.ready && s.enables.of c && s.enables.condition)) = true
    · have reports : indicatedReports s (c :: rest) =
          .condition c.number (s.conditions.get c).v (s.conditions.get c).argument :: indicatedReports s rest := by
        rw [indicatedReports, List.filter_cons, if_pos offered]
        rfl
      obtain ⟨raised, admitted⟩ := Bool.and_eq_true_iff.1 offered
      rw [if_pos raised, State.offerCondition, if_pos admitted, offerReport_of_room _ (by omega), ih, reports]
      · simp only [List.append_assoc, List.singleton_append]
        rfl
      · have more : ∀ q : OfficeQueue, ∀ r, ({ q with reports := q.reports ++ [r] } : OfficeQueue).count = q.count + 1 := by
          intro q r
          simp only [OfficeQueue.count, List.length_append, List.length_singleton]
          omega
        rw [more]
        omega
    · have reports : indicatedReports s (c :: rest) = indicatedReports s rest := by
        rw [indicatedReports, List.filter_cons, if_neg offered]
        rfl
      have passed : (if (s.conditions.get c).i then s.offerCondition c else s) = s := by
        split
        · next raised =>
          rw [raised, Bool.true_and] at offered
          exact if_neg offered
        · rfl
      rw [passed, ih s (by omega), reports]

/-! ### READY -/

/-- READY of a part whose RESTARTED is not indicated yet: it is raised without a report, since the part is not READY before the
indications stand, and then the reports of all indications are offered. -/
theorem becomeReady_of_fresh {s : State} (waits : s.ready = false) (inTime : s.now.toNat ≤ 600)
    (unset : s.conditions.restarted.i = false) (empty : s.office = .empty) :
    ∃ cs, (∀ d, cs.get d = indicated d ((s.conditions.set .restarted
        ⟨s.conditions.restarted.v, true, s.lastReset.code⟩).get d)) ∧
      s.becomeReady =
        { s with
          ready := true
          conditions := cs
          office := { s.office with reports := indicatedReports { s with ready := true, conditions := cs } CondName.all } } := by
  have raised : s.raise .restarted s.lastReset.code =
      s.setCondition .restarted ⟨s.conditions.restarted.v, true, s.lastReset.code⟩ :=
    (raise_of_unset _ (show (s.conditions.get .restarted).i = false from unset)).trans
      (offerCondition_of_quiet (s := s.setCondition .restarted _) (.inl waits))
  obtain ⟨cs, same, values⟩ := indicateStates_spec (s.setCondition .restarted
    ⟨s.conditions.restarted.v, true, s.lastReset.code⟩)
  refine ⟨cs, values, ?_⟩
  rw [State.becomeReady, if_pos (by simp [waits, show s.now.toNat ≤ Config.readyBound from inTime]), raised, same]
  have offered := offerIndicated_foldl CondName.all { s with ready := true, conditions := cs } (by simp [empty]; decide)
  rw [show ({ s with ready := true, conditions := cs } : State).office.reports = [] by simp [empty]; rfl,
    List.nil_append] at offered
  exact offered

/-- With every report enabled, each indicated condition is reported, RESTARTED first. -/
theorem indicatedReports_enabled {s : State} (ready : s.ready = true) (kind : s.enables.condition = true)
    (all : s.enables.conditions = 0xFFFF) (l : List CondName) :
    indicatedReports s l = (l.filter fun c => (s.conditions.get c).i).map fun c =>
      .condition c.number (s.conditions.get c).v (s.conditions.get c).argument := by
  have each : ∀ c, s.enables.of c = true := by
    intro c
    rw [enables_of, all]
    cases c <;> decide
  simp only [indicatedReports, ready, kind, each, Bool.and_true]

/-- Settles O44: RESTARTED is set apart, the other conditions follow their state, and the reports stand in number order. -/
theorem becomesReady : Obligations.BecomesReady := by
  unfold Obligations.BecomesReady
  intro now s held waits inTime unset empty
  obtain ⟨cs, values, became⟩ := becomeReady_of_fresh (s := s.setNow now) waits inTime unset empty
  have restarted : cs.restarted = ⟨s.conditions.restarted.v, true, s.lastReset.code⟩ := values .restarted
  have others : ∀ c, c ≠ .restarted → cs.get c = indicated c (s.conditions.get c) := by
    intro c apart
    rw [values c]
    exact congrArg (indicated c) (setCondition_get_other s _ apart)
  obtain ⟨t, pumped⟩ : ∃ t, t = (State.becomeReady (s.setNow now)).pumpOffice := ⟨_, rfl⟩
  have conditions : t.conditions = cs := by rw [pumped, State.pumpOffice_conditions, became]
  have same : ButReports (State.becomeReady (s.setNow now)) t := pumped ▸ pumpOffice_butReports _
  refine ⟨t, pumped ▸ event_outside_reset _ _ _ held, ?_, ?_, fun c apart => ?_, fun c apart => ?_, ?_, fun kind all => ?_⟩
  · rw [pumped, State.pumpOffice_ready, became]
  · rw [conditions, restarted]
    exact congrArg _ (by cases s.lastReset <;> rfl)
  · rw [conditions, others c apart, indicated_v]
  · rw [conditions, others c apart, indicated_i]
  · refine same.trans ?_
    rw [became]
    simp only [conditions]
    rfl
  · have reports := indicatedReports_enabled (s := { s.setNow now with ready := true, conditions := cs }) rfl kind all
      CondName.all
    rw [conditions]
    have first : ∃ rest, (State.becomeReady (s.setNow now)).office.reports =
        .condition 1 cs.restarted.v cs.restarted.argument :: rest := by
      have set : (cs.get .restarted).i = true := congrArg Condition.i restarted
      have filtered : CondName.all.filter (fun c => (cs.get c).i) =
          .restarted :: CondName.all.tail.filter fun c => (cs.get c).i := List.filter_cons_of_pos set
      rw [became, reports]
      exact ⟨_, congrArg _ filtered⟩
    obtain ⟨rest, first⟩ := first
    refine ⟨?_, fun c set => ?_⟩
    · rw [pumped, pumpOffice_of_reports (by rw [became]; exact congrArg OfficeQueue.sending empty)
        (by rw [became]; exact congrArg OfficeQueue.replies empty) first]
      rfl
    · rw [pumped]
      refine State.pumpOffice_report _ _ ?_
      rw [became, reports]
      exact List.mem_map.2 ⟨c, List.mem_filter.2 ⟨mem_all c, set⟩, rfl⟩

end Sys2Proof.Proofs
end

section
/-! The rounds: ROUND_OPEN, ROUND_CLOSE and RESULTS_CLEAR (R51 to R56). -/

namespace Sys2Proof.Proofs

open Sys2Proof.Machine Sys2Proof.Claims

/-! ### The lamp and the LEADERS page -/

theorem deriveLamp_eq {s : State} {lamp : Lamp} (derived : derivedLamp s.competition s.jtb s.stu.flashing = lamp) :
    s.deriveLamp = { s with stu := { s.stu with lamp := lamp }, lsc := { s.lsc with lampSlot := lamp } } := by
  subst derived
  rfl

/-- Outside an open round the lamp is OFF (R119). -/
theorem derivedLamp_closed {x : CompState} (shut : x.isOpen = false) (t : JumpTable) (flashing : Bool) :
    derivedLamp x t flashing = .off := by
  rw [derivedLamp, shut]
  rfl

/-- In an open round with nobody CLEARED or GREEN the lamp is RED (R119). -/
theorem derivedLamp_red {x : CompState} {t : JumpTable} (round : x.isOpen = true)
    (bare : ∀ k r, t.get k = some r → r.state ≠ .cleared ∧ r.state ≠ .green) (flashing : Bool) :
    derivedLamp x t flashing = .red := by
  have cleared : (t.inState fun x => decide (x = .cleared)) = none :=
    JumpTable.inState_none_iff.2 fun k r held => decide_eq_false (bare k r held).1
  have green : (t.inState fun x => decide (x = .green)) = none :=
    JumpTable.inState_none_iff.2 fun k r held => decide_eq_false (bare k r held).2
  simp [derivedLamp, round, cleared, green]

theorem sendLeaders_eq (s : State) {d : Display} (shows : d = { s.dsp with leaders := leadersOf s.tables.competitors s.results }) :
    s.sendLeaders =
      { s with
        lsc := { s.lsc with segS := { s.lsc.segS with queue := pageShown d s.tables.stations .leaders s.lsc.segS.queue } }
        dsp := d } := by
  subst shows
  rw [State.sendLeaders, sendPage_eq, leaderRows_eq]

/-- Outside an open round no slot holds a record (R60). -/
theorem free_of_closed {s : State} (round : RecordsInRound s) (closed : ¬RoundOpen s) (k : Fin 4) : s.jtb.get k = none :=
  Option.eq_none_iff_forall_ne_some.2 fun r held => closed (round k r held)

/-- A round that opens shows RED and the LEADERS page. -/
theorem opened_eq {s : State} {x : CompState} (list : List Nat) (open_ : x.isOpen = true) (free : ∀ k, s.jtb.get k = none)
    {d : Display} (shows : d = { s.dsp with leaders := leadersOf s.tables.competitors s.results }) :
    State.sendLeaders (State.deriveLamp { s with competition := x, startList := list }) =
      { s with
        competition := x
        startList := list
        stu := { s.stu with lamp := .red }
        lsc := { s.lsc with
          lampSlot := .red
          segS := { s.lsc.segS with queue := pageShown d s.tables.stations .leaders s.lsc.segS.queue } }
        dsp := d } := by
  have red := deriveLamp_eq (s := { s with competition := x, startList := list })
    (derivedLamp_red open_ (fun k r held => absurd held (by rw [free k]; nofun)) _)
  exact (congrArg State.sendLeaders red).trans (sendLeaders_eq _ shows)

/-! ### ROUND_OPEN(1) and RESULTS_CLEAR -/

theorem roundOpen_refuses {round : Byte} (other : ¬(round.toNat = 1 ∨ round.toNat = 2)) (s : State) :
    roundOpen round s = refuse .badValue s := by
  unfold roundOpen
  split
  · next h => exact absurd (.inl h) other
  · next h => exact absurd (.inr h) other
  · rfl

theorem roundOpen_one_eq_judged {round : Byte} (one : round.toNat = 1) {s : State} {o : Option Status}
    (first : FirstOf [(s.competition ≠ .prepare, .wrongState), (s.startList = [], .notFound)] o) :
    roundOpen round s = judged o (.roundOpened .r1Open s.startList.length) s
      (State.sendLeaders (State.deriveLamp { s with competition := .r1Open })) := by
  rw [roundOpen, one]
  refine ite_refuse_judged first Iff.rfl fun _ first => ?_
  refine ite_refuse_judged first Iff.rfl fun _ first => ?_
  exact accept_eq_judged first

theorem resultsClear_eq_judged {s : State} {o : Option Status} (first : FirstOf [(RoundOpen s, .wrongState)] o) :
    resultsClear s = judged o .nothing s
      (State.sendLeaders (State.deriveLamp { s with results := [], startList := [], competition := .prepare })) := by
  refine ite_refuse_judged first (isOpen_iff_roundOpen s) fun _ first => ?_
  exact accept_eq_judged first

/-- What RESULTS_CLEAR leaves (R56). -/
theorem cleared_eq (s : State) {d : Display} (shows : d = { s.dsp with leaders := [] }) :
    State.sendLeaders (State.deriveLamp { s with results := [], startList := [], competition := .prepare }) =
      { s with
        results := []
        startList := []
        competition := .prepare
        stu := { s.stu with lamp := .off }
        lsc := { s.lsc with
          lampSlot := .off
          segS := { s.lsc.segS with queue := pageShown d s.tables.stations .leaders s.lsc.segS.queue } }
        dsp := d } := by
  have off := deriveLamp_eq (s := { s with results := [], startList := [], competition := .prepare })
    (derivedLamp_closed rfl _ _)
  exact (congrArg State.sendLeaders off).trans (sendLeaders_eq _ shows)

/-! ### ROUND_CLOSE -/

/-- The non-starter reports offered for a list of bibs. -/
def offerDns (l : List Nat) (s : State) : State := l.foldl (fun s bib => s.reportJump (dnsReport bib)) s

/-- What ROUND_CLOSE leaves of the competition, the list and STU before the lamp is derived. -/
def roundShut (x : CompState) (s : State) : State :=
  State.deriveLamp { s with startList := [], competition := x, stu := s.stu.closeRound }

theorem offerDns_butReports (l : List Nat) (s : State) : ButReports s (offerDns l s) := by
  induction l generalizing s with
  | nil => exact butReports_refl s
  | cons bib rest ih => exact butReports_trans (reportJump_butReports s _) (ih _)

/-- With room for all of them every non-starter report waits. -/
theorem offerDns_waits {l : List Nat} {s : State} (enabled : s.enables.jump = true) (room : s.office.count + l.length ≤ 60) :
    (∀ b ∈ l, dnsReport b ∈ (offerDns l s).office.reports) ∧ ∀ r ∈ s.office.reports, r ∈ (offerDns l s).office.reports := by
  induction l generalizing s with
  | nil => exact ⟨fun b listed => (nomatch listed), fun r => id⟩
  | cons bib rest ih =>
    rw [List.length_cons] at room
    have offered : s.reportJump (dnsReport bib) = s.offerReport (dnsReport bib) := if_pos enabled
    have gained := s.offerReport_gains (dnsReport bib)
    obtain ⟨later, kept⟩ := ih (s := s.offerReport (dnsReport bib)) (by simpa using enabled)
      (by have := gained.count; omega)
    rw [offerDns, List.foldl_cons, offered]
    refine ⟨fun b listed => ?_, fun r waits => kept r (gained.keeps_report waits)⟩
    rcases List.mem_cons.1 listed with rfl | listed
    · exact kept _ (s.offerReport_waits _ (by omega))
    · exact later b listed

theorem records_ne_nil_iff (t : JumpTable) : t.records ≠ [] ↔ ∃ k r, t.get k = some r := by
  obtain ⟨a, b, c, d⟩ := t
  simp only [JumpTable.records, JumpTable.get, Fin.exists_fin_succ]
  cases a <;> cases b <;> cases c <;> cases d <;> simp

theorem roundClose_eq_judged {s : State} {o : Option Status}
    (first : FirstOf [(¬RoundOpen s, .wrongState), (∃ k r, s.jtb.get k = some r, .wrongState)] o) :
    roundClose s = judged o (.roundClosed s.competition.closed s.startList.length) s
      (roundShut s.competition.closed (offerDns s.startList s)) := by
  have either : FirstOf [(¬RoundOpen s ∨ ∃ k r, s.jtb.get k = some r, .wrongState)] o := by
    rcases first with ⟨shut, refused⟩ | ⟨round, ⟨held, refused⟩ | ⟨free, none⟩⟩
    · exact .inl ⟨.inl shut, refused⟩
    · exact .inl ⟨.inr held, refused⟩
    · exact .inr ⟨fun h => h.elim round free, none⟩
  refine ite_refuse_judged either ?_ fun _ first => ?_
  · rw [Bool.or_eq_true, not_isOpen_iff, decide_eq_true_eq, records_ne_nil_iff]
  · exact accept_eq_judged first

/-- The state that follows a round that was open is one of the closed ones (R50). -/
theorem closed_of_open {s : State} (round : RoundOpen s) :
    s.competition.closed = (if s.competition = .r1Open then .r1Closed else .final) ∧ s.competition.closed.isOpen = false := by
  rcases round with h | h <;> rw [h] <;> exact ⟨rfl, rfl⟩

/-- Settles O13: ROUND_OPEN(1) and RESULTS_CLEAR by their refusals; ROUND_CLOSE besides by the non-starter reports it offers. -/
theorem roundsOpenAndClose : Obligations.RoundsOpenAndClose := by
  unfold Obligations.RoundsOpenAndClose
  refine ⟨fun now seq s listens round => ⟨fun n other => request_refused listens (roundOpen_refuses other _),
    fun n o one first d shows => ?opens, fun o first d shows => ?clears⟩, fun now seq s o listens first => ?closes⟩
  case opens =>
    refine request_answered listens ((roundOpen_one_eq_judged (s := s.asked now) one first).trans ?_)
    cases o with
    | some status => rfl
    | none =>
      have prepare : s.competition = .prepare := not_not.1 (first.elim (fun h => nomatch h.2) And.left)
      have free := free_of_closed round (s := s) (by rw [RoundOpen, prepare]; decide)
      exact congrArg (accept _) (opened_eq (s := s.asked now) s.startList rfl free shows)
  case clears =>
    refine request_answered listens ((resultsClear_eq_judged (s := s.asked now) first).trans ?_)
    rw [cleared_eq (s.asked now) shows]
    rfl
  case closes =>
    have judged := roundClose_eq_judged (s := s.asked now) first
    refine ⟨?_, ?_⟩
    · rintro status rfl
      exact request_refused listens judged
    · rintro rfl
      have round : RoundOpen s := not_not.1 (first.elim (fun h => nomatch h.2) And.left)
      obtain ⟨follows, shut⟩ := closed_of_open round
      obtain ⟨t, exec_eq, answer, same, -, -, -, reports⟩ := request_accepted (now := now) (seq := seq) (code := 0x21)
        listens judged
      have offered : ButReports (roundShut s.competition.closed (s.asked now)) t :=
        butReports_trans (butReports_map (roundShut s.competition.closed) (offerDns_butReports _ _) fun _ => rfl) same
      have competition : t.competition = s.competition.closed := butReports_same State.competition offered fun _ => rfl
      rw [roundShut, deriveLamp_eq (derivedLamp_closed shut _ _), follows] at offered
      refine ⟨t, exec_eq, competition ▸ answer, offered, fun enabled room b listed => reports _ ?_⟩
      have asked := asked_count now s
      exact (offerDns_waits (s := s.asked now) enabled (Nat.le_trans (Nat.add_le_add_right asked _) room)).1 b listed

end Sys2Proof.Proofs
end

section
/-! The round-2 order (R52, R53). -/

namespace Sys2Proof.Proofs

open Sys2Proof.Machine Sys2Proof.Claims

/-- Where a list falls from a total at most, the entries at that total are those at its front. -/
theorem takeWhile_total {t : Nat} {l : List ResultEntry} (falls : l.Pairwise fun a b => b.total ≤ a.total)
    (most : ∀ e ∈ l, e.total ≤ t) :
    l.takeWhile (fun e => decide (e.total = t)) = l.filter fun e => decide (e.total = t) := by
  induction l with
  | nil => rfl
  | cons e rest ih =>
    obtain ⟨greatest, falls⟩ := List.pairwise_cons.1 falls
    by_cases tie : e.total = t
    · simp only [List.takeWhile_cons, List.filter_cons, tie, decide_true, if_true,
        ih falls fun x listed => most x (List.mem_cons_of_mem _ listed)]
    · have below : e.total < t := Nat.lt_of_le_of_ne (most e List.mem_cons_self) tie
      rw [List.takeWhile_cons, if_neg (by simpa using tie), List.filter_eq_nil_iff.2]
      intro x listed
      have : x.total ≤ e.total := by
        rcases List.mem_cons.1 listed with rfl | listed
        · exact Nat.le_refl _
        · exact greatest x listed
      rw [decide_eq_true_eq]
      omega

/-- In the ranking order, the OK entries of one round fall by their totals. -/
theorem okEntries_falls {l : List ResultEntry} (ordered : l.Pairwise StandsBefore)
    (once : ∀ e ∈ l, e.status = .ok → e.rounds = 1) : (okEntries l).Pairwise fun a b => b.total ≤ a.total := by
  refine (ordered.filter _).imp_of_mem fun {a b} hereA hereB before => ?_
  obtain ⟨listedA, okA⟩ := List.mem_filter.1 hereA
  obtain ⟨listedB, okB⟩ := List.mem_filter.1 hereB
  have okA := of_decide_eq_true okA
  have okB := of_decide_eq_true okB
  have roundA := once a listedA okA
  have roundB := once b listedB okB
  rcases before with ⟨-, dsq⟩ | ⟨dsq, -, -⟩ | ⟨-, -, more | ⟨-, higher | ⟨tie, -⟩⟩⟩
  · rw [okB] at dsq
    cases dsq
  · rw [okA] at dsq
    cases dsq
  · omega
  · omega
  · omega

theorem selection_prefix (q : Nat) (l : List ResultEntry) : selection q l <+: okEntries l := by
  unfold selection
  dsimp only
  split
  · exact List.nil_prefix
  · next last _ =>
    have tied := (List.prefix_append_right_inj ((okEntries l).take q)).2
      (List.takeWhile_prefix (l := (okEntries l).drop q) fun e => decide (e.total = last.total))
    rwa [List.take_append_drop] at tied

/-- Fewer entries than places are all selected. -/
theorem selection_of_few {q : Nat} {l : List ResultEntry} (few : (okEntries l).length ≤ q) : selection q l = okEntries l := by
  unfold selection
  simp only [List.take_of_length_le few, List.drop_eq_nil_of_le few, List.takeWhile_nil, List.append_nil]
  split
  · next empty => exact (List.getLast?_eq_none_iff.1 empty).symm
  · rfl

/-- The entry at the last place is the last of those taken. -/
theorem getLast?_take_of_at {α : Type} {q : Nat} {l : List α} (positive : 1 ≤ q) {last : α} (at_ : l[q - 1]? = some last) :
    (l.take q).getLast? = some last := by
  rw [List.getLast?_take, if_neg (by omega), at_, Option.some_or]

/-- The selected entries are those that are no worse than the one at the last place (R52). -/
theorem mem_selection {q : Nat} {l : List ResultEntry} (positive : 1 ≤ q)
    (falls : (okEntries l).Pairwise fun a b => b.total ≤ a.total) {e : ResultEntry} (listed : e ∈ okEntries l) :
    e ∈ selection q l ↔
      (okEntries l).length ≤ q ∨ ∃ last, (okEntries l)[q - 1]? = some last ∧ last.total ≤ e.total := by
  rcases Nat.lt_or_ge q (okEntries l).length with many | few
  · obtain ⟨last, at_⟩ : ∃ last, (okEntries l)[q - 1]? = some last := ⟨_, List.getElem?_eq_getElem (by omega)⟩
    have found := getLast?_take_of_at positive at_
    obtain ⟨init, front⟩ := List.getLast?_eq_some_iff.1 found
    have parted := falls
    rw [← List.take_append_drop q (okEntries l)] at parted listed
    obtain ⟨taken, dropped, across⟩ := List.pairwise_append.1 parted
    have least : ∀ x ∈ (okEntries l).take q, last.total ≤ x.total := by
      rw [front] at taken ⊢
      intro x here
      rcases List.mem_append.1 here with here | here
      · exact (List.pairwise_append.1 taken).2.2 x here last (by simp)
      · exact (congrArg ResultEntry.total (List.mem_singleton.1 here)).ge
    have most := across last (by rw [front]; simp)
    rw [show selection q l = (okEntries l).take q ++ ((okEntries l).drop q).takeWhile fun e => decide (e.total = last.total) by
      simp only [selection, found], takeWhile_total dropped most]
    simp only [List.mem_append, List.mem_filter, decide_eq_true_eq, at_, Option.some.injEq, exists_eq_left',
      Nat.not_le.2 many, false_or]
    constructor
    · rintro (here | ⟨-, tie⟩)
      · exact least e here
      · exact tie.ge
    · intro high
      rcases List.mem_append.1 listed with here | here
      · exact .inl here
      · exact .inr ⟨here, Nat.le_antisymm (most e here) high⟩
  · rw [selection_of_few few]
    exact ⟨fun _ => .inl few, fun _ => listed⟩

theorem roundOpen_two_refuses {round : Byte} (two : round.toNat = 2) {s : State} (other : s.competition ≠ .r1Closed) :
    roundOpen round s = refuse .wrongState s := by
  rw [roundOpen, two]
  exact if_pos other

theorem roundOpen_two_accepts {round : Byte} (two : round.toNat = 2) {s : State} (closed : s.competition = .r1Closed) :
    roundOpen round s =
      accept (.round2Opened .r2Open (selection s.tables.hill.q s.results).length
          (((selection s.tables.hill.q s.results).getLast?.map (·.total)).getD 0)
          ((selection s.tables.hill.q s.results).length - s.tables.hill.q))
        (State.sendLeaders (State.deriveLamp
          { s with
            competition := .r2Open
            startList := ((selection s.tables.hill.q s.results).map (·.bib)).reverse })) := by
  have length : (round2Order s.tables.hill.q s.results).length = (selection s.tables.hill.q s.results).length := by
    simp [round2Order]
  have cut : cutTotal s.tables.hill.q s.results =
      ((selection s.tables.hill.q s.results).getLast?.map (·.total)).getD 0 := by
    unfold cutTotal
    cases (selection s.tables.hill.q s.results).getLast? <;> rfl
  rw [roundOpen, two, ← length, ← cut]
  exact if_neg (not_not.2 closed)

/-- Settles O14: the order is the selection of R52 reversed, and the selection is a front of the OK entries that holds every tie. -/
theorem roundTwoOrder : Obligations.RoundTwoOrder := by
  unfold Obligations.RoundTwoOrder
  intro now seq round s listens records two
  refine ⟨fun other => request_refused listens (roundOpen_two_refuses (s := s.asked now) two other),
    fun closed order positive once => ?_⟩
  obtain ⟨ordered, -⟩ := order
  refine ⟨selection s.tables.hill.q s.results, _, rfl, ?_, selection_prefix _ _, fun e listed ok => ?_⟩
  · have free := free_of_closed (s := s) records (by rw [RoundOpen, closed]; decide)
    refine request_replied listens ((roundOpen_two_accepts (s := s.asked now) two closed).trans ?_)
    exact congrArg (accept _) (opened_eq (s := s.asked now) _ rfl free rfl)
  · exact mem_selection positive (okEntries_falls ordered once) (List.mem_filter.2 ⟨listed, decide_eq_true ok⟩)

end Sys2Proof.Proofs
end

section
/-! The lamp and the records: what a state entry, a freed record and a GREEN entry change and report (R49, R65, R66, R112, R119). -/

namespace Sys2Proof.Proofs

open Sys2Proof.Machine Sys2Proof.Claims

/-! ### The one active record (R64) -/

/-- Nobody is on the bar or the course but in one slot. -/
def AloneIn (k : Fin 4) (t : JumpTable) : Prop := ∀ j a, j ≠ k → t.get j = some a → a.state.active = false

theorem aloneIn_of_active {t : JumpTable} (one : OneActive t) {k : Fin 4} {r : JumpRecord} (held : t.get k = some r)
    (active : r.state.active = true) : AloneIn k t := by
  intro j a apart other
  by_contra busy
  exact apart (one j k a r other held (by simpa using busy) active)

theorem aloneIn_of_none {t : JumpTable} (none : ∀ k r, t.get k = some r → r.state.active = false) (k : Fin 4) : AloneIn k t :=
  fun j a _ held => none j a held

theorem aloneIn_set {k : Fin 4} {t : JumpTable} (alone : AloneIn k t) (r : Option JumpRecord) : AloneIn k (t.set k r) := by
  intro j a apart held
  rw [JumpTable.get_set, if_neg apart] at held
  exact alone j a apart held

/-! ### The lamp (R119) -/

section
variable {x : CompState} {t : JumpTable} {k : Fin 4} {r : JumpRecord}

theorem derivedLamp_yellow (round : x.isOpen = true) (held : t.get k = some r) (cleared : r.state = .cleared) (flashing : Bool) :
    derivedLamp x t flashing = .yellow := by
  have found : (t.inState fun x => decide (x = .cleared)).isSome = true :=
    (inState_isSome_iff _ _).2 ⟨k, r, held, decide_eq_true cleared⟩
  rw [derivedLamp, if_pos round, if_pos found]

theorem derivedLamp_green (round : x.isOpen = true) (alone : AloneIn k t) (held : t.get k = some r) (green : r.state = .green)
    (flashing : Bool) : derivedLamp x t flashing = if flashing then .greenFlash else .green := by
  have cleared : (t.inState fun x => decide (x = .cleared)) = none := by
    refine JumpTable.inState_none_iff.2 fun j a other => decide_eq_false fun here => ?_
    by_cases same : j = k
    · subst same
      rw [held] at other
      cases other
      rw [green] at here
      cases here
    · have idle := alone j a same other
      rw [here] at idle
      cases idle
  have found : (t.inState fun x => decide (x = .green)).isSome = true :=
    (inState_isSome_iff _ _).2 ⟨k, r, held, decide_eq_true green⟩
  rw [derivedLamp, if_pos round, cleared, if_neg (by simp), if_pos found]

theorem derivedLamp_left (round : x.isOpen = true) (alone : AloneIn k t)
    (left : ∀ a, t.get k = some a → a.state ≠ .cleared ∧ a.state ≠ .green) (flashing : Bool) :
    derivedLamp x t flashing = .red := by
  refine derivedLamp_red round (fun j a held => ?_) flashing
  by_cases same : j = k
  · exact left a (same ▸ held)
  · have idle := alone j a same held
    constructor <;> intro here <;> rw [here] at idle <;> cases idle

theorem derivedLamp_set_left (round : x.isOpen = true) (alone : AloneIn k t) (left : r.state ≠ .cleared ∧ r.state ≠ .green)
    (flashing : Bool) : derivedLamp x (t.set k (some r)) flashing = .red := by
  refine derivedLamp_left round (aloneIn_set alone _) (fun a held => ?_) flashing
  rw [JumpTable.get_set, if_pos rfl] at held
  cases held
  exact left

theorem derivedLamp_set_none (round : x.isOpen = true) (alone : AloneIn k t) (flashing : Bool) :
    derivedLamp x (t.set k none) flashing = .red := by
  refine derivedLamp_left round (aloneIn_set alone _) (fun a held => ?_) flashing
  rw [JumpTable.get_set, if_pos rfl] at held
  cases held

end

theorem isOpen_of_record {s : State} (records : RecordsInRound s) {k : Fin 4} {r : JumpRecord} (held : s.jtb.get k = some r) :
    s.competition.isOpen = true := (isOpen_iff_roundOpen s).2 (records k r held)

/-! ### A state entry (R64, R65) -/

/-- A state as it stands once the record of a slot has entered a state, before its reports. -/
def inEntered (k : Fin 4) (r : JumpRecord) (x : RecState) (lamp : Lamp) (s : State) : State :=
  { s with
    jtb := s.jtb.set k (some (r.inState x))
    stu := { s.stu with lamp := lamp }
    lsc := { s.lsc with lampSlot := lamp } }

section
variable {s : State} {k : Fin 4} {r : JumpRecord}

theorem enterState_shown (x : RecState) (held : s.jtb.get k = some r) {lamp : Lamp}
    (derived : derivedLamp s.competition (s.jtb.set k (some (r.inState x))) s.stu.flashing = lamp) :
    ButShown (inEntered k r x lamp s) (s.enterState k x) ∧ (s.enterState k x).dsp = s.dsp ∧
      (s.enterState k x).lsc = { s.lsc with lampSlot := lamp } := by
  obtain ⟨_, _, _, _, same, entered, -, -⟩ := State.enterState_spec s k x held
  rw [derived] at same
  subst same
  rw [entered]
  exact ⟨rfl, rfl, rfl⟩

theorem enterState_gains (x : RecState) (held : s.jtb.get k = some r) : Gains 2 s (s.enterState k x) := by
  obtain ⟨_, _, _, _, -, -, -, gains⟩ := State.enterState_spec s k x held
  exact gains

theorem enterState_held (x : RecState) (held : s.jtb.get k = some r) :
    (s.enterState k x).conditions.jumpHeld.v =
      ((s.jtb.set k (some (r.inState x))).inState fun y => decide (y = .held)).isSome := by
  obtain ⟨_, _, _, _, -, entered, value, -⟩ := State.enterState_spec s k x held
  rw [entered]
  exact value

/-- The JUMP report of a state entry waits where there is room for it (R65). -/
theorem enterState_reports (x : RecState) (held : s.jtb.get k = some r) (enabled : s.enables.jump = true)
    (room : s.office.count < 60) :
    .jump r.bib (some k) (some x) .advance (r.inState x).needs r.flags ∈ (s.enterState k x).office.reports := by
  have stands : (s.updateRecord k (·.inState x)).deriveLamp.jtb.get k = some (r.inState x) := by
    rw [State.updateRecord_of_get _ _ _ held]
    exact (JumpTable.get_set ..).trans (if_pos rfl)
  have counts : (s.updateRecord k (·.inState x)).deriveLamp.office = s.office := by
    rw [State.updateRecord_of_get _ _ _ held]
    rfl
  refine (State.updateHeld_gains _).keeps_report (State.reportRecord_waits _ k .advance stands (by rw [counts]; exact room) ?_)
  rw [State.updateRecord_of_get _ _ _ held]
  exact enabled

end

theorem reportJump_waits {s : State} (r : Report) (enabled : s.enables.jump = true) (room : s.office.count < 60) :
    r ∈ (s.reportJump r).office.reports := by
  rw [State.reportJump, if_pos enabled]
  exact State.offerReport_waits _ _ room

/-! ### A record freed (R49, R66, R174) -/

/-- The countdown is not counted on when the on-bar record is freed. -/
def barCleared (r : JumpRecord) (d : Display) : Display := if r.state.onBar then { d with countdownExpiry := none } else d

/-- A state as it stands once the record of a slot has been freed, before its reports and pages. -/
def inFreed (k : Fin 4) (r : JumpRecord) (returns : Bool) (lamp : Lamp) (s : State) : State :=
  { s with
    jtb := s.jtb.set k none
    startList := if returns then r.bib :: s.startList else s.startList
    stu := { (if r.state.onBar then barLeft s.stu else s.stu) with lamp := lamp }
    lsc := { s.lsc with lampSlot := lamp }
    flu := if r.state.onCourse then .idle else s.flu
    dsp := barCleared r s.dsp }

/-- The lamp that a freed record leaves. -/
def lampFreed (k : Fin 4) (r : JumpRecord) (s : State) : Lamp :=
  derivedLamp s.competition (s.jtb.set k none) (if r.state.onBar then barLeft s.stu else s.stu).flashing

section
variable {s : State} {k : Fin 4} {r : JumpRecord}

theorem freeRecord_eq (reason : JumpReason) (returns : Bool) (held : s.jtb.get k = some r) :
    s.freeRecord k reason returns =
      State.updateHeld (State.reportJump (.jump r.bib (some k) none reason .none r.flags)
        (inFreed k r returns (lampFreed k r s) s)) := by
  simp only [State.freeRecord, held]
  rfl

theorem freeRecord_shown (reason : JumpReason) (returns : Bool) (held : s.jtb.get k = some r) :
    ButShown (inFreed k r returns (lampFreed k r s) s) (s.freeRecord k reason returns) ∧
      (s.freeRecord k reason returns).dsp = barCleared r s.dsp := by
  rw [freeRecord_eq reason returns held]
  refine ⟨butShown_trans (butShown_of_reports (reportJump_butReports _ _)) (updateHeld_butShown _), ?_⟩
  rw [State.updateHeld_dsp, State.reportJump_dsp]
  rfl

theorem freeRecord_gains (reason : JumpReason) (returns : Bool) (held : s.jtb.get k = some r) :
    Gains 2 s (s.freeRecord k reason returns) := by
  rw [freeRecord_eq reason returns held]
  have freed : Gains 0 s (inFreed k r returns (lampFreed k r s) s) := .of_eq rfl 0
  exact (freed.trans (State.reportJump_gains _ _)).trans (State.updateHeld_gains _)

theorem freeRecord_reports (reason : JumpReason) (returns : Bool) (held : s.jtb.get k = some r) (enabled : s.enables.jump = true)
    (room : s.office.count < 60) :
    .jump r.bib (some k) none reason .none r.flags ∈ (s.freeRecord k reason returns).office.reports := by
  rw [freeRecord_eq reason returns held]
  exact (State.updateHeld_gains _).keeps_report (reportJump_waits _ enabled room)

theorem sendPage_office (s : State) (kind : PageKind) : (s.sendPage kind).office = s.office := by
  rw [sendPage_eq]

theorem sendPage_dsp (s : State) (kind : PageKind) : (s.sendPage kind).dsp = s.dsp := by
  rw [sendPage_eq]

theorem emptyCurrent_office (s : State) (bib : Nat) : (s.emptyCurrent bib).office = s.office := by
  unfold State.emptyCurrent
  split
  · rw [sendPage_office]
  · rfl

/-- A CURRENT image of the bib is emptied, and any other stays (R174). -/
theorem emptyCurrent_dsp (s : State) (bib : Nat) :
    ∃ current, (s.emptyCurrent bib).dsp = { s.dsp with current := current } ∧ ∀ c, current = some c → c.bib ≠ bib := by
  unfold State.emptyCurrent
  split
  · exact ⟨none, by rw [sendPage_dsp], nofun⟩
  · next other =>
    refine ⟨s.dsp.current, rfl, fun c shown same => other ?_⟩
    rw [shown]
    exact decide_eq_true same

/-- What a withdrawal leaves (R49, R66, R174, R176). -/
theorem withdraw_shown (reason : JumpReason) (held : s.jtb.get k = some r) :
    ButShown (inFreed k r true (lampFreed k r s) s) (s.withdraw k reason) ∧
      (∀ c, (s.withdraw k reason).dsp.current = some c → c.bib ≠ r.bib) ∧
      (r.state.onBar = true → (s.withdraw k reason).dsp.countdownExpiry = none ∧
        (s.withdraw k reason).dsp.countdownSeconds = 0 ∧ (s.withdraw k reason).dsp.countdownLamp = lampFreed k r s) := by
  obtain ⟨freed, cleared⟩ := freeRecord_shown reason true held
  obtain ⟨current, dsp, other⟩ := emptyCurrent_dsp (s.freeRecord k reason true) r.bib
  have emptied := butShown_trans freed (emptyCurrent_butShown (s.freeRecord k reason true) r.bib)
  have lamp : (State.emptyCurrent r.bib (s.freeRecord k reason true)).stu.lamp = lampFreed k r s :=
    butShown_same (·.stu.lamp) emptied fun _ => rfl
  simp only [State.withdraw, held]
  by_cases onBar : r.state.onBar = true
  · rw [if_pos onBar]
    refine ⟨butShown_trans emptied (sendCountdown_butShown _ _), ?_, fun _ => ?_⟩
    · intro c shown
      refine other c ?_
      rw [State.sendCountdown, sendPage_dsp] at shown
      rw [← shown, dsp]
    · rw [State.sendCountdown, sendPage_dsp]
      refine ⟨?_, rfl, lamp⟩
      rw [dsp, cleared, barCleared, if_pos onBar]
  · rw [if_neg onBar]
    exact ⟨emptied, fun c shown => other c (by rw [← shown, dsp]), fun h => absurd h onBar⟩

theorem withdraw_office (reason : JumpReason) (held : s.jtb.get k = some r) :
    (s.withdraw k reason).office = (s.freeRecord k reason true).office := by
  simp only [State.withdraw, held]
  split
  · rw [State.sendCountdown, sendPage_office, emptyCurrent_office]
  · rw [emptyCurrent_office]

theorem withdraw_reports (reason : JumpReason) (held : s.jtb.get k = some r) (enabled : s.enables.jump = true)
    (room : s.office.count < 60) : .jump r.bib (some k) none reason .none r.flags ∈ (s.withdraw k reason).office.reports := by
  rw [withdraw_office reason held]
  exact freeRecord_reports reason true held enabled room

end

/-- The lamp behind a freed record that was on the bar is RED (R119). -/
theorem lampFreed_onBar {s : State} {k : Fin 4} {r : JumpRecord} (one : OneActive s.jtb) (records : RecordsInRound s)
    (held : s.jtb.get k = some r) (onBar : r.state.onBar = true) : lampFreed k r s = .red :=
  derivedLamp_set_none (isOpen_of_record records held) (aloneIn_of_active one held (active_of_onBar onBar)) _

/-- A withdrawal within a command at a hill time. -/
theorem withdrawn_of {now : Time} {s v t : State} {k : Fin 4} {r : JumpRecord} (reason : JumpReason) (one : OneActive s.jtb)
    (records : RecordsInRound s) (held : s.jtb.get k = some r) (asked : ButReports (s.setNow now) v)
    (leaves : ButReports (v.withdraw k reason) t) (shows : t.dsp = (v.withdraw k reason).dsp) : Withdrawn now k r s t := by
  have jtb : v.jtb = (s.setNow now).jtb := butReports_same (·.jtb) asked fun _ => rfl
  have stu : v.stu = (s.setNow now).stu := butReports_same (·.stu) asked fun _ => rfl
  have competition : v.competition = (s.setNow now).competition := butReports_same (·.competition) asked fun _ => rfl
  have held' : v.jtb.get k = some r := jtb ▸ held
  obtain ⟨withdrawn, emptied, bar⟩ := withdraw_shown reason held'
  have same : lampFreed k r v = lampFreed k r s := by
    rw [lampFreed, lampFreed, jtb, stu, competition]
    rfl
  rw [same] at withdrawn bar
  have shown : ButShown (inFreed k r true (lampFreed k r s) (s.setNow now)) t :=
    butShown_trans (butShown_map (inFreed k r true (lampFreed k r s)) (butShown_of_reports asked) fun _ => rfl)
      (butShown_trans withdrawn (butShown_of_reports leaves))
  have lamp : t.stu.lamp = lampFreed k r s := butShown_same (·.stu.lamp) shown fun _ => rfl
  refine ⟨?_, fun c current => emptied c (shows ▸ current), fun onBar => ?_⟩
  · rw [lamp]
    exact shown
  · rw [shows, lamp, ← lampFreed_onBar one records held onBar]
    exact ⟨rfl, bar onBar⟩

end Sys2Proof.Proofs
end

section
/-! The start: GREEN entries, CLEAR, WIND_GATE, HOLD, ANNUL, and the expiries of the bar (R106 to R117). -/

namespace Sys2Proof.Proofs

open Sys2Proof.Machine Sys2Proof.Claims

/-! ### A GREEN entry (R106, R112, R113) -/

theorem fixReference_eq (u : StartUnit) : u.fixReference = referenceSet u := by
  obtain ⟨gate, candidate, count, coach, pending, round, fixed, _, _, _, _, _, _, _, _⟩ := u
  cases fixed <;> cases pending <;> rfl

/-- The record's own part of a GREEN entry. -/
def greenTimed (s : State) (r : JumpRecord) : JumpRecord :=
  { r with
    greenTime := some s.now
    gate := s.stu.gate
    greenExpiryTime := some (after s.now (s.tables.hill.startTime * Config.second)) }

/-- A state that is about to enter GREEN: the record's own part, STU's, and the countdown armed. -/
def greening (k : Fin 4) (r : JumpRecord) (s : State) : State :=
  { s with
    jtb := s.jtb.set k (some (greenTimed s r))
    stu := s.stu.goGreen s.tables.hill s.now
    dsp := { s.dsp with
      countdownExpiry := if 1 < s.tables.hill.startTime then some (after s.now Config.second) else none } }

theorem enterGreen_eq {s : State} {k : Fin 4} {r : JumpRecord} (held : s.jtb.get k = some r) :
    s.enterGreen k = ((greening k r s).enterState k .green).sendCountdown s.tables.hill.startTime := by
  rw [State.enterGreen, State.updateRecord_of_get _ _ _ held]
  rfl

theorem greening_get {s : State} {k : Fin 4} {r : JumpRecord} : (greening k r s).jtb.get k = some (greenTimed s r) :=
  (JumpTable.get_set ..).trans (if_pos rfl)

/-- The lamp of a GREEN entry: GREEN, or flashing when the whole start time flashes (R113). -/
def greenLamp (h : HillTable) : Lamp := if h.flashTime = h.startTime then .greenFlash else .green

/-- A state once the record of a slot has entered GREEN. -/
def inGreen (k : Fin 4) (r : JumpRecord) (s : State) : State :=
  { s with
    jtb := s.jtb.set k (some (greenRecord s.tables.hill s.now s.stu.gate r))
    stu := wentGreen s.tables.hill s.now s.stu
    lsc := { s.lsc with lampSlot := greenLamp s.tables.hill } }

section
variable {s : State} {k : Fin 4} {r : JumpRecord}

theorem enterGreen_shown (held : s.jtb.get k = some r) (round : s.competition.isOpen = true) (alone : AloneIn k s.jtb) :
    ButShown (inGreen k r s) (s.enterGreen k) ∧
      (s.enterGreen k).dsp.countdownExpiry = (if 1 < s.tables.hill.startTime then some (after s.now 10000) else none) ∧
      (s.enterGreen k).dsp.countdownSeconds = s.tables.hill.startTime ∧
      (s.enterGreen k).dsp.countdownLamp = greenLamp s.tables.hill := by
  have lamp : derivedLamp (greening k r s).competition ((greening k r s).jtb.set k (some ((greenTimed s r).inState .green)))
      (greening k r s).stu.flashing = greenLamp s.tables.hill := by
    refine (derivedLamp_green (k := k) round (aloneIn_set (aloneIn_set alone _) _)
      ((JumpTable.get_set ..).trans (if_pos rfl)) rfl _).trans ?_
    simp [greenLamp, greening, StartUnit.goGreen]
  obtain ⟨entered, dsp, -⟩ := enterState_shown .green greening_get lamp
  have shown : inEntered k (greenTimed s r) .green (greenLamp s.tables.hill) (greening k r s) =
      { inGreen k r s with dsp := (greening k r s).dsp } := by
    simp only [inEntered, greening, JumpTable.set_set]
    rw [StartUnit.goGreen, fixReference_eq]
    rfl
  rw [shown] at entered
  have stu : ((greening k r s).enterState k .green).stu.lamp = greenLamp s.tables.hill :=
    butShown_same (·.stu.lamp) entered fun _ => rfl
  rw [enterGreen_eq held]
  refine ⟨butShown_trans (butShown_trans (display_butShown _ _) entered) (sendCountdown_butShown _ _), ?_, ?_, ?_⟩
  · rw [State.sendCountdown, sendPage_dsp, dsp]
    rfl
  · rw [State.sendCountdown, sendPage_dsp]
  · rw [State.sendCountdown, sendPage_dsp]
    exact stu

theorem enterGreen_office (held : s.jtb.get k = some r) :
    (s.enterGreen k).office = ((greening k r s).enterState k .green).office := by
  rw [enterGreen_eq held, State.sendCountdown, sendPage_office]

theorem enterGreen_reports (held : s.jtb.get k = some r) (enabled : s.enables.jump = true) (room : s.office.count < 60) :
    .jump r.bib (some k) (some .green) .advance .none r.flags ∈ (s.enterGreen k).office.reports := by
  rw [enterGreen_office held]
  exact enterState_reports (r := greenTimed s r) .green greening_get enabled room

theorem enterGreen_keeps_report (held : s.jtb.get k = some r) {x : Report} (waits : x ∈ s.office.reports) :
    x ∈ (s.enterGreen k).office.reports := by
  rw [enterGreen_office held]
  exact (enterState_gains .green greening_get).keeps_report waits

end

/-- A GREEN entry within a command at a hill time, from a state that has the record in its slot and differs from the command's own
in that, in the lamp and in what is shown at most. -/
theorem enteredGreen_of {now : Time} {s v t : State} {k : Fin 4} {r : JumpRecord}
    (same : ButShown
      { s.setNow now with
        jtb := v.jtb
        stu := { s.stu with lamp := v.stu.lamp }
        lsc := { s.lsc with lampSlot := v.lsc.lampSlot } } v)
    (slots : ∀ x, v.jtb.set k x = s.jtb.set k x) (held : v.jtb.get k = some r) (round : v.competition.isOpen = true)
    (alone : AloneIn k v.jtb) (leaves : ButReports (v.enterGreen k) t) (shows : t.dsp = (v.enterGreen k).dsp) :
    EnteredGreen now k r s t := by
  obtain ⟨shown, expiry, seconds, lamp⟩ := enterGreen_shown held round alone
  have time : v.now = now := (butShown_same State.now same fun _ => rfl :)
  have tables : v.tables = s.tables := (butShown_same State.tables same fun _ => rfl :)
  have entered := butShown_trans (butShown_map (inGreen k r) same fun _ => rfl)
    (butShown_trans shown (butShown_of_reports leaves))
  have stu : t.stu.lamp = greenLamp v.tables.hill :=
    (butShown_same (·.stu.lamp) (butShown_trans shown (butShown_of_reports leaves)) fun _ => rfl :)
  rw [tables] at expiry seconds lamp stu
  refine ⟨?_, ?_, ?_, ?_⟩
  · rw [inGreen, slots] at entered
    exact entered
  · rw [shows, expiry, time]
  · rw [shows, seconds]
  · rw [shows, lamp, stu]

end Sys2Proof.Proofs
end

section
/-! The commands of the start: CLEAR and WIND_GATE, HOLD and ANNUL, and the expiries of the bar (R61, R104 to R117, R176). -/

namespace Sys2Proof.Proofs

open Sys2Proof.Machine Sys2Proof.Claims

/-! ### The record that CLEAR creates (R61, R104, R108) -/

theorem foldl_max_ge (l : List (Fin 4 × JumpRecord)) (n : Nat) :
    n ≤ l.foldl (fun n x => max n (x.2.serial + 1)) n ∧
      ∀ x ∈ l, x.2.serial < l.foldl (fun n x => max n (x.2.serial + 1)) n := by
  induction l generalizing n with
  | nil => simp
  | cons y rest ih =>
    obtain ⟨more, listed⟩ := ih (max n (y.2.serial + 1))
    rw [List.foldl_cons]
    refine ⟨by omega, fun x here => ?_⟩
    rcases List.mem_cons.1 here with rfl | here
    · omega
    · exact listed x here

theorem serial_lt_next {t : JumpTable} {k : Fin 4} {r : JumpRecord} (held : t.get k = some r) : r.serial < t.nextSerial :=
  (foldl_max_ge t.records 0).2 (k, r) ((t.mem_records k r).2 held)

theorem freeSlot_of_lowest {t : JumpTable} {k : Fin 4} (free : t.get k = none) (lowest : ∀ j < k, t.get j ≠ none) :
    t.freeSlot = some k := by
  have held : ∀ j < k, (t.get j).isNone = false := fun j before => Option.isNone_eq_false_iff.2
    (Option.isSome_iff_ne_none.2 (lowest j before))
  have empty : (t.get k).isNone = true := Option.isNone_iff_eq_none.2 free
  have passed : ∀ j < k, ¬(t.get j).isNone = true := fun j before => Bool.eq_false_iff.1 (held j before)
  unfold JumpTable.freeSlot
  fin_cases k
  · exact if_pos empty
  · exact (if_neg (passed 0 (by decide))).trans (if_pos empty)
  · exact (if_neg (passed 0 (by decide))).trans ((if_neg (passed 1 (by decide))).trans (if_pos empty))
  · exact (if_neg (passed 0 (by decide))).trans
      ((if_neg (passed 1 (by decide))).trans ((if_neg (passed 2 (by decide))).trans (if_pos empty)))

/-- A state as it stands once CLEAR has created the record of a bib, but for its reports and pages. -/
def inCleared (k : Fin 4) (bib : Nat) (rest : List Nat) (s : State) : State :=
  { s with
    startList := rest
    jtb := s.jtb.set k (some (clearedRecord s s.now bib))
    stu := { s.stu with
      lamp := .yellow
      coachRequest := if s.stu.coachRequest = some bib then none else s.stu.coachRequest }
    lsc := { s.lsc with lampSlot := .yellow } }

section
variable {s : State} (k : Fin 4) (bib : Nat) (rest : List Nat)

/-- The creation of a record up to its report: the lamp goes to YELLOW. -/
theorem createRecord_eq (round : s.competition.isOpen = true) :
    s.createRecord k bib rest = State.sendCurrent k (State.reportRecord k .advance (inCleared k bib rest s)) := by
  have coach : (if s.stu.coachRequest = some bib then { s.stu with coachRequest := none } else s.stu) =
      { s.stu with coachRequest := if s.stu.coachRequest = some bib then none else s.stu.coachRequest } := by
    split <;> rfl
  have lamp : derivedLamp s.competition (s.jtb.set k (some (clearedRecord s s.now bib))) s.stu.flashing = .yellow :=
    derivedLamp_yellow round ((JumpTable.get_set ..).trans (if_pos rfl)) rfl _
  unfold State.createRecord
  simp only [coach]
  rw [deriveLamp_eq (lamp := .yellow) lamp]
  rfl

theorem inCleared_get : (inCleared k bib rest s).jtb.get k = some (clearedRecord s s.now bib) :=
  (JumpTable.get_set ..).trans (if_pos rfl)

theorem createRecord_shown (round : s.competition.isOpen = true) :
    ButShown (inCleared k bib rest s) (s.createRecord k bib rest) ∧
      (s.createRecord k bib rest).dsp.current =
        some (recordPage s.tables.competitors s.stu.gate (clearedRecord s s.now bib)) := by
  rw [createRecord_eq k bib rest round]
  refine ⟨butShown_trans (butShown_of_reports (reportRecord_butReports _ _ _)) (sendCurrent_butShown _ _), ?_⟩
  have stands : (State.reportRecord k .advance (inCleared k bib rest s)).jtb.get k = some (clearedRecord s s.now bib) := by
    rw [State.reportRecord_jtb]
    exact inCleared_get k bib rest
  simp only [State.sendCurrent, stands, sendPage_dsp]
  rw [recordImage_eq, State.reportRecord_tables, State.reportRecord_stu]
  rfl

theorem sendCurrent_office (k : Fin 4) (s : State) : (s.sendCurrent k).office = s.office := by
  unfold State.sendCurrent
  split
  · rfl
  · rw [sendPage_office]

theorem createRecord_office (round : s.competition.isOpen = true) :
    (s.createRecord k bib rest).office = (State.reportRecord k .advance (inCleared k bib rest s)).office := by
  rw [createRecord_eq k bib rest round, sendCurrent_office]

theorem createRecord_count (round : s.competition.isOpen = true) :
    (s.createRecord k bib rest).office.count ≤ s.office.count + 1 := by
  rw [createRecord_office k bib rest round]
  exact (State.reportRecord_gains (inCleared k bib rest s) k .advance).count

theorem createRecord_reports (round : s.competition.isOpen = true) (enabled : s.enables.jump = true)
    (room : s.office.count < 60) :
    .jump bib (some k) (some .cleared) .advance .none .none ∈ (s.createRecord k bib rest).office.reports := by
  rw [createRecord_office k bib rest round]
  exact State.reportRecord_waits _ k .advance (inCleared_get k bib rest) room enabled

end

/-! ### WIND_GATE (R111) -/

section
variable {on : Byte} {s : State}

theorem setWindGate_on (one : on.toNat = 1) :
    setWindGate on s = accept (.windGate true) { s with stu := { s.stu with windGate := true } } := by
  simp only [setWindGate, one]

theorem setWindGate_refuses (other : 1 < on.toNat) : setWindGate on s = refuse .badValue s := by
  unfold setWindGate
  split
  · omega
  · omega
  · rfl

theorem setWindGate_off_bare (zero : on.toNat = 0) (bare : ∀ k r, s.jtb.get k = some r → r.state ≠ .cleared) :
    setWindGate on s = accept (.windGate false) { s with stu := { s.stu with windGate := false } } := by
  have none : (s.jtb.inState fun x => decide (x = .cleared)) = none :=
    JumpTable.inState_none_iff.2 fun k r held => decide_eq_false (bare k r held)
  simp only [setWindGate, zero, none]

theorem setWindGate_off_cleared (zero : on.toNat = 0) {k : Fin 4} {r : JumpRecord} (one : OneActive s.jtb)
    (held : s.jtb.get k = some r) (cleared : r.state = .cleared) :
    setWindGate on s =
      accept (.windGate false) (State.enterGreen k { s with stu := { s.stu with windGate := false } }) := by
  simp only [setWindGate, zero, inState_of_state one rfl held cleared]

end

/-- What passes Table 7-1: the round is open, and nobody is on the bar or the course. -/
theorem clear_passed {s : State} (first : FirstOf (clearRefusals s) none) :
    s.competition.isOpen = true ∧ ∀ k r, s.jtb.get k = some r → r.state.active = false := by
  simp only [clearRefusals, FirstOf, reduceCtorEq, and_false, false_or] at first
  obtain ⟨round, -, bare, -⟩ := first
  refine ⟨(isOpen_iff_roundOpen s).2 (not_not.1 round), fun k r held => ?_⟩
  by_contra active
  exact bare ⟨k, r, held, (active_iff _).1 (by simpa using active)⟩

/-- The wind wait armed (R108). -/
def windWaits (x : Time) (s : State) : State := { s with stu := { s.stu with windWait := some x } }

/-- Settles O16: CLEAR by the wind-gate switch, from the created record on; WIND_GATE by its value and the CLEARED record. -/
theorem greenIsEntered : Obligations.GreenIsEntered := by
  unfold Obligations.GreenIsEntered
  refine ⟨fun now seq s bib rest k listens first listed free lowest =>
      ⟨fun j r held => serial_lt_next held, fun on => ?waits, fun off => ?goes⟩,
    fun now seq on s listens one records => ⟨fun other => request_refused listens (setWindGate_refuses other),
      fun on => request_replied listens (setWindGate_on on),
      fun off bare => request_replied listens (setWindGate_off_bare (s := s.asked now) off bare),
      fun k r off held cleared => ?switches⟩⟩
  case waits =>
    obtain ⟨round, bare⟩ := clear_passed first
    have taken := clearJumper_of_head (s := s.asked now) listed (freeSlot_of_lowest free lowest) first
    rw [show (s.asked now).stu.windGate = true from on, headCleared,
      if_pos (show (s.asked now).stu.windGate = true from on)] at taken
    obtain ⟨t, exec_eq, answer, same, shows, -, -, reports⟩ := request_accepted (now := now) (seq := seq) (code := 0x30)
      listens taken
    obtain ⟨created, current⟩ := createRecord_shown (s := s.asked now) k bib rest round
    refine ⟨t, exec_eq, answer, ?_, (congrArg Display.current shows).trans current, fun enabled room => reports _ ?_⟩
    · exact butShown_trans (butShown_map (windWaits (after now (s.tables.hill.windWait * 10000))) created fun _ => rfl)
        (butShown_of_reports same)
    · exact createRecord_reports (s := s.asked now) k bib rest round enabled (Nat.lt_of_le_of_lt (asked_count now s) room)
  case goes =>
    obtain ⟨round, bare⟩ := clear_passed first
    have taken := clearJumper_of_head (s := s.asked now) listed (freeSlot_of_lowest free lowest) first
    rw [show (s.asked now).stu.windGate = false from off, headCleared,
      if_neg (show ¬(s.asked now).stu.windGate = true by rw [show (s.asked now).stu.windGate = false from off]; decide)] at taken
    obtain ⟨t, exec_eq, answer, same, shows, -, -, reports⟩ := request_accepted (now := now) (seq := seq) (code := 0x30)
      listens taken
    obtain ⟨created, -⟩ := createRecord_shown (s := s.asked now) k bib rest round
    have jtb : ((s.asked now).createRecord k bib rest).jtb = s.jtb.set k (some (clearedRecord s now bib)) :=
      (butShown_same State.jtb created fun _ => rfl :)
    have stu : ((s.asked now).createRecord k bib rest).stu.lamp = .yellow :=
      (butShown_same (·.stu.lamp) created fun _ => rfl :)
    have slot : ((s.asked now).createRecord k bib rest).lsc.lampSlot = .yellow :=
      (butShown_same (·.lsc.lampSlot) created fun _ => rfl :)
    have held : ((s.asked now).createRecord k bib rest).jtb.get k = some (clearedRecord s now bib) := by
      rw [jtb]
      exact (JumpTable.get_set ..).trans (if_pos rfl)
    have open_ : ((s.asked now).createRecord k bib rest).competition.isOpen = true :=
      (congrArg CompState.isOpen (butShown_same State.competition created fun _ => rfl :)).trans round
    have count := Nat.le_trans (createRecord_count (s := s.asked now) k bib rest round)
      (Nat.succ_le_succ (asked_count now s))
    refine ⟨t, exec_eq, answer, enteredGreen_of ?_ ?_ held open_ ?_ same shows, fun enabled room => ⟨reports _ ?_, reports _ ?_⟩⟩
    · rw [jtb, stu, slot]
      exact created
    · intro x
      rw [jtb, JumpTable.set_set]
    · rw [jtb]
      exact aloneIn_set (aloneIn_of_none bare k) _
    · exact enterGreen_keeps_report held (createRecord_reports (s := s.asked now) k bib rest round enabled
        (by have := asked_count now s; omega))
    · exact enterGreen_reports held ((butShown_same (·.enables.jump) created fun _ => rfl :).trans enabled) (by omega)
  case switches =>
    obtain ⟨t, exec_eq, answer, same, shows, -, -, reports⟩ := request_accepted (now := now) (seq := seq) (code := 0x32)
      listens (setWindGate_off_cleared (s := s.asked now) off one held cleared)
    refine ⟨t, exec_eq, answer, enteredGreen_of
      (v := { s.asked now with stu := { s.stu with windGate := false } }) ?_ (fun _ => rfl) held (isOpen_of_record records held)
      (aloneIn_of_active one held (by rw [cleared]; rfl)) same shows⟩
    rfl

end Sys2Proof.Proofs
end

section
/-! The bar left: HOLD, ANNUL and the expiries of a record on the bar (R66, R72, R110, R113, R114, R117, R176). -/

namespace Sys2Proof.Proofs

open Sys2Proof.Machine Sys2Proof.Claims

theorem onBar_iff (x : RecState) : x.onBar = true ↔ x = .cleared ∨ x = .green ∨ x = .late := by
  cases x <;> simp [RecState.onBar]

/-! ### HOLD (R117) -/

theorem holdJumper_refuses {s : State}
    (bare : ∀ k r, s.jtb.get k = some r → r.state ≠ .cleared ∧ r.state ≠ .green ∧ r.state ≠ .late) :
    holdJumper s = refuse .wrongState s := by
  have none : s.jtb.inState RecState.onBar = none := by
    refine JumpTable.inState_none_iff.2 fun k r held => Bool.eq_false_iff.2 fun onBar => ?_
    obtain ⟨cleared, green, late⟩ := bare k r held
    rcases (onBar_iff _).1 onBar with h | h | h
    · exact cleared h
    · exact green h
    · exact late h
  simp only [holdJumper, none]

theorem holdJumper_accepts {s : State} {k : Fin 4} {r : JumpRecord} (one : OneActive s.jtb) (held : s.jtb.get k = some r)
    (onBar : r.state.onBar = true) : holdJumper s = accept (.jumpAt r.bib k r.state) (s.withdraw k .hold) := by
  simp only [holdJumper, inState_of_active one (fun _ => active_of_onBar) held onBar]

/-! ### ANNUL (R72) -/

/-- The refusals of ANNUL, in the order of R72. -/
def annulRefusals (bib : Nat) (s : State) : List (Prop × Status) :=
  [(¬(1 ≤ bib ∧ bib ≤ 999), .badValue), (∀ k r, s.jtb.get k = some r → r.bib ≠ bib, .notFound)]

theorem annul_refuses {bib : Half} {s : State} {status : Status} (first : FirstOf (annulRefusals bib.toNat s) (some status)) :
    annul bib s = refuse status s := by
  rcases first with ⟨outside, refused⟩ | ⟨inside, ⟨free, refused⟩ | ⟨-, none⟩⟩
  · cases refused
    exact if_neg (mt (bibInRange_iff _).1 outside)
  · cases refused
    rw [annul, if_pos ((bibInRange_iff _).2 (not_not.1 inside))]
    simp only [(holding_eq_none_iff _ _).2 free]
  · cases none

theorem annul_accepts {bib : Half} {s : State} {k : Fin 4} {r : JumpRecord} (first : FirstOf (annulRefusals bib.toNat s) none)
    (holds : s.jtb.holding bib.toNat = some (k, r)) :
    annul bib s = accept (.annulled k r.state) (s.withdraw k .annulled) := by
  have inside : 1 ≤ bib.toNat ∧ bib.toNat ≤ 999 := not_not.1 (first.elim (fun h => nomatch h.2) And.left)
  rw [annul, if_pos ((bibInRange_iff _).2 inside)]
  simp only [holds]

/-! ### The wind wait expiry (R110) -/

theorem takeWindWait_eq {s : State} {k : Fin 4} {r : JumpRecord} (one : OneActive s.jtb) (held : s.jtb.get k = some r)
    (cleared : r.state = .cleared) :
    s.takeWindWait =
      s.withdraw k (if s.stu.lastLiveWind = none then .liveWindUnavailable else .windTimeout) := by
  simp only [State.takeWindWait, inState_of_state one rfl held cleared, Option.isNone_iff_eq_none]

/-- Settles O18: the record on the bar is unique, and each of the three frees it with its own reason. -/
theorem barIsLeft : Obligations.BarIsLeft := by
  unfold Obligations.BarIsLeft
  refine ⟨fun now seq s listens one records => ⟨fun bare => request_refused listens (holdJumper_refuses (s := s.asked now) bare),
      fun k r held onBar => ?holds, fun bib o first => ⟨?refuses, ?annuls⟩⟩,
    fun now s k r held one records due stands cleared => ?expires⟩
  case holds =>
    obtain ⟨t, exec_eq, answer, same, shows, -, -, reports⟩ := request_accepted (now := now) (seq := seq) (code := 0x31)
      listens (holdJumper_accepts (s := s.asked now) one held ((onBar_iff _).2 onBar))
    refine ⟨t, exec_eq, answer, withdrawn_of (v := s.asked now) .hold one records held rfl same shows,
      fun enabled room => reports _ ?_⟩
    exact withdraw_reports (s := s.asked now) .hold held enabled (Nat.lt_of_le_of_lt (asked_count now s) room)
  case refuses =>
    rintro status rfl
    exact request_refused listens (annul_refuses (s := s.asked now) first)
  case annuls =>
    rintro k r rfl holds
    have held := get_of_holding holds
    obtain ⟨t, exec_eq, answer, same, shows, -, -, reports⟩ := request_accepted (now := now) (seq := seq) (code := 0x36)
      listens (annul_accepts (s := s.asked now) first holds)
    refine ⟨t, exec_eq, answer, withdrawn_of (v := s.asked now) .annulled one records held rfl same shows,
      fun enabled room => reports _ ?_⟩
    exact withdraw_reports (s := s.asked now) .annulled held enabled (Nat.lt_of_le_of_lt (asked_count now s) room)
  case expires =>
    obtain ⟨t, exec_eq, same, shows, -, -, reports⟩ := event_taken (now := now) held
      ((if_pos due).trans (takeWindWait_eq (s := s.setNow now) one stands cleared))
    refine ⟨t, exec_eq, withdrawn_of (v := s.setNow now) _ one records stands (butReports_refl _) same shows,
      fun enabled room => reports _ (withdraw_reports (s := s.setNow now) _ stands enabled room)⟩

/-! ### The expiries of a GREEN record (R113, R114, R176) -/

section
variable {s : State} {k : Fin 4} {r : JumpRecord} {green : Time}

/-- STU in the flash phase. -/
def flashes (s : State) : State :=
  { s with
    stu := { s.stu with greenFlash := none, flashing := true, lamp := .greenFlash }
    lsc := { s.lsc with lampSlot := .greenFlash } }

theorem takeGreenFlash_eq (one : OneActive s.jtb) (round : s.competition.isOpen = true) (held : s.jtb.get k = some r)
    (state : r.state = .green) (since : r.greenTime = some green) :
    s.takeGreenFlash = (flashes s).sendCountdown (s.tables.hill.startTime - (s.now - green).toNat / 10000) := by
  have lamp : derivedLamp s.competition s.jtb true = .greenFlash :=
    derivedLamp_green round (aloneIn_of_active one held (by rw [state]; rfl)) held state true
  simp only [State.takeGreenFlash, inState_of_state one rfl held state, since, Option.getD_some]
  rw [deriveLamp_eq (s := { s with stu := { s.stu with greenFlash := none, flashing := true } }) lamp]
  rfl

theorem takeCountdown_eq (one : OneActive s.jtb) (held : s.jtb.get k = some r) (state : r.state = .green)
    (since : r.greenTime = some green) :
    s.takeCountdown = State.sendCountdown (s.tables.hill.startTime - (s.now - green).toNat / 10000)
      { s with dsp := { s.dsp with countdownExpiry :=
          if 1 < s.tables.hill.startTime - (s.now - green).toNat / 10000 then some (after s.now 10000) else none } } := by
  simp only [State.takeCountdown, inState_of_state one rfl held state, since, Option.getD_some]
  rfl

/-- STU with the bar's expiries disarmed, and the countdown stopped. -/
def disarmed (s : State) : State := { s with stu := barLeft s.stu, dsp := { s.dsp with countdownExpiry := none } }

theorem takeGreenExpiry_eq (one : OneActive s.jtb) (held : s.jtb.get k = some r) (state : r.state = .green) :
    s.takeGreenExpiry = ((disarmed s).enterState k .late).sendCountdown 0 := by
  simp only [State.takeGreenExpiry, inState_of_state one rfl held state]
  rfl

end

/-- Settles O19: the GREEN record is unique, so each expiry finds it. -/
theorem greenTimesOut : Obligations.GreenTimesOut := by
  unfold Obligations.GreenTimesOut
  intro now s k r green outside one records held state since
  have round := isOpen_of_record records held
  have alone := aloneIn_of_active one held (by rw [state]; rfl)
  refine ⟨fun due => ?flash, fun due => ?second, fun due => ?expiry⟩
  case flash =>
    obtain ⟨t, exec_eq, same, shows, -, -, -⟩ := event_taken (now := now) outside
      ((if_pos due).trans (takeGreenFlash_eq (s := s.setNow now) one round held state since))
    refine ⟨t, exec_eq, butShown_trans (sendCountdown_butShown (flashes (s.setNow now)) _) (butShown_of_reports same), ?_, ?_⟩
    · rw [shows, State.sendCountdown, sendPage_dsp]
      rfl
    · rw [shows, State.sendCountdown, sendPage_dsp]
      rfl
  case second =>
    obtain ⟨t, exec_eq, same, shows, -, -, -⟩ := event_taken (now := now) outside
      ((if_pos due).trans (takeCountdown_eq (s := s.setNow now) one held state since))
    refine ⟨t, exec_eq, butShown_trans (butShown_trans (display_butShown (s.setNow now) _) (sendCountdown_butShown _ _))
      (butShown_of_reports same), ?_, ?_, ?_⟩
    all_goals
      rw [shows, State.sendCountdown, sendPage_dsp]
      rfl
  case expiry =>
    have lamp : derivedLamp s.competition (s.jtb.set k (some (r.inState .late))) (barLeft s.stu).flashing = .red :=
      derivedLamp_set_left round alone (by simp [JumpRecord.inState]) _
    obtain ⟨t, exec_eq, same, shows, -, -, reports⟩ := event_taken (now := now) outside
      ((if_pos due).trans (takeGreenExpiry_eq (s := s.setNow now) one held state))
    obtain ⟨entered, dsp, -⟩ := enterState_shown (s := disarmed (s.setNow now)) .late held lamp
    have stu : ((disarmed (s.setNow now)).enterState k .late).stu.lamp = .red :=
      (butShown_same (·.stu.lamp) entered fun _ => rfl :)
    refine ⟨t, exec_eq, butShown_trans (butShown_trans entered (sendCountdown_butShown _ _)) (butShown_of_reports same),
      ?_, ?_, ?_, fun enabled room => reports _ ?_⟩
    · rw [shows, State.sendCountdown, sendPage_dsp, dsp]
      rfl
    · rw [shows, State.sendCountdown, sendPage_dsp]
    · rw [shows, State.sendCountdown, sendPage_dsp]
      exact stu
    · rw [State.sendCountdown, sendPage_office]
      exact enterState_reports (s := disarmed (s.setNow now)) .late held enabled room

end Sys2Proof.Proofs
end

section
/-! Station frames: the judgement of a frame by the line and the station directory, and the items of EDGE and GATE frames (R3, R4,
R9, R10, R16 to R20). -/

namespace Sys2Proof.Proofs

open Sys2Proof.Machine Sys2Proof.Claims

theorem portOfSeg_eq (p : Seg) : portOfSeg p = portFor p := by
  cases p <;> rfl

/-! ### A frame before the station directory -/

section
variable {now : Time} {seg : Seg} {source kind seq : Byte} {payload : List Byte} {s : State}

theorem frame_dropped (held : s.heldInReset = false) (drops : (s.line (portFor seg)).dropping = true) :
    event now (State.stationFrame seg source kind seq payload) s =
      .next (State.pumpOffice ((s.setNow now).setLine (portFor seg) { s.line (portFor seg) with dropping := false })) := by
  refine (event_outside_reset _ _ _ held).trans ?_
  rw [← portOfSeg_eq] at drops ⊢
  rw [State.stationFrame, (State.dropOr_spec (s.setNow now) _ _).1 (by rw [line_setNow]; exact drops), line_setNow]

theorem frame_unslotted (takes : (s.line (portFor seg)).dropping = false) (none : (s.seg seg).slot = none) :
    State.stationFrame seg source kind seq payload s = s.countFailure (portFor seg) .source := by
  rw [← portOfSeg_eq] at takes ⊢
  rw [State.stationFrame, (State.dropOr_spec s _ _).2 takes]
  simp only [none]

variable {slot : Slot}

theorem frame_of_other (takes : (s.line (portFor seg)).dropping = false) (open_ : (s.seg seg).slot = some slot)
    (other : slot.entry.addr ≠ source.toNat) :
    State.stationFrame seg source kind seq payload s = (s.countFailure (portFor seg) .source).endBegun seg false := by
  rw [← portOfSeg_eq] at takes ⊢
  rw [State.stationFrame, (State.dropOr_spec s _ _).2 takes]
  simp only [open_, if_neg other]

theorem frame_orphaned (takes : (s.line (portFor seg)).dropping = false) (open_ : (s.seg seg).slot = some slot)
    (own : slot.entry.addr = source.toNat) (orphan : slot.orphan = true) :
    State.stationFrame seg source kind seq payload s = s.endBegun seg true := by
  rw [← portOfSeg_eq] at takes
  rw [State.stationFrame, (State.dropOr_spec s _ _).2 takes]
  simp only [open_, if_pos own, orphan, if_true]

theorem frame_directed (takes : (s.line (portFor seg)).dropping = false) (open_ : (s.seg seg).slot = some slot)
    (own : slot.entry.addr = source.toNat) (stays : slot.orphan = false) :
    State.stationFrame seg source kind seq payload s =
      (s.endBegun seg true).direct seg slot.entry slot.lampSent kind seq payload := by
  rw [← portOfSeg_eq] at takes
  rw [State.stationFrame, (State.dropOr_spec s _ _).2 takes]
  simp only [open_, if_pos own, stays, Bool.false_eq_true, if_false]

end

/-! ### The station directory (R16 to R19) -/

section
variable {now : Time} {seg : Seg} {source seq : Byte} {s : State} {slot : Slot} {of : StationKind}

/-- A frame in the open slot of its station is judged by the station directory, once the slot has ended. -/
theorem frame_slotted (slotted : Slotted s seg source of slot) (kind seq : Byte) (payload : List Byte) :
    event now (State.stationFrame seg source kind seq payload) s =
      .next (State.pumpOffice
        ((slotEnded seg now s).direct seg slot.entry slot.lampSent kind seq payload)) := by
  obtain ⟨outside, open_, own, stays, -, takes⟩ := slotted
  refine (event_outside_reset _ _ _ outside).trans ?_
  rw [frame_directed (s := s.setNow now) (by rw [line_setNow]; exact takes) (by rw [seg_setNow]; exact open_) own stays]
  rfl

/-- A frame that its station may not send, or that fails whole, is discarded with STATION_DATA_BAD (R16, R17). -/
theorem direct_discards {e : StationEntry} {lamp : Option Lamp} {kind : Byte} {payload : List Byte}
    (bad : maySend e.role.kind kind.toNat = false ∨ formCheck e.role.kind kind.toNat payload = none) (u : State) :
    u.direct seg e lamp kind seq payload = u.raise .stationDataBad e.addr := by
  rw [State.direct]
  rcases bad with unsent | failed
  · rw [if_neg (by rw [unsent]; decide)]
  · rw [failed]
    exact ite_self _

theorem frame_discards (slotted : Slotted s seg source of slot) {kind : Byte} {payload : List Byte}
    (bad : maySend of kind.toNat = false ∨ formCheck of kind.toNat payload = none) :
    event now (State.stationFrame seg source kind seq payload) s =
      .next (State.pumpOffice ((slotEnded seg now s).raise .stationDataBad slot.entry.addr)) := by
  rw [frame_slotted slotted]
  obtain ⟨-, -, -, -, own, -⟩ := slotted
  subst own
  rw [direct_discards bad]

/-- A frame that passes its form checks and is no PASS is handed to its unit, and mirrored where its station says so (R18, R19). -/
theorem frame_accepted (slotted : Slotted s seg source of slot) {kind : Byte} {payload kept : List Byte} {f : StationFrame}
    {thinned : Bool} (sends : maySend of kind.toNat = true)
    (checked : formCheck of kind.toNat payload = some ⟨f, kept, thinned⟩) (plain : f ≠ .pass) :
    event now (State.stationFrame seg source kind seq payload) s =
      Claims.mirrored slot seg kind seq kept
        (State.route slot.entry slot.lampSent f
          (if thinned then (slotEnded seg now s).raise .stationDataBad slot.entry.addr else slotEnded seg now s)) := by
  rw [frame_slotted slotted]
  obtain ⟨-, -, -, -, own, -⟩ := slotted
  subst own
  have copied : Machine.mirrored slot.entry f = slot.entry.mirror := by simp [Machine.mirrored, plain]
  rw [State.direct, if_pos sends, checked]
  simp only [copied]
  rfl

end

/-! ### Edge items (R17, Table 2-13) -/

theorem natOf_eq (h l : Byte) : natOf h l = h.toNat * 256 + l.toNat := rfl

theorem u16_natOf (h l : Byte) : u16 (natOf h l) = [h, l] := by
  have high : BitVec.ofNat 8 ((h.toNat * 256 + l.toNat) / 256) = h := by
    apply BitVec.eq_of_toNat_eq
    have := l.isLt
    have := h.isLt
    rw [BitVec.toNat_ofNat]
    omega
  have low : BitVec.ofNat 8 (h.toNat * 256 + l.toNat) = l := by
    apply BitVec.eq_of_toNat_eq
    have := l.isLt
    rw [BitVec.toNat_ofNat]
    omega
  rw [natOf_eq]
  exact congrArg₂ (fun a b => [a, b]) high low

theorem u8_toNat (b : Byte) : u8 b.toNat = [b] := by
  simp [u8]

theorem rawItem_bytes (i : RawItem) : EdgeItem.bytes i.item = i.bytes := by
  simp only [EdgeItem.bytes, RawItem.item, u8_toNat, ← natOf_eq, u16_natOf]
  rfl

theorem edgeItemsOf_bytes (items : List RawItem) :
    edgeItemsOf items.length (items.flatMap RawItem.bytes) = items.map RawItem.item := by
  induction items with
  | nil => rfl
  | cons i rest ih => exact congrArg (i.item :: ·) ih

theorem length_bytes (items : List RawItem) : (items.flatMap RawItem.bytes).length = 5 * items.length := by
  induction items with
  | nil => rfl
  | cons i rest ih =>
    rw [List.flatMap_cons, List.length_append, ih, List.length_cons]
    change 5 + _ = _
    omega

/-- The edge kind of a station kind (R17). -/
def edgeKind : StationKind → Byte
  | .gate => 2
  | .landing => 3
  | _ => 1

theorem rawItem_fits (of : StationKind) (i : RawItem) : EdgeItem.fits of i.item = RawItem.fits (edgeKind of) i := by
  have kind : ∀ code : Byte, (i.kind.toNat = code.toNat ↔ i.kind = code) := fun code => BitVec.toNat_inj
  cases of <;> simp only [EdgeItem.fits, RawItem.fits, edgeKind, RawItem.item, ← kind] <;> rfl

theorem filter_items (of : StationKind) (items : List RawItem) :
    (items.map RawItem.item).filter (EdgeItem.fits of) = (items.filter (RawItem.fits (edgeKind of))).map RawItem.item := by
  rw [List.filter_map]
  exact congrArg _ (List.filter_congr fun i _ => rawItem_fits of i)

theorem flatMap_bytes (items : List RawItem) : (items.map RawItem.item).flatMap EdgeItem.bytes = items.flatMap RawItem.bytes := by
  rw [List.flatMap_map]
  exact congrArg items.flatMap (funext rawItem_bytes)

/-- The items of a frame are those that pass their checks, in their order (R17). -/
theorem formCheck_edge {of : StationKind} {items : List RawItem} (some : 1 ≤ items.length) (few : items.length ≤ 8) :
    formCheck of 0x12 (BitVec.ofNat 8 items.length :: items.flatMap RawItem.bytes) =
      .some ⟨.edge ((items.filter (RawItem.fits (edgeKind of))).map RawItem.item),
        BitVec.ofNat 8 (items.filter (RawItem.fits (edgeKind of))).length ::
          (items.filter (RawItem.fits (edgeKind of))).flatMap RawItem.bytes,
        decide ((items.filter (RawItem.fits (edgeKind of))).length < items.length)⟩ := by
  have count : (BitVec.ofNat 8 items.length).toNat = items.length := toNat_byte (by omega)
  have shape : 1 ≤ (BitVec.ofNat 8 items.length).toNat ∧ (BitVec.ofNat 8 items.length).toNat ≤ 8 ∧
      (items.flatMap RawItem.bytes).length = 5 * (BitVec.ofNat 8 items.length).toNat := by
    rw [count]
    exact ⟨some, few, length_bytes items⟩
  refine (if_pos shape).trans ?_
  simp only [count, edgeItemsOf_bytes, filter_items, flatMap_bytes, List.length_map]
  rfl

theorem formCheck_gate {report : Byte} {items : List RawItem} (range : report.toNat ≤ 40) (few : items.length ≤ 2) :
    formCheck .gate 0x13 (report :: BitVec.ofNat 8 items.length :: items.flatMap RawItem.bytes) =
      some ⟨.gate report.toNat ((items.filter (RawItem.fits 2)).map RawItem.item),
        report :: BitVec.ofNat 8 (items.filter (RawItem.fits 2)).length :: (items.filter (RawItem.fits 2)).flatMap RawItem.bytes,
        decide ((items.filter (RawItem.fits 2)).length < items.length)⟩ := by
  have count : (BitVec.ofNat 8 items.length).toNat = items.length := toNat_byte (by omega)
  have shape : report.toNat ≤ 40 ∧ (BitVec.ofNat 8 items.length).toNat ≤ 2 ∧
      (items.flatMap RawItem.bytes).length = 5 * (BitVec.ofNat 8 items.length).toNat := by
    rw [count]
    exact ⟨range, few, length_bytes items⟩
  refine (if_pos shape).trans ?_
  simp only [count, edgeItemsOf_bytes, filter_items, flatMap_bytes, List.length_map]
  rfl

/-! ### EDGE and GATE frames (R17, R18) -/

section
variable {now : Time} {seg : Seg} {source seq : Byte} {s u : State} {slot : Slot}

theorem gateFrame_items (slotted : Slotted s seg source .gate slot) {report : Byte} {items kept : List RawItem}
    (range : report.toNat ≤ 40) (few : items.length ≤ 2) (fit : kept = items.filter (RawItem.fits 2)) :
    exec (.gateFrame now seg source seq (report :: BitVec.ofNat 8 items.length :: items.flatMap RawItem.bytes)) s =
      Claims.mirrored slot seg 0x13 seq (report :: BitVec.ofNat 8 kept.length :: kept.flatMap RawItem.bytes)
        ((kept.map RawItem.item).foldl (State.takeGateLeft slot.entry.addr)
          (State.takeGateReport report.toNat
            (if kept.length < items.length then (slotEnded seg now s).raise .stationDataBad slot.entry.addr
              else slotEnded seg now s))) := by
  subst fit
  refine (frame_accepted (kind := 0x13) slotted rfl (formCheck_gate range few) nofun).trans ?_
  simp only [decide_eq_true_eq, State.route]

/-- A frame of one gate-left item that passes its checks. -/
theorem gateFrame_one (slotted : Slotted s seg source .gate slot) {report sensor mark high low : Byte}
    (range : report.toNat ≤ 40) (offset : high.toNat * 256 + low.toNat ≤ 9999) :
    exec (.gateFrame now seg source seq ([report, 1] ++ itemBytes 2 sensor mark high low)) s =
      Claims.mirrored slot seg 0x13 seq ([report, 1] ++ itemBytes 2 sensor mark high low)
        (State.takeGateLeft slot.entry.addr (State.takeGateReport report.toNat (slotEnded seg now s))
          ⟨2, sensor.toNat, mark, high.toNat * 256 + low.toNat⟩) := by
  have fit : [(⟨2, sensor, mark, high, low⟩ : RawItem)] = [(⟨2, sensor, mark, high, low⟩ : RawItem)].filter (RawItem.fits 2) := by
    simp [RawItem.fits, offset]
  have taken := gateFrame_items (now := now) (seq := seq) slotted range (by simp) fit
  rw [if_neg (Nat.lt_irrefl _)] at taken
  exact taken

/-- What a station hands on its edge items to, and the kind of its items (R17, R18). -/
theorem handsEdge_takes {e : StationEntry} {code : Byte} {hand : State → EdgeItem → State} (hands : HandsEdge e u code hand) :
    code = edgeKind e.role.kind ∧ maySend e.role.kind 0x12 = true ∧
      ∀ items v, v.tables = u.tables → State.takeEdges e items v = items.foldl hand v := by
  rcases hands with ⟨kind, rfl, rfl⟩ | ⟨kind, rfl, rfl⟩ | ⟨kind, rfl, rfl⟩ | ⟨kind, rfl, x, m, n, found, role, rfl⟩
  · rw [kind]
    exact ⟨rfl, rfl, fun items v _ => by simp only [State.takeEdges, kind]⟩
  · rw [kind]
    exact ⟨rfl, rfl, fun items v _ => by simp only [State.takeEdges, kind]⟩
  · rw [kind]
    exact ⟨rfl, rfl, fun items v _ => by simp only [State.takeEdges, kind]⟩
  · rw [kind]
    refine ⟨rfl, rfl, fun items v tables => ?_⟩
    have place : landingPlace v.tables.stations e.addr = (m, n) := by
      rw [tables, landingPlace, found, Option.map_some, role]
    simp only [State.takeEdges, kind, place]

theorem edgeFrame_items {code : Byte} {hand : State → EdgeItem → State} (slotted : Slotted s seg source slot.entry.role.kind slot)
    (hands : HandsEdge slot.entry (slotEnded seg now s) code hand) {items kept : List RawItem} (some : 1 ≤ items.length)
    (few : items.length ≤ 8) (fit : kept = items.filter (RawItem.fits code)) :
    exec (.edgeFrame now seg source seq (BitVec.ofNat 8 items.length :: items.flatMap RawItem.bytes)) s =
      Claims.mirrored slot seg 0x12 seq (BitVec.ofNat 8 kept.length :: kept.flatMap RawItem.bytes)
        ((kept.map RawItem.item).foldl hand
          (if kept.length < items.length then (slotEnded seg now s).raise .stationDataBad slot.entry.addr
            else slotEnded seg now s)) := by
  obtain ⟨own, sends, takes⟩ := handsEdge_takes hands
  subst fit own
  refine (frame_accepted (kind := 0x12) slotted sends (formCheck_edge some few) nofun).trans ?_
  simp only [decide_eq_true_eq, State.route]
  rw [takes]
  split
  · exact State.raise_tables _ _ _
  · rfl

/-- A frame of one edge item that passes its checks. -/
theorem edgeFrame_one {code : Byte} {hand : State → EdgeItem → State} (slotted : Slotted s seg source slot.entry.role.kind slot)
    (hands : HandsEdge slot.entry (slotEnded seg now s) code hand) {sensor mark high low : Byte}
    (offset : high.toNat * 256 + low.toNat ≤ 9999) :
    exec (.edgeFrame now seg source seq (1 :: itemBytes code sensor mark high low)) s =
      Claims.mirrored slot seg 0x12 seq (1 :: itemBytes code sensor mark high low)
        (hand (slotEnded seg now s) ⟨code.toNat, sensor.toNat, mark, high.toNat * 256 + low.toNat⟩) := by
  have fit : [(⟨code, sensor, mark, high, low⟩ : RawItem)] =
      [(⟨code, sensor, mark, high, low⟩ : RawItem)].filter (RawItem.fits code) := by
    simp [RawItem.fits, offset]
  have taken := edgeFrame_items (now := now) (seq := seq) slotted hands (by simp) (by simp) fit
  rw [if_neg (Nat.lt_irrefl _)] at taken
  exact taken

end

end Sys2Proof.Proofs
end

section
/-! Station frames judged (R16 to R20), and the frames of the wind stations (R80, R93). -/

namespace Sys2Proof.Proofs

open Sys2Proof.Machine Sys2Proof.Claims

/-- Each of the ten commands brings a frame of some kind to the line. -/
theorem exec_stationFrames {now : Time} {seg : Seg} {source kind seq : Byte} {payload : List Byte} {c : Instr}
    (listed : c ∈ stationFrames now seg source kind seq payload) (s : State) :
    ∃ k, exec c s = event now (State.stationFrame seg source k seq payload) s := by
  simp only [stationFrames, List.mem_cons, List.not_mem_nil, or_false] at listed
  rcases listed with rfl | rfl | rfl | rfl | rfl | rfl | rfl | rfl | rfl | rfl <;> exact ⟨_, rfl⟩

theorem endBegun_orphan {seg : Seg} {s : State} {slot : Slot} (good : Bool) (open_ : (s.seg seg).slot = some slot)
    (orphan : slot.orphan = true) :
    s.endBegun seg good = if slot.frameBegun = true then s.setSeg seg { s.seg seg with slot := none } else s := by
  rw [(s.endBegun_spec seg good).2 slot open_]
  simp only [State.endSlot, open_, orphan, if_true]

/-! ### What a station may send (R16) -/

/-- A kind that Table 2-7 does not give a station's kind. -/
def NotAdmitted (of : StationKind) (kind : Byte) : Prop :=
  kind ≠ 0x10 ∧ kind ≠ 0x05 ∧ (kind = 0x11 → of ≠ .wind) ∧
    (kind = 0x12 → of ≠ .cellA ∧ of ≠ .cellB ∧ of ≠ .takeoff ∧ of ≠ .landing) ∧ (kind = 0x13 → of ≠ .gate) ∧
    (kind = 0x14 → of ≠ .coach) ∧ (kind = 0x15 → of ≠ .judge) ∧ (kind = 0x16 → of ≠ .dist) ∧ (kind = 0x17 → of ≠ .light)

theorem maySend_of_notAdmitted {of : StationKind} {kind : Byte} (out : NotAdmitted of kind) :
    maySend of kind.toNat = false := by
  have code : ∀ b : Byte, (kind.toNat = b.toNat ↔ kind = b) := fun b => BitVec.toNat_inj
  obtain ⟨none, pass, wind, edge, gate, coach, style, dist, lampstat⟩ := out
  have base : ¬(kind.toNat = FrameKind.none.code ∨ kind.toNat = FrameKind.pass.code) :=
    fun h => h.elim (fun h => none ((code 0x10).1 h)) fun h => pass ((code 0x05).1 h)
  unfold maySend
  rw [decide_eq_false base, Bool.false_or]
  cases of with
  | wind => exact decide_eq_false fun h => wind ((code 0x11).1 h) rfl
  | gate => exact decide_eq_false fun h => gate ((code 0x13).1 h) rfl
  | coach => exact decide_eq_false fun h => coach ((code 0x14).1 h) rfl
  | judge => exact decide_eq_false fun h => style ((code 0x15).1 h) rfl
  | dist => exact decide_eq_false fun h => dist ((code 0x16).1 h) rfl
  | light => exact decide_eq_false fun h => lampstat ((code 0x17).1 h) rfl
  | cellA => exact decide_eq_false fun h => (edge ((code 0x12).1 h)).1 rfl
  | cellB => exact decide_eq_false fun h => (edge ((code 0x12).1 h)).2.1 rfl
  | takeoff => exact decide_eq_false fun h => (edge ((code 0x12).1 h)).2.2.1 rfl
  | landing => exact decide_eq_false fun h => (edge ((code 0x12).1 h)).2.2.2 rfl
  | board => rfl
  | aux => rfl

/-! ### The form of a station's own frames (R17) -/

section
variable {of : StationKind} {payload : List Byte}

theorem formCheck_wind (bad : ¬HasForm .wind payload) : formCheck .wind 0x11 payload = none := by
  match payload with
  | [] => rfl
  | n :: rest =>
    have outside : ¬(n.toNat ≤ 2 ∧ rest.length = 9 * n.toNat) := fun shape => bad ⟨n, rest, rfl, shape⟩
    exact if_neg outside

theorem formCheck_gate_bad (bad : ¬HasForm .gate payload) : formCheck .gate 0x13 payload = none := by
  match payload with
  | [] => rfl
  | [_] => rfl
  | report :: n :: rest =>
    have outside : ¬(report.toNat ≤ 40 ∧ n.toNat ≤ 2 ∧ rest.length = 5 * n.toNat) :=
      fun shape => bad ⟨report, n, rest, rfl, shape⟩
    exact if_neg outside

theorem formCheck_edge_bad (bad : ¬HasForm .cellA payload) : formCheck of 0x12 payload = none := by
  match payload with
  | [] => rfl
  | n :: rest =>
    have outside : ¬(1 ≤ n.toNat ∧ n.toNat ≤ 8 ∧ rest.length = 5 * n.toNat) := fun shape => bad ⟨n, rest, rfl, shape⟩
    exact if_neg outside

theorem formCheck_coach (bad : ¬HasForm .coach payload) : formCheck .coach 0x14 payload = none := by
  match payload with
  | [] => rfl
  | [_] => rfl
  | [h, l] =>
    have outside : ¬bibInRange (natOf h l) = true := fun inside => bad ⟨h, l, rfl, (bibInRange_iff _).1 inside⟩
    exact if_neg outside
  | _ :: _ :: _ :: _ => rfl

theorem formCheck_style (bad : ¬HasForm .judge payload) : formCheck .judge 0x15 payload = none := by
  match payload with
  | [] => rfl
  | [_] => rfl
  | [_, _] => rfl
  | [h, l, mark] =>
    have outside : ¬(bibInRange (natOf h l) = true ∧ mark.toNat ≤ 40) := by
      rintro ⟨inside, range⟩
      obtain ⟨least, most⟩ := (bibInRange_iff _).1 inside
      exact bad ⟨h, l, mark, rfl, least, most, range⟩
    exact if_neg outside
  | _ :: _ :: _ :: _ :: _ => rfl

theorem formCheck_dist (bad : ¬HasForm .dist payload) : formCheck .dist 0x16 payload = none := by
  match payload with
  | [] => rfl
  | [_] => rfl
  | [_, _] => rfl
  | [_, _, _] => rfl
  | [h, l, x, y] =>
    have outside : ¬(bibInRange (natOf h l) = true ∧ natOf x y ≤ 600) := by
      rintro ⟨inside, range⟩
      obtain ⟨least, most⟩ := (bibInRange_iff _).1 inside
      exact bad ⟨h, l, x, y, rfl, least, most, range⟩
    exact if_neg outside
  | _ :: _ :: _ :: _ :: _ :: _ => rfl

/-- Each lamp has one of the codes 0 to 4, and no other code is a lamp's (Table 2-14). -/
theorem lamp_ofCode_code (lamp : Lamp) : Lamp.ofCode lamp.code = some lamp := by
  cases lamp <;> rfl

theorem lamp_ofCode_none {n : Nat} (other : ¬n ≤ 4) : Lamp.ofCode n = none := by
  unfold Lamp.ofCode
  split <;> first | rfl | omega

theorem formCheck_lampstat (bad : ¬HasForm .light payload) : formCheck .light 0x17 payload = none := by
  match payload with
  | [] => rfl
  | [code] =>
    have outside : ¬code.toNat ≤ 4 := fun range => bad ⟨code, rfl, range⟩
    exact congrArg (Option.map _) (lamp_ofCode_none outside)
  | _ :: _ :: _ => rfl

/-- A station's own frame of another form is discarded whole (R17). -/
theorem ownFrame_discards {now : Time} {seg : Seg} {source seq : Byte} {s : State} {slot : Slot}
    (slotted : Slotted s seg source of slot) (bad : ¬HasForm of payload) {c : Instr}
    (own : c ∈ ownFrames now seg source seq payload of) :
    exec c s = .next (State.pumpOffice ((slotEnded seg now s).raise .stationDataBad slot.entry.addr)) := by
  cases of with
  | board => cases own
  | aux => cases own
  | wind =>
    cases List.mem_singleton.1 own
    exact frame_discards (kind := 0x11) slotted (.inr (formCheck_wind bad))
  | gate =>
    cases List.mem_singleton.1 own
    exact frame_discards (kind := 0x13) slotted (.inr (formCheck_gate_bad bad))
  | coach =>
    cases List.mem_singleton.1 own
    exact frame_discards (kind := 0x14) slotted (.inr (formCheck_coach bad))
  | judge =>
    cases List.mem_singleton.1 own
    exact frame_discards (kind := 0x15) slotted (.inr (formCheck_style bad))
  | dist =>
    cases List.mem_singleton.1 own
    exact frame_discards (kind := 0x16) slotted (.inr (formCheck_dist bad))
  | light =>
    cases List.mem_singleton.1 own
    exact frame_discards (kind := 0x17) slotted (.inr (formCheck_lampstat bad))
  | cellA | cellB | takeoff | landing =>
    cases List.mem_singleton.1 own
    exact frame_discards (kind := 0x12) slotted (.inr (formCheck_edge_bad bad))

end

/-! ### NONE and PASS -/

section
variable {now : Time} {seg : Seg} {source seq : Byte} {payload : List Byte} {s : State} {slot : Slot} {of : StationKind}

theorem maySend_none (of : StationKind) : maySend of 0x10 = true := by
  cases of <;> rfl

theorem maySend_pass (of : StationKind) : maySend of 0x05 = true := by
  cases of <;> rfl

theorem noneFrame_taken (slotted : Slotted s seg source of slot) :
    exec (.noneFrame now seg source seq []) s = Claims.mirrored slot seg 0x10 seq [] (slotEnded seg now s) := by
  have checked : formCheck of (0x10 : Byte).toNat [] = some ⟨.none, [], false⟩ := rfl
  have sends : maySend of (0x10 : Byte).toNat = true := maySend_none of
  refine (frame_accepted (kind := 0x10) slotted sends checked nofun).trans ?_
  simp only [State.route, Bool.false_eq_true, if_false]

theorem noneFrame_discards (slotted : Slotted s seg source of slot) (content : payload ≠ []) :
    exec (.noneFrame now seg source seq payload) s =
      .next (State.pumpOffice ((slotEnded seg now s).raise .stationDataBad slot.entry.addr)) := by
  have failed : formCheck of (0x10 : Byte).toNat payload = none := if_neg content
  exact frame_discards (kind := 0x10) slotted (.inr failed)

theorem passFrame_discards (slotted : Slotted s seg source of slot) (long : 118 < payload.length) :
    exec (.stationPassFrame now seg source seq payload) s =
      .next (State.pumpOffice ((slotEnded seg now s).raise .stationDataBad slot.entry.addr)) := by
  have outside : ¬payload.length ≤ Config.passLimit := Nat.not_le.2 long
  have failed : formCheck of (0x05 : Byte).toNat payload = none := if_neg outside
  exact frame_discards (kind := 0x05) slotted (.inr failed)

theorem passFrame_copied (slotted : Slotted s seg source of slot) (short : payload.length ≤ 118) :
    exec (.stationPassFrame now seg source seq payload) s =
      .next (State.pumpOffice ((slotEnded seg now s).offerMirror ⟨slot.entry.addr, seq, seg, 0x05, payload⟩)) := by
  refine (frame_slotted slotted 0x05 seq payload).trans ?_
  have checked : formCheck slot.entry.role.kind (0x05 : Byte).toNat payload = some ⟨.pass, payload, false⟩ := if_pos short
  have sends : maySend slot.entry.role.kind (0x05 : Byte).toNat = true := maySend_pass _
  rw [State.direct, if_pos sends, checked]
  simp [Machine.mirrored, State.route]

end

/-- Settles O47: a frame by what the line finds in its way; past the slot by what its station may send, its form, and its items. -/
theorem stationFramesAreJudged : Obligations.StationFramesAreJudged := by
  unfold Obligations.StationFramesAreJudged
  refine ⟨fun now seg source kind seq payload s held c listed => ?line, fun now seg source seq payload s u slot slotted ended =>
    ?directory⟩
  case line =>
    obtain ⟨k, exec_eq⟩ := exec_stationFrames listed s
    rw [exec_eq]
    refine ⟨fun drops => frame_dropped held drops, fun takes => ⟨fun none => ?_, fun slot open_ other => ?_,
      fun slot open_ own orphan => ?_⟩⟩
    all_goals refine (event_outside_reset _ _ _ held).trans ?_
    all_goals rw [← seg_setNow s now] at *
    all_goals rw [← line_setNow s now] at takes
    · rw [frame_unslotted takes none]
    · rw [frame_of_other takes open_ other]
    · rw [frame_orphaned takes open_ own orphan, endBegun_orphan true open_ orphan]
  case directory =>
    subst ended
    refine ⟨fun kind out => frame_discards slotted (.inl (maySend_of_notAdmitted out)),
      noneFrame_taken slotted, noneFrame_discards slotted, passFrame_copied slotted, passFrame_discards slotted,
      fun bad c own => ownFrame_discards slotted bad own, fun items kept => ⟨fun code hand hands fit least few => ?_,
        fun report gate range fit few => ?_⟩⟩
    · exact edgeFrame_items slotted hands least few fit
    · rw [gate] at slotted
      exact gateFrame_items slotted range few fit

end Sys2Proof.Proofs
end

section
/-! The frames of the GATE, COACH, LIGHT and WIND stations but for gate-left items (R80, R93, R100 to R103, R120). -/

namespace Sys2Proof.Proofs

open Sys2Proof.Machine Sys2Proof.Claims

/-- A frame that is mirrored or not goes on to the next state, and changes nothing else. -/
theorem mirrored_next (slot : Slot) (seg : Seg) (kind seq : Byte) (payload : List Byte) (u : State) :
    ∃ t, Claims.mirrored slot seg kind seq payload u = .next t ∧ ButReports u t ∧ t.dsp = u.dsp ∧ t.jtb = u.jtb ∧
      t.conditions = u.conditions := by
  have copied : ∀ v, (v = if slot.entry.mirror then u.offerMirror ⟨slot.entry.addr, seq, seg, kind, payload⟩ else u) →
      ButReports u v ∧ v.dsp = u.dsp ∧ v.jtb = u.jtb ∧ v.conditions = u.conditions := by
    rintro v rfl
    split
    · exact ⟨offerMirror_butReports _ _, by simp, by simp, by simp⟩
    · exact ⟨butReports_refl _, rfl, rfl, rfl⟩
  obtain ⟨same, dsp, jtb, conditions⟩ := copied _ rfl
  exact ⟨_, rfl, butReports_trans same (pumpOffice_butReports _), (State.pumpOffice_dsp _).trans dsp,
    (State.pumpOffice_jtb _).trans jtb, (State.pumpOffice_conditions _).trans conditions⟩

/-! ### Gate reports (R100 to R102) -/

/-- The count of a candidate after a report. -/
def reportCount (u : StartUnit) (report : Nat) : Nat := if u.candidate = some report then min 3 (u.candidateCount + 1) else 1

theorem countReport_eq (u : StartUnit) (report : Nat) :
    u.countReport report = { u with candidate := some report, candidateCount := reportCount u report } := by
  unfold StartUnit.countReport reportCount
  split
  · next same => rw [← same]
  · rfl

section
variable {u : State} {report : Nat}

theorem takeGateReport_absent (away : ¬StationPresent u .gate) : u.takeGateReport report = u :=
  if_neg (mt (isPresent_iff_stationPresent u .gate).1 away)

theorem takeGateReport_counted (here : StationPresent u .gate)
    (few : ¬(reportCount u.stu report = 3 ∧ report ≠ 0 ∧ u.stu.gate ≠ some report)) :
    u.takeGateReport report =
      { u with stu := { u.stu with candidate := some report, candidateCount := reportCount u.stu report } } := by
  rw [State.takeGateReport, if_pos ((isPresent_iff_stationPresent u .gate).2 here)]
  simp only [countReport_eq]
  exact if_neg few

/-- The debounced gate changes at the third equal report. -/
def gateSet (report : Nat) (u : State) : State :=
  State.raise .gateChanged report
    { u with stu := { u.stu with candidate := some report, candidateCount := 3, gate := some report } }

theorem takeGateReport_changed (here : StationPresent u .gate) (third : reportCount u.stu report = 3) (some : report ≠ 0)
    (new : u.stu.gate ≠ .some report) : u.takeGateReport report = (gateSet report u).noteGateMove := by
  rw [State.takeGateReport, if_pos ((isPresent_iff_stationPresent u .gate).2 here)]
  simp only [countReport_eq, third]
  exact if_pos ⟨trivial, some, new⟩

theorem marksGateMoves_iff (x : RecState) : x.marksGateMoves = true ↔ x = .green ∨ x = .late ∨ x = .inRun := by
  cases x <;> simp [RecState.marksGateMoves]

theorem noteGateMove_bare
    (bare : ∀ k r, u.jtb.get k = some r → r.state ≠ .green ∧ r.state ≠ .late ∧ r.state ≠ .inRun) : u.noteGateMove = u := by
  have none : u.jtb.inState RecState.marksGateMoves = none := by
    refine JumpTable.inState_none_iff.2 fun k r held => Bool.eq_false_iff.2 fun moves => ?_
    obtain ⟨green, late, inRun⟩ := bare k r held
    rcases (marksGateMoves_iff _).1 moves with h | h | h
    · exact green h
    · exact late h
    · exact inRun h
  simp only [State.noteGateMove, none]

theorem noteGateMove_moved {k : Fin 4} {r : JumpRecord} (one : OneActive u.jtb) (held : u.jtb.get k = some r)
    (moves : r.state.marksGateMoves = true) :
    u.noteGateMove =
      { u.raise .gateMoved r.bib with
        jtb := u.jtb.set k (some { r with flags := { r.flags with gateMoved := true } }) } := by
  have active : ∀ x : RecState, x.marksGateMoves = true → x.active = true := by
    intro x moves
    cases x <;> first | rfl | cases moves
  have held' : (u.raise .gateMoved r.bib).jtb.get k = some r := by rw [State.raise_jtb, held]
  simp only [State.noteGateMove, inState_of_active one active held moves]
  rw [State.updateRecord_of_get _ _ _ held', State.raise_jtb]

end

/-- A GATE frame with a report and no item. -/
theorem gateFrame_report {now : Time} {seg : Seg} {source seq report : Byte} {s : State} {slot : Slot}
    (slotted : Slotted s seg source .gate slot) (range : report.toNat ≤ 40) :
    exec (.gateFrame now seg source seq [report, 0]) s =
      Claims.mirrored slot seg 0x13 seq [report, 0] (State.takeGateReport report.toNat (slotEnded seg now s)) := by
  have taken := gateFrame_items (now := now) (seq := seq) (items := []) (kept := []) slotted range (by simp) rfl
  rw [if_neg (Nat.lt_irrefl _)] at taken
  exact taken

/-- Settles O20: by presence and the report's count; the change of the gate looks for the one record whose jump it moves under. -/
theorem gateIsDebounced : Obligations.GateIsDebounced := by
  unfold Obligations.GateIsDebounced
  intro now seg source seq report s u slot n slotted range ended count
  subst ended
  have taken := gateFrame_report (now := now) (seq := seq) slotted range
  rw [taken]
  refine ⟨fun away => by rw [takeGateReport_absent away], fun here few => ?_, fun here third some new =>
    ⟨gateSet report.toNat (slotEnded seg now s), rfl, fun bare => ?_, fun k r one held moves => ?_⟩⟩
  · subst count
    rw [takeGateReport_counted here few]
    rfl
  · rw [takeGateReport_changed here (count.symm.trans third) some new, noteGateMove_bare]
    rw [gateSet, State.raise_jtb]
    exact bare
  · have jtb : (gateSet report.toNat (slotEnded seg now s)).jtb = (slotEnded seg now s).jtb := State.raise_jtb _ _ _
    rw [takeGateReport_changed here (count.symm.trans third) some new,
      noteGateMove_moved (by rw [jtb]; exact one) (by rw [jtb]; exact held) ((marksGateMoves_iff _).2 moves), jtb]

/-! ### Coach requests (R103) and lamp echoes (R120) -/

section
variable {now : Time} {seg : Seg} {source seq : Byte} {s : State} {slot : Slot}

theorem coachFrame_taken {high low : Byte} (slotted : Slotted s seg source .coach slot)
    (least : 1 ≤ high.toNat * 256 + low.toNat) (most : high.toNat * 256 + low.toNat ≤ 999) :
    exec (.coachFrame now seg source seq [high, low]) s =
      Claims.mirrored slot seg 0x14 seq [high, low]
        (State.takeCoach slot.entry.addr (high.toNat * 256 + low.toNat) (slotEnded seg now s)) := by
  have inside : bibInRange (natOf high low) = true := (bibInRange_iff _).2 ⟨least, most⟩
  have checked : formCheck .coach (0x14 : Byte).toNat [high, low] = some ⟨.coach (natOf high low), [high, low], false⟩ :=
    if_pos inside
  refine (frame_accepted (kind := 0x14) slotted rfl checked nofun).trans ?_
  simp only [State.route, Bool.false_eq_true, if_false, natOf_eq]

theorem lampstatFrame_taken {code : Byte} {lamp : Lamp} (slotted : Slotted s seg source .light slot)
    (named : code.toNat = lamp.code) :
    exec (.lampstatFrame now seg source seq [code]) s =
      Claims.mirrored slot seg 0x17 seq [code] (State.takeEcho slot.lampSent lamp (slotEnded seg now s)) := by
  have shown : Lamp.ofCode code.toNat = some lamp := by rw [named, lamp_ofCode_code]
  have checked : formCheck .light (0x17 : Byte).toNat [code] = some ⟨.lampstat lamp, [code], false⟩ :=
    (congrArg (Option.map _) shown).trans rfl
  refine (frame_accepted (kind := 0x17) slotted rfl checked nofun).trans ?_
  simp only [State.route, Bool.false_eq_true, if_false]

end

/-- The light station is ABSENT, or there is none, exactly where the model says so (R120). -/
theorem lightAway_iff (u : State) : u.lightAway = true ↔ LightAway u := by
  unfold State.lightAway State.presenceOf LightAway
  cases station : stationOfKind u.tables.stations .light with
  | none => simp
  | some e =>
    have unique : (∀ x l, some e = some x → linkAt u.lsc.links x.addr = some l → l.presence = .absent) ↔
        ∀ l, linkAt u.lsc.links e.addr = some l → l.presence = .absent :=
      ⟨fun h l => h e l rfl, fun h x l same => by cases same; exact h l⟩
    rw [unique]
    dsimp only
    cases linkAt u.lsc.links e.addr <;> simp

theorem endEcho_eq (u : State) : u.endEcho = { u with stu := noEcho u.stu, conditions := noMismatch u.conditions } := by
  rw [State.endEcho, setV_false]
  rfl

section
variable {u : State} {sent : Option Lamp} {lamp : Lamp}

theorem takeEcho_ends (ends : sent = some lamp ∨ LightAway u) :
    u.takeEcho sent lamp = { u with stu := noEcho u.stu, conditions := noMismatch u.conditions } := by
  rw [State.takeEcho, if_pos (ends.symm.imp_left (lightAway_iff u).2), endEcho_eq]

theorem takeEcho_counts (other : sent ≠ some lamp) (here : ¬LightAway u) :
    u.takeEcho sent lamp =
      if min 2 (u.stu.echoRun + 1) = 2 then
        State.setV .lampMismatch true { u with stu := { u.stu with echoRun := min 2 (u.stu.echoRun + 1) } }
      else { u with stu := { u.stu with echoRun := min 2 (u.stu.echoRun + 1) } } := by
  rw [State.takeEcho, if_neg]
  rintro (away | same)
  · exact here ((lightAway_iff u).1 away)
  · exact other same

end

/-- Settles O22: a coach request by where its bib stands; an echo by what the slot's opener carried and by the run before it. -/
theorem coachAndEchoFrames : Obligations.CoachAndEchoFrames := by
  unfold Obligations.CoachAndEchoFrames
  refine ⟨fun now seg source seq high low s u slot bib slotted spelled least most ended => ?coach,
    fun now seg source seq code s u slot lamp slotted named ended => ?echo⟩
  case coach =>
    subst spelled ended
    rw [coachFrame_taken slotted least most]
    refine ⟨fun k r holds cleared => ?_, fun k r holds gone => ?_, fun free => ?_⟩
    · simp only [State.takeCoach, holds]
      rw [if_pos cleared, State.updateRecord_of_get _ _ _ (get_of_holding holds)]
    · simp only [State.takeCoach, holds]
      rw [if_neg gone]
    · simp only [State.takeCoach, (holding_eq_none_iff _ _).2 free]
  case echo =>
    subst ended
    rw [lampstatFrame_taken slotted named]
    refine ⟨fun ends => by rw [takeEcho_ends ends], fun other here none => ?_, fun other here some => ?_⟩
    · rw [takeEcho_counts other here, none]
      rfl
    · have second : min 2 ((slotEnded seg now s).stu.echoRun + 1) = 2 := by omega
      rw [takeEcho_counts other here, second, if_pos rfl]

/-! ### WIND frames (R80, R93) -/

/-- A sample whose fields fit into their bytes. -/
def SampleFits (x : Sample) : Prop := x.speed1 ≤ 65535 ∧ x.direction1 ≤ 65535 ∧ x.speed2 ≤ 65535 ∧ x.direction2 ≤ 65535

theorem faults_bits (a b : Bool) :
    bitOf (BitVec.ofNat 8 (a.toNat + 2 * b.toNat)) 0 = a ∧ bitOf (BitVec.ofNat 8 (a.toNat + 2 * b.toNat)) 1 = b := by
  cases a <;> cases b <;> decide

theorem samplesOf_bytes {l : List Sample} (fits : ∀ x ∈ l, SampleFits x) :
    samplesOf l.length (l.flatMap sampleBytes) = l := by
  induction l with
  | nil => rfl
  | cons x rest ih =>
    obtain ⟨a, b, c, d⟩ := fits x List.mem_cons_self
    obtain ⟨first, second⟩ := faults_bits x.fault1 x.fault2
    have later := ih fun y listed => fits y (List.mem_cons_of_mem _ listed)
    change _ :: samplesOf rest.length (rest.flatMap sampleBytes) = _
    rw [later, natOf_bytes (Nat.lt_succ_of_le a), natOf_bytes (Nat.lt_succ_of_le b), natOf_bytes (Nat.lt_succ_of_le c),
      natOf_bytes (Nat.lt_succ_of_le d), first, second]

theorem length_samples (l : List Sample) : (l.flatMap sampleBytes).length = 9 * l.length := by
  induction l with
  | nil => rfl
  | cons x rest ih =>
    rw [List.flatMap_cons, List.length_append, ih, List.length_cons]
    change 9 + _ = _
    omega

theorem append_eq_bufferSample (c : WindContext) (x : Sample) : c.append x = bufferSample c x := by
  unfold WindContext.append bufferSample
  rw [List.drop_one]
  split
  · next room =>
    have room : c.buffer.length < 2 := room
    rw [if_pos room, if_pos room]
  · next full =>
    have full : ¬c.buffer.length < 2 := full
    rw [if_neg full, if_neg full]
    rfl

/-- Settles O52: the bytes read back as the samples, and each joins the buffer as the wind unit appends it. -/
theorem windSamplesAreBuffered : Obligations.WindSamplesAreBuffered := by
  unfold Obligations.WindSamplesAreBuffered
  intro now seg source seq s u slot w l slotted role ended few fits
  subst ended
  have count : (BitVec.ofNat 8 l.length).toNat = l.length := toNat_byte (by omega)
  have shape : (BitVec.ofNat 8 l.length).toNat ≤ 2 ∧ (l.flatMap sampleBytes).length = 9 * (BitVec.ofNat 8 l.length).toNat := by
    rw [count]
    exact ⟨few, length_samples l⟩
  have checked : formCheck .wind (0x11 : Byte).toNat (BitVec.ofNat 8 l.length :: l.flatMap sampleBytes) =
      some ⟨.wind l, BitVec.ofNat 8 l.length :: l.flatMap sampleBytes, false⟩ := by
    refine (if_pos shape).trans ?_
    rw [count, samplesOf_bytes fits]
  refine (frame_accepted (kind := 0x11) slotted rfl checked nofun).trans ?_
  simp only [State.route, Bool.false_eq_true, if_false, State.takeSamples, role, funext fun c => funext (append_eq_bufferSample c)]
  rfl

end Sys2Proof.Proofs
end

section
/-! The in-run: the marks window, gate-left items and the in-run expiry (R37, R115, R116, R130, R157). -/

namespace Sys2Proof.Proofs

open Sys2Proof.Machine Sys2Proof.Claims

/-! ### A record replaced -/

/-- A state with another record in a slot. -/
def withRecord (k : Fin 4) (r : JumpRecord) (s : State) : State := { s with jtb := s.jtb.set k (some r) }

section
variable {s : State} {k : Fin 4} {r : JumpRecord}

theorem withRecord_get (k : Fin 4) (r : JumpRecord) (s : State) : (withRecord k r s).jtb.get k = some r :=
  (JumpTable.get_set ..).trans (if_pos rfl)

theorem withRecord_self (held : s.jtb.get k = some r) : withRecord k r s = s := by
  rw [withRecord, ← held, JumpTable.set_get_self]

theorem updateRecord_eq (f : JumpRecord → JumpRecord) (held : s.jtb.get k = some r) :
    s.updateRecord k f = withRecord k (f r) s := State.updateRecord_of_get s k f held

end

/-! ### The marks window (R157, R158) -/

section
variable {s : State} {k : Fin 4} {r : JumpRecord} {start : Time}

theorem armMarks_locked (held : s.jtb.get k = some r) (locked : r.marksLocked = true) : s.armMarks k start = s := by
  simp only [State.armMarks, held, locked, if_true]

theorem armMarks_later (held : s.jtb.get k = some r) (open_ : r.marksLocked = false)
    (later : laterThan (after start (s.tables.hill.marksWindow * 10000)) s.now = true) :
    s.armMarks k start =
      withRecord k { r with marksExpiry := some (after start (s.tables.hill.marksWindow * 10000)) } s := by
  simp only [State.armMarks, held]
  exact (if_neg (by simp [open_])).trans ((if_pos later).trans (updateRecord_eq _ held))

theorem armMarks_passed (held : s.jtb.get k = some r) (open_ : r.marksLocked = false)
    (passed : ¬laterThan (after start (s.tables.hill.marksWindow * 10000)) s.now = true) :
    s.armMarks k start = s.takeMarksExpiry k := by
  simp only [State.armMarks, held]
  exact (if_neg (by simp [open_])).trans (if_neg passed)

/-- A record whose marks are overdue. -/
def overdue (r : JumpRecord) : JumpRecord := { r with marksOverdue := true, marksExpiry := none }

theorem takeMarksExpiry_other (held : s.jtb.get k = some r) (marking : r.state ≠ .marking) (notHeld : r.state ≠ .held) :
    s.takeMarksExpiry k = { s with jtb := s.jtb.set k (some (overdue r)) } := by
  have stands : (s.jtb.set k (some (overdue r))).get k = some (overdue r) := (JumpTable.get_set ..).trans (if_pos rfl)
  have step : s.updateRecord k overdue = { s with jtb := s.jtb.set k (some (overdue r)) } :=
    State.updateRecord_of_get s k overdue held
  unfold State.takeMarksExpiry
  rw [show (s.updateRecord k fun r => { r with marksOverdue := true, marksExpiry := none }) = s.updateRecord k overdue from rfl,
    step]
  simp only [stands]
  split
  · next h => exact absurd h marking
  · next h => exact absurd h notHeld
  · rfl

/-- The needs of a HELD record formed anew when its marks are overdue: it stays HELD (R68). -/
theorem recomputeNeeds_overdue (held : s.jtb.get k = some r) (late : r.marksOverdue = true) (open_ : r.marksLocked = false) :
    s.recomputeNeeds k =
      if r.needs = r.needed then s
      else State.reportRecord k .needs { s with jtb := s.jtb.set k (some { r with needs := r.needed }) } := by
  have needed : r.needed ≠ .none := by
    rw [JumpRecord.needed, late, open_]
    exact fun same => Bool.noConfusion (congrArg Needs.marks same)
  simp only [State.recomputeNeeds, held]
  rw [if_neg needed, State.updateRecord_of_get _ _ _ held]
  exact if_congr eq_comm rfl rfl

theorem takeMarksExpiry_held (held : s.jtb.get k = some r) (state : r.state = .held) (open_ : r.marksLocked = false) :
    s.takeMarksExpiry k =
      if r.needs = ⟨r.finalDistance.isNone, true⟩ then { s with jtb := s.jtb.set k (some (overdue r)) }
      else State.reportRecord k .needs { s with jtb := s.jtb.set k (some
        { overdue r with needs := ⟨r.finalDistance.isNone, true⟩ }) } := by
  have stands : (s.jtb.set k (some (overdue r))).get k = some (overdue r) := (JumpTable.get_set ..).trans (if_pos rfl)
  have step : s.updateRecord k overdue = { s with jtb := s.jtb.set k (some (overdue r)) } :=
    State.updateRecord_of_get s k overdue held
  have needed : (overdue r).needed = ⟨r.finalDistance.isNone, true⟩ := by
    rw [JumpRecord.needed, show (overdue r).marksLocked = r.marksLocked from rfl, open_]
    rfl
  unfold State.takeMarksExpiry
  rw [show (s.updateRecord k fun r => { r with marksOverdue := true, marksExpiry := none }) = s.updateRecord k overdue from rfl,
    step]
  simp only [stands]
  split
  · next other => exact nomatch state.symm.trans other
  · rw [recomputeNeeds_overdue (s := { s with jtb := s.jtb.set k (some (overdue r)) }) stands rfl open_, needed]
    simp only [JumpTable.set_set]
    rfl
  · next other => exact absurd state other

/-- A HELD record stays HELD when its marks window is armed, and changes in its marks expiry and needs alone. -/
theorem armMarks_held (held : s.jtb.get k = some r) (state : r.state = .held) (start : Time) :
    ∃ expiry late needs,
      ButReports
        { s with jtb := s.jtb.set k (some { r with marksExpiry := expiry, marksOverdue := late, needs := needs }) }
        (s.armMarks k start) := by
  rcases Bool.eq_false_or_eq_true r.marksLocked with locked | open_
  · have same : ButReports (withRecord k r s) s := by
      rw [withRecord_self held]
      exact butReports_refl s
    refine ⟨r.marksExpiry, r.marksOverdue, r.needs, ?_⟩
    rw [armMarks_locked held locked]
    exact same
  · by_cases later : laterThan (after start (s.tables.hill.marksWindow * 10000)) s.now = true
    · refine ⟨some (after start (s.tables.hill.marksWindow * 10000)), r.marksOverdue, r.needs, ?_⟩
      rw [armMarks_later held open_ later]
      exact butReports_refl _
    · rw [armMarks_passed held open_ later, takeMarksExpiry_held held state open_]
      split
      · exact ⟨none, true, r.needs, butReports_refl _⟩
      · exact ⟨none, true, ⟨r.finalDistance.isNone, true⟩, reportRecord_butReports _ _ _⟩

end

/-! ### The in-run expiry (R130) -/

/-- A record given up: no wind, and wind close done. -/
def givenUp (r : JumpRecord) : JumpRecord := { r with windCloseDone := true, flags := { r.flags with noWind := true } }

/-- A state whose in-run record is given up, before it is HELD. -/
def givingUp (k : Fin 4) (r : JumpRecord) (s : State) : State :=
  { s with flu := .idle, jtb := s.jtb.set k (some (givenUp r)) }

section
variable {s : State} {k : Fin 4} {r : JumpRecord}

theorem takeInRunExpiry_eq (held : s.jtb.get k = some r) :
    s.takeInRunExpiry k = ((givingUp k r s).enterState k .held).armMarks k s.now := by
  rw [State.takeInRunExpiry, State.updateRecord_of_get { s with flu := .idle } _ _ held]
  rfl

theorem givingUp_get : (givingUp k r s).jtb.get k = some (givenUp r) := (JumpTable.get_set ..).trans (if_pos rfl)

/-- A state whose record is HELD, given up. -/
def inGivenUp (k : Fin 4) (x : JumpRecord) (s : State) : State :=
  { s with
    jtb := s.jtb.set k (some x)
    flu := .idle
    stu := { s.stu with lamp := .red }
    lsc := { s.lsc with lampSlot := .red } }

theorem givingUp_held (round : s.competition.isOpen = true) (alone : AloneIn k s.jtb) :
    ButShown (inGivenUp k ((givenUp r).inState .held) s) ((givingUp k r s).enterState k .held) ∧
      ((givingUp k r s).enterState k .held).jtb.get k = some ((givenUp r).inState .held) := by
  have lamp : derivedLamp (givingUp k r s).competition ((givingUp k r s).jtb.set k (some ((givenUp r).inState .held)))
      (givingUp k r s).stu.flashing = .red :=
    derivedLamp_set_left round (aloneIn_set alone _) (by simp [JumpRecord.inState]) _
  obtain ⟨entered, -, -⟩ := enterState_shown .held givingUp_get lamp
  have shown : inEntered k (givenUp r) .held .red (givingUp k r s) = inGivenUp k ((givenUp r).inState .held) s := by
    simp only [inEntered, givingUp, JumpTable.set_set]
    rfl
  rw [shown] at entered
  refine ⟨entered, ?_⟩
  rw [(butShown_same State.jtb entered fun _ => rfl :)]
  exact (JumpTable.get_set ..).trans (if_pos rfl)

/-- The in-run expiry whenever it is taken: HELD, whatever the marks window then does. -/
theorem takeInRunExpiry_shown (held : s.jtb.get k = some r) (round : s.competition.isOpen = true) (alone : AloneIn k s.jtb) :
    ∃ expiry late needs,
      ButShown
        (inGivenUp k { (givenUp r).inState .held with marksExpiry := expiry, marksOverdue := late, needs := needs } s)
        (s.takeInRunExpiry k) := by
  obtain ⟨entered, stands⟩ := givingUp_held (r := r) round alone
  obtain ⟨expiry, late, needs, armed⟩ := armMarks_held stands rfl s.now
  refine ⟨expiry, late, needs, ?_⟩
  rw [takeInRunExpiry_eq held]
  refine butShown_trans ?_ (butShown_of_reports armed)
  have moved := butShown_map (fun u => { u with jtb := u.jtb.set k (some
    { (givenUp r).inState .held with marksExpiry := expiry, marksOverdue := late, needs := needs }) }) entered fun _ => rfl
  simp only [inGivenUp, JumpTable.set_set] at moved
  exact moved

end

/-- What the in-run expiry does to the record still IN_RUN when it is due (R39, R130). -/
def inRunDue (s : State) : State :=
  match s.inRun with
  | none => s
  | some (k, _) => if s.flu.inRunExpiry = some s.now then s.takeInRunExpiry k else s

theorem inRunDue_taken {s : State} {k : Fin 4} {r : JumpRecord} (found : s.inRun = some (k, r))
    (due : s.flu.inRunExpiry = some s.now) : inRunDue s = s.takeInRunExpiry k := by
  rw [inRunDue, found]
  exact if_pos due

/-- Settles O27: the record's needs are its distance alone, and the marks window, at most two minutes long, lies ahead. -/
theorem inRunExpiryHolds : Obligations.InRunExpiryHolds := by
  unfold Obligations.InRunExpiryHolds
  intro now s k r outside one records due held state least most unmeasured open_ early
  have round := isOpen_of_record records held
  have alone := aloneIn_of_active one held (by rw [state]; rfl)
  obtain ⟨entered, stands⟩ := givingUp_held (s := s.setNow now) (r := r) round alone
  have ahead : laterThan (after now (s.tables.hill.marksWindow * 10000)) now = true := by
    have short : s.tables.hill.marksWindow * 10000 ≤ 1200000 := by omega
    have distance : (after now (s.tables.hill.marksWindow * 10000) - now).toNat = s.tables.hill.marksWindow * 10000 := by
      unfold after
      bv_omega
    rw [laterThan, distance]
    exact decide_eq_true ⟨by omega, by omega⟩
  have tables : ((givingUp k r (s.setNow now)).enterState k .held).tables = s.tables :=
    (butShown_same State.tables entered fun _ => rfl :)
  have time : ((givingUp k r (s.setNow now)).enterState k .held).now = now :=
    (butShown_same State.now entered fun _ => rfl :)
  have armed := armMarks_later (start := now) stands open_ (by rw [tables, time]; exact ahead)
  have found : (s.setNow now).inRun = some (k, r) := inState_of_state (t := s.jtb) one rfl held state
  have needs : ((givenUp r).inState .held).needs = ⟨true, false⟩ := by
    rw [JumpRecord.inState, if_pos rfl, JumpRecord.needed, show (givenUp r).finalDistance = none from unmeasured,
      show (givenUp r).marksOverdue = false from early]
    rfl
  have stays : (givenUp r).inState .held =
      { r with
        state := .held
        needs := ⟨true, false⟩
        windCloseDone := true
        flags := { r.flags with noWind := true }
        confirmExpiry := none } := by
    rw [← needs]
    rfl
  rw [stays, congrArg (·.hill.marksWindow) tables] at armed
  have taken : (s.setNow now).takeInRunExpiry k = _ := (takeInRunExpiry_eq (s := s.setNow now) held).trans armed
  obtain ⟨t, exec_eq, same, -, conditions, -, reports⟩ := event_taken (now := now) (body := inRunDue) outside
    ((inRunDue_taken found due).trans taken)
  refine ⟨t, exec_eq, ?_, ?_, fun enabled room => reports _ ?_⟩
  · refine butShown_trans ?_ (butShown_of_reports same)
    have moved := butShown_map (withRecord k { (givenUp r).inState .held with
      marksExpiry := some (after now (s.tables.hill.marksWindow * 10000)) }) entered fun _ => rfl
    rw [stays] at moved
    simp only [inGivenUp, withRecord, JumpTable.set_set] at moved
    exact moved
  · rw [conditions]
    refine (enterState_held .held (givingUp_get (s := s.setNow now))).trans ?_
    exact (inState_isSome_iff _ _).2 ⟨k, _, (JumpTable.get_set ..).trans (if_pos rfl), by simp [JumpRecord.inState]⟩
  · have entry := enterState_reports (s := givingUp k r (s.setNow now)) .held givingUp_get enabled room
    rw [needs] at entry
    exact entry

end Sys2Proof.Proofs
end

section
/-! The gate left: a GATE_LEFT item starts the in-run or is late (R37, R115, R116, R130). -/

namespace Sys2Proof.Proofs

open Sys2Proof.Machine Sys2Proof.Claims

theorem noteEstimate_eq (r : JumpRecord) (e : EdgeTime) : r.noteEstimate e = noted e r := by
  unfold JumpRecord.noteEstimate noted
  split
  · next estimated => rw [estimated, Bool.or_true]
  · next exact => rw [Bool.eq_false_iff.2 exact, Bool.or_false]

/-! ### Hill time and the gate report -/

theorem slotEnded_now (seg : Seg) (now : Time) (s : State) : (slotEnded seg now s).now = now := by
  obtain ⟨-, -, -, -, -, -, -, -, -, hck, -⟩ := State.endBegun_spares (s.setNow now) seg true
  exact congrArg HillClock.time hck

theorem noteGateMove_now (s : State) : s.noteGateMove.now = s.now := by
  unfold State.noteGateMove
  split <;> simp

theorem takeGateReport_now (s : State) (report : Nat) : (s.takeGateReport report).now = s.now := by
  unfold State.takeGateReport
  split
  · dsimp only
    split
    · rw [noteGateMove_now, State.now_raise]
      rfl
    · rfl
  · rfl

/-! ### The record's own part of leaving the gate (R115, R116) -/

/-- What a record takes with it when it leaves the gate. -/
def LeftWith (gate : Option Nat) (e : EdgeTime) (r x : JumpRecord) : Prop :=
  x.bib = r.bib ∧ x.gateLeftTime = some e.time ∧ x.greenTime = r.greenTime ∧ x.marks = r.marks ∧
    x.flags.timeEstimated = (r.flags.timeEstimated || e.estimated) ∧
    (r.state = .cleared → x.flags.early = true ∧ x.flags.late = r.flags.late ∧ x.gate = gate) ∧
    (r.state = .green →
      (x.flags.early = true ↔ r.flags.early = true ∨ ∃ g, r.greenTime = some g ∧ earlierThan e.time g = true) ∧
        x.flags.late = r.flags.late ∧ x.gate = r.gate) ∧
    (r.state = .late →
      (x.flags.late = true ↔ r.flags.late = true ∨ ∃ g, r.greenExpiryTime = some g ∧ laterThan e.time g = true) ∧
        x.flags.early = r.flags.early ∧ x.gate = r.gate)

theorem gateLeftFlags_estimated (r : JumpRecord) (t : Time) : (gateLeftFlags r t).timeEstimated = r.flags.timeEstimated := by
  unfold gateLeftFlags
  split
  · rfl
  · split <;> rfl
  · split <;> rfl
  · rfl

section
variable {r : JumpRecord} {t : Time}

theorem gateLeftFlags_cleared (state : r.state = .cleared) :
    (gateLeftFlags r t).early = true ∧ (gateLeftFlags r t).late = r.flags.late := by
  rw [gateLeftFlags, state]
  exact ⟨rfl, rfl⟩

theorem gateLeftFlags_green (state : r.state = .green) :
    ((gateLeftFlags r t).early = true ↔ r.flags.early = true ∨ ∃ g, r.greenTime = some g ∧ earlierThan t g = true) ∧
      (gateLeftFlags r t).late = r.flags.late := by
  rw [gateLeftFlags, state, ← Option.any_eq_true]
  dsimp only
  split
  · next early => exact ⟨⟨fun _ => .inr early, fun _ => rfl⟩, rfl⟩
  · next onTime => exact ⟨⟨.inl, fun h => h.resolve_right onTime⟩, rfl⟩

theorem gateLeftFlags_late (state : r.state = .late) :
    ((gateLeftFlags r t).late = true ↔ r.flags.late = true ∨ ∃ g, r.greenExpiryTime = some g ∧ laterThan t g = true) ∧
      (gateLeftFlags r t).early = r.flags.early := by
  rw [gateLeftFlags, state, ← Option.any_eq_true]
  dsimp only
  split
  · next late => exact ⟨⟨fun _ => .inr late, fun _ => rfl⟩, rfl⟩
  · next onTime => exact ⟨⟨.inl, fun h => h.resolve_right onTime⟩, rfl⟩

end

theorem leftWith_leaveGate (r : JumpRecord) (gate : Option Nat) (e : EdgeTime) : LeftWith gate e r (r.leaveGate gate e) := by
  rw [JumpRecord.leaveGate, noteEstimate_eq]
  refine ⟨rfl, rfl, rfl, rfl, ?_, fun state => ?_, fun state => ?_, fun state => ?_⟩
  · exact congrArg (· || e.estimated) (gateLeftFlags_estimated r e.time)
  · obtain ⟨early, late⟩ := gateLeftFlags_cleared (t := e.time) state
    exact ⟨early, late, if_pos state⟩
  · obtain ⟨early, late⟩ := gateLeftFlags_green (t := e.time) state
    exact ⟨early, late, if_neg (by rw [state]; decide)⟩
  · obtain ⟨late, early⟩ := gateLeftFlags_late (t := e.time) state
    exact ⟨late, early, if_neg (by rw [state]; decide)⟩

/-! ### An IN_RUN entry (R116, R130) -/

/-- The in-run expiry of a gate-left time. -/
def inRunExpiryOf (s : State) (e : EdgeTime) : Time := after e.time (s.tables.hill.inRunMax * 10000)

/-- A state whose record is about to enter IN_RUN. -/
def leaving (k : Fin 4) (r : JumpRecord) (e : EdgeTime) (s : State) : State :=
  { s with
    jtb := s.jtb.set k (some (r.leaveGate s.stu.gate e))
    stu := barLeft (referenceSet s.stu)
    dsp := { s.dsp with countdownExpiry := none }
    flu := ⟨[], some (inRunExpiryOf s e), none, 0, 0⟩ }

/-- A state whose record has entered IN_RUN, with the COUNTDOWN page of a record that was GREEN. -/
def leftGate (k : Fin 4) (r : JumpRecord) (e : EdgeTime) (s : State) : State :=
  if r.state = .green then ((leaving k r e s).enterState k .inRun).sendCountdown 0 else (leaving k r e s).enterState k .inRun

/-- A state with the record of a slot in IN_RUN, but for what is reported and shown. -/
def inLeft (k : Fin 4) (x : JumpRecord) (expiry : Time) (s : State) : State :=
  { s with
    jtb := s.jtb.set k (some x)
    stu := { barLeft (referenceSet s.stu) with lamp := .red }
    flu := ⟨[], some expiry, none, 0, 0⟩
    lsc := { s.lsc with lampSlot := .red } }

section
variable {s : State} {k : Fin 4} {r : JumpRecord} {e : EdgeTime}

theorem enterInRun_eq (held : s.jtb.get k = some r) :
    s.enterInRun k r e =
      if laterThan (inRunExpiryOf s e) s.now = true then leftGate k r e s else (leftGate k r e s).takeInRunExpiry k := by
  rw [State.enterInRun, updateRecord_eq _ held]
  simp only [withRecord, fixReference_eq]
  rfl

theorem leftGate_shown (round : s.competition.isOpen = true) (alone : AloneIn k s.jtb) :
    ButShown (inLeft k ((r.leaveGate s.stu.gate e).inState .inRun) (inRunExpiryOf s e) s) (leftGate k r e s) := by
  have lamp : derivedLamp (leaving k r e s).competition
      ((leaving k r e s).jtb.set k (some ((r.leaveGate s.stu.gate e).inState .inRun))) (leaving k r e s).stu.flashing = .red :=
    derivedLamp_set_left round (aloneIn_set alone _) (by simp [JumpRecord.inState]) _
  obtain ⟨entered, -, -⟩ := enterState_shown .inRun ((JumpTable.get_set ..).trans (if_pos rfl)) lamp
  have shown : ButShown (inLeft k ((r.leaveGate s.stu.gate e).inState .inRun) (inRunExpiryOf s e) s)
      (inEntered k (r.leaveGate s.stu.gate e) .inRun .red (leaving k r e s)) := by
    simp only [inEntered, leaving, JumpTable.set_set]
    rfl
  unfold leftGate
  split
  · exact butShown_trans (butShown_trans shown entered) (sendCountdown_butShown _ _)
  · exact butShown_trans shown entered

end

/-- Settles O21: the record on the bar is unique; it enters IN_RUN, and an in-run expiry already past gives it up at once. -/
theorem gateLeftStartsRun : Obligations.GateLeftStartsRun := by
  unfold Obligations.GateLeftStartsRun
  intro now seg source seq report sensor mark high low s v slot e slotted range offset reported converted
  have time : v.now = now := by rw [reported, takeGateReport_now, slotEnded_now]
  have taken := gateFrame_one (now := now) (seq := seq) (sensor := sensor) (mark := mark) slotted range offset
  rw [← reported] at taken
  refine ⟨fun late => ?lost, fun k r one records held onBar intime => ?leaves⟩
  case lost =>
    rw [taken, State.takeGateLeft, ← converted]
    cases found : v.jtb.inState RecState.onBar with
    | none => rfl
    | some x =>
      have held := get_of_inState found
      simp only [late x.1 x.2 held (state_of_inState found held), Bool.false_eq_true, if_false]
  case leaves =>
    have round := isOpen_of_record records held
    have alone := aloneIn_of_active one held (active_of_onBar onBar)
    have left := leftGate_shown (e := e) (r := r) round alone
    have found := inState_of_active one (fun _ => active_of_onBar) held onBar
    have enters : v.takeGateLeft slot.entry.addr ⟨2, sensor.toNat, mark, high.toNat * 256 + low.toNat⟩ = v.enterInRun k r e := by
      simp only [State.takeGateLeft, found, ← converted, intime, if_true]
    rw [taken, enters, enterInRun_eq held, time]
    by_cases later : laterThan (after e.time (v.tables.hill.inRunMax * 10000)) now = true
    · have armed : laterThan (inRunExpiryOf v e) now = true := later
      rw [if_pos armed, if_pos later, if_pos later]
      obtain ⟨t, next, same, -⟩ := mirrored_next slot seg 0x13 seq ([report, 1] ++ itemBytes 2 sensor mark high low)
        (leftGate k r e v)
      have shown := butShown_trans left (butShown_of_reports same)
      have jtb := (butShown_same State.jtb shown fun _ => rfl :)
      refine ⟨t, _, next, jtb, ?_, rfl, leftWith_leaveGate r v.stu.gate e⟩
      rw [jtb]
      exact shown
    · have passed : ¬laterThan (inRunExpiryOf v e) now = true := later
      rw [if_neg passed, if_neg later, if_neg later]
      obtain ⟨t, next, same, -⟩ := mirrored_next slot seg 0x13 seq ([report, 1] ++ itemBytes 2 sensor mark high low)
        ((leftGate k r e v).takeInRunExpiry k)
      have slots : (leftGate k r e v).jtb = v.jtb.set k (some ((r.leaveGate v.stu.gate e).inState .inRun)) :=
        (butShown_same State.jtb left fun _ => rfl :)
      have competition : (leftGate k r e v).competition = v.competition := (butShown_same State.competition left fun _ => rfl :)
      obtain ⟨expiry, late, needs, expired⟩ := takeInRunExpiry_shown (s := leftGate k r e v) (k := k)
        (r := (r.leaveGate v.stu.gate e).inState .inRun)
        (by rw [slots]; exact (JumpTable.get_set ..).trans (if_pos rfl)) (by rw [competition]; exact round)
        (by rw [slots]; exact aloneIn_set alone _)
      have shown := butShown_trans (butShown_trans (butShown_map (inGivenUp k
        { (givenUp ((r.leaveGate v.stu.gate e).inState .inRun)).inState .held with
          marksExpiry := expiry, marksOverdue := late, needs := needs }) left fun _ => rfl) expired) (butShown_of_reports same)
      simp only [inGivenUp, inLeft, JumpTable.set_set] at shown
      have jtb := (butShown_same State.jtb shown fun _ => rfl :)
      refine ⟨t, _, next, jtb, ?_, rfl, leftWith_leaveGate r v.stu.gate e⟩
      rw [jtb]
      exact shown

end Sys2Proof.Proofs
end

section
/-! The items of the speed cells: the cell times, the held list and the speed (R126 to R128). -/

namespace Sys2Proof.Proofs

open Sys2Proof.Machine Sys2Proof.Claims

/-! ### The order of times within half the clock's range (R31) -/

theorem earlierThan_iff (a b : Time) : earlierThan a b = true ↔ 1 ≤ (b - a).toNat ∧ (b - a).toNat < 2147483648 := by
  have same : a = b ↔ (a - b).toNat = 0 := by bv_omega
  have back : (b - a).toNat = (2 ^ 32 - (a - b).toNat) % 2 ^ 32 := by bv_omega
  have least := (a - b).isLt
  rw [earlierThan, atOrAfter, laterThan, Bool.not_eq_true', Bool.or_eq_false_iff, decide_eq_false_iff_not,
    decide_eq_false_iff_not, same, back]
  omega

/-- Of two times later than a third, the order is that of their distances from it. -/
theorem earlierThan_iff_of_later {a x y : Time} (later : earlierThan a x = true) (later' : earlierThan a y = true) :
    earlierThan x y = true ↔ (x - a).toNat < (y - a).toNat := by
  rw [earlierThan_iff] at later later' ⊢
  have between : (y - x).toNat = ((y - a).toNat + 2 ^ 32 - (x - a).toNat) % 2 ^ 32 := by bv_omega
  rw [between]
  omega

/-! ### The held list (R127) -/

theorem earliest_mem {l : List EdgeTime} {x : EdgeTime} (found : earliest l = some x) : x ∈ l := by
  induction l generalizing x with
  | nil => cases found
  | cons e rest ih =>
    rw [earliest] at found
    split at found
    · cases found
      exact List.mem_cons_self
    · next y least =>
      split at found
      · cases found
        exact List.mem_cons_of_mem _ (ih least)
      · cases found
        exact List.mem_cons_self

/-- The earliest of times later than `a` is the first of those nearest to it. -/
theorem earliest_of_least {a : Time} {before behind : List EdgeTime} {b : EdgeTime}
    (later : ∀ y ∈ before ++ b :: behind, earlierThan a y.time = true)
    (first : ∀ y ∈ before, (b.time - a).toNat < (y.time - a).toNat)
    (least : ∀ y ∈ behind, (b.time - a).toNat ≤ (y.time - a).toNat) : earliest (before ++ b :: behind) = some b := by
  induction before with
  | nil =>
    rw [List.nil_append, earliest]
    split
    · rfl
    · next y found =>
      have listed := earliest_mem found
      rw [if_neg]
      rw [earlierThan_iff_of_later (later y (List.mem_cons_of_mem _ listed)) (later b List.mem_cons_self)]
      exact Nat.not_lt.2 (least y listed)
  | cons x rest ih =>
    have found := ih (fun y listed => later y (List.mem_cons_of_mem _ listed)) fun y listed => first y (List.mem_cons_of_mem _ listed)
    have nearer := first x List.mem_cons_self
    rw [List.cons_append, earliest, found]
    refine if_pos ((earlierThan_iff_of_later (later b ?_) (later x List.mem_cons_self)).2 nearer)
    exact List.mem_cons_of_mem _ (List.mem_append_right _ List.mem_cons_self)

/-- The held times later than the cell A time, and the earliest of them. -/
theorem earliest_held {a : Time} {before behind : List EdgeTime} {b : EdgeTime} (later : earlierThan a b.time = true)
    (first : ∀ y ∈ before, earlierThan a y.time = true → (b.time - a).toNat < (y.time - a).toNat)
    (least : ∀ y ∈ behind, earlierThan a y.time = true → (b.time - a).toNat ≤ (y.time - a).toNat) :
    earliest ((before ++ b :: behind).filter fun y => earlierThan a y.time) = some b := by
  rw [List.filter_append, List.filter_cons_of_pos (p := fun y : EdgeTime => earlierThan a y.time) later]
  refine earliest_of_least (a := a) (fun y listed => ?_) (fun y listed => ?_) (fun y listed => ?_)
  · rw [← List.filter_cons_of_pos (p := fun y : EdgeTime => earlierThan a y.time) later, ← List.filter_append] at listed
    exact List.of_mem_filter (p := fun y : EdgeTime => earlierThan a y.time) listed
  · exact first y (List.mem_of_mem_filter listed) (List.of_mem_filter (p := fun y : EdgeTime => earlierThan a y.time) listed)
  · exact least y (List.mem_of_mem_filter listed) (List.of_mem_filter (p := fun y : EdgeTime => earlierThan a y.time) listed)

/-! ### The speed (R128) -/

theorem speedOf_eq (h : HillTable) (a b : Time) : speedOf h a b = speedBetween h a b := by
  have quotient : (roundDiv ((h.cellSpacing * 3600 : Nat) : Int) (b - a).toNat).toNat =
      (2 * (h.cellSpacing * 3600) + (b - a).toNat) / (2 * (b - a).toNat) := by
    rw [roundDiv, if_pos (Int.natCast_nonneg _)]
    norm_cast
  push_cast at quotient
  simp only [speedOf, speedBetween, quotient]

theorem sendCurrent_dsp {s : State} {k : Fin 4} {r : JumpRecord} (held : s.jtb.get k = some r) :
    (s.sendCurrent k).dsp = { s.dsp with current := some (recordPage s.tables.competitors s.stu.gate r) } := by
  simp only [State.sendCurrent, held, sendPage_dsp, recordImage_eq]

/-- A state whose record has a new cell time, and whose held list has been looked at. -/
def cellSet (k : Fin 4) (x : JumpRecord) (s : State) : State :=
  { s with flu := { s.flu with heldB := [] }, jtb := s.jtb.set k (some x) }

/-- A record with both cell times and its speed. -/
def speeded (h : HillTable) (a : Time) (b : EdgeTime) (r : JumpRecord) : JumpRecord :=
  noted b { r with cellBTime := some b.time, speed := speedBetween h a b.time }

section
variable {s : State} {k : Fin 4} {r : JumpRecord}

theorem setCellB_eq (held : s.jtb.get k = some r) (a : Time) (b : EdgeTime) :
    s.setCellB k a b =
      if (speedBetween s.tables.hill a b.time).isSome = true then
        (cellSet k (speeded s.tables.hill a b r) s).sendCurrent k
      else cellSet k (speeded s.tables.hill a b r) s := by
  rw [State.setCellB, speedOf_eq, updateRecord_eq (s := { s with flu := { s.flu with heldB := [] } }) _ held, noteEstimate_eq]
  rfl

theorem setCellB_shown (held : s.jtb.get k = some r) (a : Time) (b : EdgeTime) :
    ButShown (cellSet k (speeded s.tables.hill a b r) s) (s.setCellB k a b) ∧
      ∀ v, speedBetween s.tables.hill a b.time = some v →
        (s.setCellB k a b).dsp.current = some (recordPage s.tables.competitors s.stu.gate { r with speed := some v }) := by
  rw [setCellB_eq held]
  refine ⟨?_, fun v measured => ?_⟩
  · split
    · exact sendCurrent_butShown _ _
    · exact butShown_refl _
  · rw [if_pos (by rw [measured]; rfl), sendCurrent_dsp ((JumpTable.get_set ..).trans (if_pos rfl))]
    rw [speeded, measured]
    rfl

end

/-! ### Items of the cells (R126, R127) -/

section
variable {s : State} {k : Fin 4} {r : JumpRecord} {item : EdgeItem} {e : EdgeTime} (found : s.inRun = some (k, r))
  (converted : e = s.convert item.mark item.offset)

/-- Whether a cell A item counts. -/
theorem cellA_counts (r : JumpRecord) (t : Time) :
    (r.cellATime.isNone && r.gateLeftTime.any (atOrAfter t)) = true ↔
      r.cellATime = none ∧ ∃ g, r.gateLeftTime = some g ∧ atOrAfter t g = true := by
  rw [Bool.and_eq_true, Option.isNone_iff_eq_none, Option.any_eq_true]

include found converted

theorem takeCellA_ignored (passed : ¬(r.cellATime = none ∧ ∃ g, r.gateLeftTime = some g ∧ atOrAfter e.time g = true)) :
    s.takeCellA item = s := by
  simp only [State.takeCellA, found, ← converted]
  exact if_neg (mt (cellA_counts r e.time).1 passed)

variable (held : s.jtb.get k = some r) {g : Time} (first : r.cellATime = none) (left : r.gateLeftTime = some g)
  (after : atOrAfter e.time g = true)

include held first left after

theorem takeCellA_first :
    s.takeCellA item =
      (earliest (s.flu.heldB.filter fun b => earlierThan e.time b.time)).elim
        (cellSet k (noted e { r with cellATime := some e.time }) s)
        fun b => (cellSet k (noted e { r with cellATime := some e.time }) s).setCellB k e.time b := by
  simp only [State.takeCellA, found, ← converted]
  rw [if_pos ((cellA_counts r e.time).2 ⟨first, g, left, after⟩),
    updateRecord_eq (s := { s with flu := { s.flu with heldB := [] } }) _ held, noteEstimate_eq]
  cases earliest (s.flu.heldB.filter fun b => earlierThan e.time b.time) <;> rfl

end

section
variable {s : State} {k : Fin 4} {r : JumpRecord} {item : EdgeItem} {e : EdgeTime} (found : s.inRun = some (k, r))
  (converted : e = s.convert item.mark item.offset)

include found converted

theorem takeCellB_set (free : r.cellBTime = none) {a : Time} (first : r.cellATime = some a) (later : laterThan e.time a = true) :
    s.takeCellB item = s.setCellB k a e := by
  simp only [State.takeCellB, found, ← converted, free, Option.isSome_none, Bool.false_eq_true, if_false, first, later, if_true]

theorem takeCellB_held (free : r.cellBTime = none) (bare : r.cellATime = none) {g : Time} (left : r.gateLeftTime = some g)
    (after : atOrAfter e.time g = true) (room : s.flu.heldB.length < 4) :
    s.takeCellB item = { s with flu := { s.flu with heldB := s.flu.heldB ++ [e] } } := by
  simp only [State.takeCellB, found, ← converted, free, Option.isSome_none, Bool.false_eq_true, if_false, bare, left,
    Option.any_some, after, room, decide_true, Bool.and_self, if_true]

theorem takeCellB_ignored
    (passed : r.cellBTime ≠ none ∨ (∃ a, r.cellATime = some a ∧ laterThan e.time a = false) ∨
      (r.cellATime = none ∧ (4 ≤ s.flu.heldB.length ∨ ∀ g, r.gateLeftTime = some g → atOrAfter e.time g = false))) :
    s.takeCellB item = s := by
  simp only [State.takeCellB, found, ← converted]
  by_cases free : r.cellBTime = none
  · rw [if_neg (by simp [free])]
    rcases passed.resolve_left (not_not.2 free) with ⟨a, first, early⟩ | ⟨bare, full⟩
    · simp only [first, early, Bool.false_eq_true, if_false]
    · simp only [bare]
      refine if_neg fun holds => ?_
      rw [Bool.and_eq_true, Option.any_eq_true, decide_eq_true_eq] at holds
      obtain ⟨⟨g, left, after⟩, room⟩ := holds
      rcases full with full | early
      · omega
      · exact Bool.noConfusion (after.symm.trans (early g left))
  · rw [if_pos (Option.isSome_iff_ne_none.2 free)]

end

/-! ### Frames of one item -/

/-- A frame of one edge item that passes its checks, by the kind of its slot's station. -/
theorem edgeFrame_of {now : Time} {seg : Seg} {source seq code sensor mark high low : Byte} {s : State} {slot : Slot}
    {of : StationKind} {hand : State → EdgeItem → State} (slotted : Slotted s seg source of slot)
    (offset : high.toNat * 256 + low.toNat ≤ 9999)
    (hands : slot.entry.role.kind = of → HandsEdge slot.entry (slotEnded seg now s) code hand) :
    exec (.edgeFrame now seg source seq (1 :: itemBytes code sensor mark high low)) s =
      Claims.mirrored slot seg 0x12 seq (1 :: itemBytes code sensor mark high low)
        (hand (slotEnded seg now s) ⟨code.toNat, sensor.toNat, mark, high.toNat * 256 + low.toNat⟩) := by
  obtain ⟨outside, open_, own, stays, kind, takes⟩ := slotted
  exact edgeFrame_one ⟨outside, open_, own, stays, rfl, takes⟩ (hands kind) offset

/-- Settles O24: an item of either cell finds the one IN_RUN record, and the held list gives its earliest time. -/
theorem speedCellsMeasure : Obligations.SpeedCellsMeasure := by
  unfold Obligations.SpeedCellsMeasure
  intro now seg source seq sensor mark high low s u slot e k r offset ended converted one held state
  have found : u.inRun = some (k, r) := inState_of_state one rfl held state
  refine ⟨fun slotted => ?cellA, fun slotted => ?cellB⟩
  case cellA =>
    have taken := edgeFrame_of (now := now) (seq := seq) (sensor := sensor) (mark := mark) slotted offset
      fun kind => .inl ⟨kind, rfl, rfl⟩
    rw [← ended] at taken
    rw [taken]
    refine ⟨fun passed => ?_, fun g first left after none => ?_, fun g before b behind first left after list later nearest least => ?_⟩
    · rw [takeCellA_ignored found converted passed]
    · have bare : u.flu.heldB.filter (fun b => earlierThan e.time b.time) = [] :=
        List.filter_eq_nil_iff.2 fun b listed => Bool.eq_false_iff.1 (none b listed)
      rw [takeCellA_first found converted held first left after, bare]
      rfl
    · rw [takeCellA_first found converted held first left after, list, earliest_held later nearest least]
      obtain ⟨shown, current⟩ := setCellB_shown (s := cellSet k (noted e { r with cellATime := some e.time }) u)
        ((JumpTable.get_set ..).trans (if_pos rfl)) e.time b
      obtain ⟨t, next, same, dsp, -⟩ := mirrored_next slot seg 0x12 seq (1 :: itemBytes 1 sensor mark high low)
        ((cellSet k (noted e { r with cellATime := some e.time }) u).setCellB k e.time b)
      refine ⟨t, next, ?_, fun v measured => ?_⟩
      · simp only [cellSet, JumpTable.set_set] at shown
        exact butShown_trans shown (butShown_of_reports same)
      · rw [dsp, current v measured]
        rfl
  case cellB =>
    have taken := edgeFrame_of (now := now) (seq := seq) (sensor := sensor) (mark := mark) slotted offset
      fun kind => .inr (.inl ⟨kind, rfl, rfl⟩)
    rw [← ended] at taken
    rw [taken]
    refine ⟨fun a free first later => ?_, fun g free bare left after room => ?_, fun passed => ?_⟩
    · rw [takeCellB_set found converted free first later]
      obtain ⟨shown, current⟩ := setCellB_shown held a e
      obtain ⟨t, next, same, dsp, -⟩ := mirrored_next slot seg 0x12 seq (1 :: itemBytes 1 sensor mark high low)
        (u.setCellB k a e)
      refine ⟨t, next, butShown_trans shown (butShown_of_reports same), fun v measured => ?_⟩
      rw [dsp, current v measured]
    · rw [takeCellB_held found converted free bare left after room]
    · rw [takeCellB_ignored found converted passed]

end Sys2Proof.Proofs
end

section
/-! Take-off and landing: the items of the TAKEOFF and LANDING stations (R125, R129, R131 to R133). -/

namespace Sys2Proof.Proofs

open Sys2Proof.Machine Sys2Proof.Claims

/-! ### A state entry on the course -/

theorem inState_eq_entered {y : RecState} (notHeld : y ≠ .held) (notMeasuring : y ≠ .measuring) (r : JumpRecord) :
    r.inState y = entered y r := by
  rw [JumpRecord.inState, if_neg notHeld, if_neg notMeasuring]
  rfl

theorem inState_eq_held (r : JumpRecord) : r.inState .held = held r := by
  have distance : r.finalDistance.isNone = decide (r.finalDistance = none) := by cases r.finalDistance <;> rfl
  rw [JumpRecord.inState, if_pos rfl, JumpRecord.needed, distance]
  rfl

/-- A state with a record that is about to enter another state on the course, and FLU's working state for it. -/
def onCourse (k : Fin 4) (x : JumpRecord) (f : FlightUnit) (s : State) : State :=
  { s with flu := f, jtb := s.jtb.set k (some x) }

/-- A state with a record of the course or behind it, the lamp RED. -/
def inCourse (k : Fin 4) (x : JumpRecord) (f : FlightUnit) (s : State) : State :=
  { s with
    jtb := s.jtb.set k (some x)
    flu := f
    stu := { s.stu with lamp := .red }
    lsc := { s.lsc with lampSlot := .red } }

section
variable {s : State} {k : Fin 4}

theorem onCourse_get (x : JumpRecord) (f : FlightUnit) : (onCourse k x f s).jtb.get k = some x :=
  (JumpTable.get_set ..).trans (if_pos rfl)

theorem onCourse_entered (round : s.competition.isOpen = true) (alone : AloneIn k s.jtb) {y : RecState}
    (left : y ≠ .cleared ∧ y ≠ .green) (x : JumpRecord) (f : FlightUnit) :
    ButShown (inCourse k (x.inState y) f s) ((onCourse k x f s).enterState k y) := by
  have lamp : derivedLamp (onCourse k x f s).competition ((onCourse k x f s).jtb.set k (some (x.inState y)))
      (onCourse k x f s).stu.flashing = .red := derivedLamp_set_left round (aloneIn_set alone _) left _
  obtain ⟨shown, -, -⟩ := enterState_shown y (onCourse_get x f) lamp
  refine butShown_trans ?_ shown
  simp only [inEntered, onCourse, JumpTable.set_set]
  exact butShown_refl _

end

/-! ### Take-off (R129) -/

section
variable {s : State} {item : EdgeItem} {e : EdgeTime} (addr : Nat) (converted : e = s.convert item.mark item.offset)

theorem takeoff_counts (r : JumpRecord) {g : Time} (left : r.gateLeftTime = some g) (t : Time) :
    (r.gateLeftTime.any (atOrAfter t) && r.cellBTime.all (atOrAfter t)) = true ↔
      atOrAfter t g = true ∧ ∀ b, r.cellBTime = some b → atOrAfter t b = true := by
  rw [Bool.and_eq_true, left, Option.any_some, Option.all_eq_true]

section
variable {k : Fin 4} {r : JumpRecord} (found : s.inRun = some (k, r)) {g : Time} (left : r.gateLeftTime = some g)

include converted found left

theorem takeTakeoff_flies (held : s.jtb.get k = some r)
    (counts : atOrAfter e.time g = true ∧ ∀ b, r.cellBTime = some b → atOrAfter e.time b = true) :
    s.takeTakeoff addr item =
      (onCourse k (noted e { r with takeoffTime := some e.time }) .idle s).enterState k .flight := by
  simp only [State.takeTakeoff, found, ← converted]
  rw [if_pos ((takeoff_counts r left e.time).2 counts), updateRecord_eq (s := { s with flu := .idle }) _ held, noteEstimate_eq]
  rfl

theorem takeTakeoff_early
    (early : ¬(atOrAfter e.time g = true ∧ ∀ b, r.cellBTime = some b → atOrAfter e.time b = true)) :
    s.takeTakeoff addr item = s := by
  simp only [State.takeTakeoff, found, ← converted]
  exact if_neg (mt (takeoff_counts r left e.time).1 early)

end

theorem leftByExpiry_iff (r : JumpRecord) :
    r.leftByExpiry = true ↔ r.takeoffTime = none ∧ (r.state = .measuring ∨ r.state = .marking ∨ r.state = .held) := by
  rw [JumpRecord.leftByExpiry, Bool.and_eq_true, Option.isNone_iff_eq_none, decide_eq_true_eq]
  tauto

theorem find_leftByExpiry_iff (t : JumpTable) :
    (t.find JumpRecord.leftByExpiry).isSome = true ↔
      ∃ k r, t.get k = some r ∧ r.takeoffTime = none ∧ (r.state = .measuring ∨ r.state = .marking ∨ r.state = .held) := by
  rw [← Option.ne_none_iff_isSome, ne_eq, JumpTable.find_none_iff]
  push Not
  simp only [ne_eq, Bool.not_eq_false, leftByExpiry_iff]

theorem takeTakeoff_bare (bare : ∀ k r, s.jtb.get k = some r → r.state ≠ .inRun) :
    s.takeTakeoff addr item = if (s.jtb.find JumpRecord.leftByExpiry).isSome then s.raise .lateData addr else s := by
  have none : s.inRun = none := JumpTable.inState_none_iff.2 fun k r held => decide_eq_false (bare k r held)
  simp only [State.takeTakeoff, none]

end

/-- Settles O25: the one IN_RUN record flies or stays; without one, a jump given up before decides. -/
theorem takeoffStartsFlight : Obligations.TakeoffStartsFlight := by
  unfold Obligations.TakeoffStartsFlight
  intro now seg source seq sensor mark high low s u slot e slotted offset ended converted one records
  have taken := edgeFrame_of (now := now) (seq := seq) (sensor := sensor) (mark := mark) slotted offset
    fun kind => .inr (.inr (.inl ⟨kind, rfl, rfl⟩))
  rw [← ended] at taken
  rw [taken]
  refine ⟨fun k r g held state left => ⟨fun counts => ?flies, fun early => ?_⟩, fun bare => ⟨fun given => ?_, fun flown => ?_⟩⟩
  case flies =>
    have found : u.inRun = some (k, r) := inState_of_state one rfl held state
    rw [takeTakeoff_flies _ converted found left held counts]
    have entry := onCourse_entered (y := .flight) (isOpen_of_record records held)
      (aloneIn_of_active one held (by rw [state]; rfl)) (by decide) (noted e { r with takeoffTime := some e.time }) .idle
    obtain ⟨t, next, same, -⟩ := mirrored_next slot seg 0x12 seq (1 :: itemBytes 1 sensor mark high low)
      ((onCourse k (noted e { r with takeoffTime := some e.time }) .idle u).enterState k .flight)
    rw [inState_eq_entered (by decide) (by decide)] at entry
    exact ⟨t, next, butShown_trans entry (butShown_of_reports same)⟩
  · have found : u.inRun = some (k, r) := inState_of_state one rfl held state
    rw [takeTakeoff_early _ converted found left early]
  · rw [takeTakeoff_bare _ bare, if_pos ((find_leftByExpiry_iff _).2 given)]
  · rw [takeTakeoff_bare _ bare, if_neg]
    rw [find_leftByExpiry_iff]
    rintro ⟨k, r, held, never, state⟩
    exact flown k r held state never

/-! ### Contacts (R125, R131 to R133) -/

section
variable {s : State} {item : EdgeItem} {addr m n : Nat}

theorem takeContact_unfit
    (unfit : n ≤ item.sensor ∨ ∀ x ∈ s.tables.distance, ¬(x.moduleIndex = m ∧ x.sensor = item.sensor)) :
    s.takeContact addr m n item = s.raise .stationDataBad addr := by
  unfold State.takeContact
  split
  · rfl
  · next d mapped =>
    rcases unfit with beyond | unmapped
    · exact if_pos beyond
    · have none : s.tables.distance.find? (fun x => decide (x.moduleIndex = m ∧ x.sensor = item.sensor)) = none :=
        List.find?_eq_none.2 fun x listed => by rw [decide_eq_true_eq]; exact unmapped x listed
      rw [mapContact, none] at mapped
      cases mapped

theorem takeContact_mapped {d : DistanceEntry} (fits : item.sensor < n)
    (mapped : s.tables.distance.find? (fun x => decide (x.moduleIndex = m ∧ x.sensor = item.sensor)) = some d) :
    s.takeContact addr m n item = s.takeMapped (s.convert item.mark item.offset) d.distance := by
  have found : mapContact s.tables.distance m item.sensor = some d.distance := by
    rw [mapContact, mapped]
    rfl
  simp only [State.takeContact, found]
  exact if_neg (Nat.not_le.2 fits)

end

section
variable {s : State} {e : EdgeTime} {d : Nat}

theorem takeMapped_outside
    (outside : ∀ k r t0, s.jtb.get k = some r → r.state = .flight ∨ r.state = .landing → r.takeoffTime = some t0 →
      inWindow e.time (after t0 (s.tables.hill.flightMin * 10)) (after t0 (s.tables.hill.flightMax * 10)) = false) :
    s.takeMapped e d = s := by
  unfold State.takeMapped
  split
  · rfl
  · next k r found =>
    refine if_neg fun holds => ?_
    obtain ⟨t0, off, inside⟩ := (Option.any_eq_true _ _).1 holds
    have held := get_of_inState found
    exact Bool.noConfusion (inside.symm.trans (outside k r t0 held (of_decide_eq_true (state_of_inState found held)) off))

variable {k : Fin 4} {r : JumpRecord} {t0 : Time} (one : OneActive s.jtb) (held : s.jtb.get k = some r)
  (off : r.takeoffTime = some t0)
  (inside : inWindow e.time (after t0 (s.tables.hill.flightMin * 10)) (after t0 (s.tables.hill.flightMax * 10)) = true)

include one held off inside

theorem takeMapped_inside (state : r.state = .flight ∨ r.state = .landing) :
    s.takeMapped e d = if r.state = .flight then s.firstContact k e d else s.laterContact k e d := by
  have found : (s.jtb.inState fun x => decide (x = .flight ∨ x = .landing)) = some (k, r) := by
    refine inState_of_active one (fun x sought => ?_) held (decide_eq_true state)
    rcases of_decide_eq_true sought with rfl | rfl <;> rfl
  simp only [State.takeMapped, found, off, Option.any_some]
  exact if_pos inside

theorem takeMapped_first (state : r.state = .flight) :
    s.takeMapped e d = (onCourse k (noted e r) ⟨[], none, some ⟨e.time, d⟩, s.now, 0⟩ s).enterState k .landing := by
  rw [takeMapped_inside one held off inside (.inl state), if_pos state, State.firstContact]
  rw [updateRecord_eq (s := { s with flu := { FlightUnit.idle with candidate := some ⟨e.time, d⟩, firstArrival := s.now } })
    _ held, noteEstimate_eq]
  rfl

theorem takeMapped_later (state : r.state = .landing) {c : Candidate} (candidate : s.flu.candidate = some c) :
    s.takeMapped e d =
      if earlierThan e.time c.time = true ∨ (e.time = c.time ∧ d < c.distance) then
        { s with jtb := s.jtb.set k (some (noted e r)), flu := { s.flu with candidate := some ⟨e.time, d⟩ } }
      else s := by
  have beaten : s.flu.candidate.any (beats e d) = true ↔
      earlierThan e.time c.time = true ∨ (e.time = c.time ∧ d < c.distance) := by
    rw [candidate, Option.any_some, beats, Bool.or_eq_true, decide_eq_true_eq]
  rw [takeMapped_inside one held off inside (.inr state), if_neg (by rw [state]; decide), State.laterContact]
  rw [updateRecord_eq (s := { s with flu := { s.flu with candidate := some ⟨e.time, d⟩ } }) _ held, noteEstimate_eq]
  exact if_congr beaten rfl rfl

end

/-- Settles O26: a contact's sensor, its window, and the one record in the air or landing. -/
theorem contactsLand : Obligations.ContactsLand := by
  unfold Obligations.ContactsLand
  intro now seg source seq sensor mark high low s u slot e m n slotted offset ended converted one records place
  obtain ⟨x, found, role⟩ := place
  have time : u.now = now := by rw [ended, slotEnded_now]
  have taken := edgeFrame_of (now := now) (seq := seq) (sensor := sensor) (mark := mark) slotted offset
    fun kind => .inr (.inr (.inr ⟨kind, rfl, x, m, n, by rw [← ended]; exact found, role, rfl⟩))
  rw [← ended] at taken
  rw [taken]
  refine ⟨fun unfit => by rw [takeContact_unfit unfit], fun d fits mapped => ?_⟩
  rw [takeContact_mapped (item := ⟨_, sensor.toNat, mark, _⟩) fits mapped, ← converted]
  refine ⟨fun outside => by rw [takeMapped_outside outside], fun k r t0 held off inside => ⟨fun state => ?first,
    fun c state candidate => ?_⟩⟩
  case first =>
    rw [takeMapped_first one held off inside state, time]
    have entry := onCourse_entered (y := .landing) (isOpen_of_record records held)
      (aloneIn_of_active one held (by rw [state]; rfl)) (by decide) (noted e r) ⟨[], none, some ⟨e.time, d.distance⟩, now, 0⟩
    obtain ⟨t, next, same, -⟩ := mirrored_next slot seg 0x12 seq (1 :: itemBytes 3 sensor mark high low)
      ((onCourse k (noted e r) ⟨[], none, some ⟨e.time, d.distance⟩, now, 0⟩ u).enterState k .landing)
    rw [inState_eq_entered (by decide) (by decide)] at entry
    exact ⟨t, next, butShown_trans entry (butShown_of_reports same)⟩
  · rw [takeMapped_later one held off inside state candidate]
    exact ⟨fun beaten => by rw [if_pos beaten], fun stands => by rw [if_neg stands]⟩

end Sys2Proof.Proofs
end

section
/-! Scoring: a result entry placed, announced, and its record freed (R58, R159 to R169, R174, R175). -/

namespace Sys2Proof.Proofs

open Sys2Proof.Machine Sys2Proof.Claims

/-! ### An entry placed (R167) -/

section
variable {e : ResultEntry} {l : List ResultEntry}

theorem mem_placeEntry {x : ResultEntry} : x ∈ placeEntry e l ↔ x = e ∨ (x ∈ l ∧ x.bib ≠ e.bib) := by
  rw [placeEntry, (insertRanked_perm e _).mem_iff, List.mem_cons, List.mem_filter, decide_eq_true_eq]

theorem placeEntry_pairwise (order : l.Pairwise StandsBefore) : (placeEntry e l).Pairwise StandsBefore :=
  insertRanked_pairwise (order.filter _) fun _ listed => Ne.symm (of_decide_eq_true (List.mem_filter.1 listed).2)

theorem filter_insertRanked (p : ResultEntry → Bool) (out : p e = false) : (insertRanked e l).filter p = l.filter p := by
  induction l with
  | nil => simp [insertRanked, out]
  | cons x rest ih =>
    rw [insertRanked]
    split
    · rw [List.filter_cons_of_neg (Bool.eq_false_iff.1 out)]
    · rw [List.filter_cons, List.filter_cons, ih]

/-- The entries of the other bibs stay in their order. -/
theorem filter_placeEntry {bib : Nat} (own : e.bib = bib) :
    (placeEntry e l).filter (fun x => decide (x.bib ≠ bib)) = l.filter fun x => decide (x.bib ≠ bib) := by
  rw [placeEntry, filter_insertRanked _ (decide_eq_false (not_not.2 own)), own, List.filter_filter]
  simp only [Bool.and_self]

theorem entryOf_bib {bib : Nat} (found : entryOf l bib = some e) : e.bib = bib := by
  simpa using List.find?_some found

theorem entryOf_placeEntry : entryOf (placeEntry e l) e.bib = some e := by
  cases found : entryOf (placeEntry e l) e.bib with
  | none =>
    exact absurd rfl (of_decide_eq_false (Bool.eq_false_iff.2 (List.find?_eq_none.1 found e (mem_placeEntry.2 (.inl rfl)))))
  | some x =>
    rcases mem_placeEntry.1 (List.mem_of_find?_eq_some found) with rfl | ⟨-, other⟩
    · rfl
    · exact absurd (entryOf_bib found) other

theorem entryOrNew_bib (l : List ResultEntry) (bib : Nat) : (entryOrNew l bib).bib = bib := by
  unfold entryOrNew
  cases found : entryOf l bib with
  | none => rfl
  | some e => exact entryOf_bib found

end

/-! ### An entry announced (R169, R174, R175) -/

/-- The display once a changed entry has been shown. -/
def announced (names : List Competitor) (results : List ResultEntry) (e : ResultEntry) (d : Display) : Display :=
  { d with current := some (entryPage names results e), leaders := leadersOf names results }

theorem reportResult_waits {s : State} (r : Report) (enabled : s.enables.result = true) (room : s.office.count < 60) :
    r ∈ (s.reportResult r).office.reports := by
  rw [State.reportResult, if_pos enabled]
  exact State.offerReport_waits _ _ room

section
variable (e : ResultEntry) (flags : Option RecFlags) (s : State)

theorem announceResult_eq :
    s.announceResult e flags =
      { s.reportResult (.result e (rankAmong s.results e) flags) with
        dsp := announced s.tables.competitors s.results e s.dsp
        lsc := { s.lsc with segS := { s.lsc.segS with
          queue := pageShown (announced s.tables.competitors s.results e s.dsp) s.tables.stations .leaders
            (pageShown (announced s.tables.competitors s.results e s.dsp) s.tables.stations .current s.lsc.segS.queue) } } } := by
  simp only [State.announceResult, State.sendResult, State.sendLeaders, sendPage_eq, resultImage_eq, leaderRows_eq,
    rankIn_eq_rankAmong, State.reportResult_dsp, State.reportResult_tables, State.reportResult_results, State.reportResult_lsc]
  rfl

theorem announceResult_shown : ButShown s (s.announceResult e flags) := by
  unfold State.announceResult
  exact butShown_trans (butShown_trans (butShown_of_reports (reportResult_butReports _ _)) (sendResult_butShown _ _))
    (sendLeaders_butShown _)

theorem announceResult_dsp : (s.announceResult e flags).dsp = announced s.tables.competitors s.results e s.dsp := by
  rw [announceResult_eq]

theorem announceResult_queue :
    (s.announceResult e flags).lsc.segS.queue =
      pageShown (s.announceResult e flags).dsp s.tables.stations .leaders
        (pageShown (s.announceResult e flags).dsp s.tables.stations .current s.lsc.segS.queue) := by
  rw [announceResult_eq]

theorem announceResult_office :
    (s.announceResult e flags).office = (s.reportResult (.result e (rankAmong s.results e) flags)).office := by
  rw [announceResult_eq]

end

/-! ### A record scored (R159, R160, R165, R166) -/

theorem isDsq_iff (r : JumpRecord) : r.isDsq = true ↔ ScoresDsq r := by
  rw [JumpRecord.isDsq, ScoresDsq, Bool.and_eq_true, Bool.or_eq_true, Bool.not_eq_true']

/-- The result entry of a record scored in a state. -/
def scored (r : JumpRecord) (s : State) : ResultEntry :=
  scoredEntry s.tables.hill (s.stu.roundReference.getD 0) (entryOrNew s.results r.bib) r (r.finalDistance.getD 0)

theorem scored_dsq {r : JumpRecord} {s : State} (dsq : ScoresDsq r) :
    scored r s = { entryOrNew s.results r.bib with
      status := .dsq, detail := some ⟨r.round, r.finalDistance.getD 0, r.speed, r.gate, none⟩ } :=
  if_pos ((isDsq_iff r).2 dsq)

/-- The points of a record scored in a state. -/
def scoredPoints (r : JumpRecord) (s : State) : Points :=
  pointsOf s.tables.hill (s.stu.roundReference.getD 0) r (r.finalDistance.getD 0)

theorem scored_ok {r : JumpRecord} {s : State} (ok : ¬ScoresDsq r) :
    scored r s = { entryOrNew s.results r.bib with
      round1 := if r.round = 1 then some (scoredPoints r s).roundTotal else (entryOrNew s.results r.bib).round1
      round2 := if r.round = 1 then (entryOrNew s.results r.bib).round2 else some (scoredPoints r s).roundTotal
      detail := some ⟨r.round, r.finalDistance.getD 0, r.speed, r.gate, some (scoredPoints r s)⟩ } :=
  if_neg (mt (isDsq_iff r).1 ok)

theorem scored_bib (r : JumpRecord) (s : State) : (scored r s).bib = r.bib := by
  by_cases dsq : ScoresDsq r
  · rw [scored_dsq dsq]
    exact entryOrNew_bib _ _
  · rw [scored_ok dsq]
    exact entryOrNew_bib _ _

theorem roundTotal_le (dp st : Nat) (gc wc : Int) : roundTotal dp st gc wc ≤ 30000 := Nat.min_le_left _ _

/-- A state with a record's result placed, and the start list as a DSQ result leaves it (R58). -/
def scoring (r : JumpRecord) (s : State) : State :=
  { s with
    results := placeEntry (scored r s) s.results
    startList := if r.isDsq then s.startList.erase r.bib else s.startList }

/-- A record that is neither on the bar nor on the course. -/
def Landed (r : JumpRecord) : Prop := r.state.onBar = false ∧ r.state.onCourse = false

/-- A state with a landed record freed and scored, but for what is reported and shown. -/
def inScored (k : Fin 4) (r : JumpRecord) (lamp : Lamp) (s : State) : State :=
  { scoring r s with
    jtb := s.jtb.set k none
    stu := { s.stu with lamp := lamp }
    lsc := { s.lsc with lampSlot := lamp } }

section
variable {s : State} {k : Fin 4} {r : JumpRecord}

theorem score_eq (held : s.jtb.get k = some r) :
    s.score k = ((scoring r s).freeRecord k .scored false).announceResult (scored r s) (some r.flags) := by
  simp only [State.score, held]
  rfl

section
variable (held : s.jtb.get k = some r) (landed : Landed r)

include held landed

theorem scoring_freed : ButShown (inScored k r (lampFreed k r s) s) ((scoring r s).freeRecord k .scored false) ∧
    ((scoring r s).freeRecord k .scored false).dsp = s.dsp := by
  obtain ⟨bar, course⟩ := landed
  obtain ⟨shown, dsp⟩ := freeRecord_shown (s := scoring r s) (k := k) (r := r) .scored false held
  have same : ButShown (inScored k r (lampFreed k r s) s) (inFreed k r false (lampFreed k r (scoring r s)) (scoring r s)) := by
    simp only [inFreed, barCleared, bar, course, Bool.false_eq_true, if_false]
    rfl
  refine ⟨butShown_trans same shown, dsp.trans ?_⟩
  rw [barCleared, bar]
  rfl

theorem score_shown : ButShown (inScored k r (lampFreed k r s) s) (s.score k) := by
  rw [score_eq held]
  exact butShown_trans (scoring_freed held landed).1 (announceResult_shown _ _ _)

theorem score_dsp :
    (s.score k).dsp = announced s.tables.competitors (s.score k).results (scored r s) s.dsp := by
  obtain ⟨freed, dsp⟩ := scoring_freed held landed
  have results : (s.score k).results = placeEntry (scored r s) s.results :=
    (butShown_same State.results (score_shown held landed) fun _ => rfl :)
  rw [results, score_eq held, announceResult_dsp, dsp, (butShown_same State.tables freed fun _ => rfl :),
    (butShown_same State.results freed fun _ => rfl :)]
  rfl

end

theorem freeRecord_lsc (reason : JumpReason) (returns : Bool) (held : s.jtb.get k = some r) :
    (s.freeRecord k reason returns).lsc = { s.lsc with lampSlot := lampFreed k r s } := by
  rw [freeRecord_eq reason returns held, State.updateHeld_lsc, State.reportJump_lsc]
  rfl

theorem score_queue (held : s.jtb.get k = some r) :
    (s.score k).lsc.segS.queue =
      pageShown (s.score k).dsp s.tables.stations .leaders
        (pageShown (s.score k).dsp s.tables.stations .current s.lsc.segS.queue) := by
  have tables : ((scoring r s).freeRecord k .scored false).tables = s.tables := by
    rw [freeRecord_eq (s := scoring r s) (r := r) .scored false held]
    simp [inFreed, scoring]
  rw [score_eq held, announceResult_queue, tables, freeRecord_lsc (s := scoring r s) .scored false held]
  rfl

theorem score_reports (held : s.jtb.get k = some r) (jump : s.enables.jump = true) (result : s.enables.result = true)
    (room : s.office.count + 2 < 60) :
    .jump r.bib (some k) none .scored .none r.flags ∈ (s.score k).office.reports ∧
      .result (scored r s) (rankAmong (placeEntry (scored r s) s.results) (scored r s)) (some r.flags) ∈
        (s.score k).office.reports := by
  have gains := freeRecord_gains (s := scoring r s) (r := r) .scored false held
  have freed := freeRecord_eq (s := scoring r s) (r := r) .scored false held
  have results : ((scoring r s).freeRecord k .scored false).results = placeEntry (scored r s) s.results := by
    rw [freed]
    simp [inFreed, scoring]
  have enables : ((scoring r s).freeRecord k .scored false).enables = s.enables := by
    rw [freed]
    simp [inFreed, scoring]
  rw [score_eq held, announceResult_office, results]
  refine ⟨(State.reportResult_gains _ _).keeps_report ?_, reportResult_waits _ (by rw [enables]; exact result) ?_⟩
  · exact freeRecord_reports (s := scoring r s) .scored false held jump (Nat.lt_of_le_of_lt (Nat.le_add_right _ 2) room)
  · exact Nat.lt_of_le_of_lt gains.count room

end

/-- What a scoring leaves, as the statements word it, whatever is reported or sent behind it (R159 to R166, R174, R175). -/
theorem scored_of {s t : State} {k : Fin 4} {r : JumpRecord} (held : s.jtb.get k = some r) (landed : Landed r)
    (leaves : ButShown (s.score k) t) (shows : t.dsp = (s.score k).dsp) : Scored k r s t := by
  have shown := butShown_trans (score_shown held landed) leaves
  have jtb : t.jtb = s.jtb.set k none := (butShown_same State.jtb shown fun _ => rfl :)
  have results : t.results = placeEntry (scored r s) s.results := (butShown_same State.results shown fun _ => rfl :)
  have list : t.startList = if r.isDsq then s.startList.erase r.bib else s.startList :=
    (butShown_same State.startList shown fun _ => rfl :)
  have dsp : t.dsp = announced s.tables.competitors t.results (scored r s) s.dsp := by
    rw [shows, score_dsp held landed, results, (butShown_same State.results (score_shown held landed) fun _ => rfl :)]
    rfl
  refine ⟨?_, by rw [dsp]; rfl, scored r s, ?_, by rw [dsp]; rfl, fun dsq => ?_, fun ok => ?_, fun d g old p final gate was points =>
    ⟨fun dsq => ?_, fun ok => ?_⟩⟩
  · rw [jtb]
    exact (JumpTable.get_set ..).trans (if_pos rfl)
  · rw [results, ← scored_bib r s]
    exact entryOf_placeEntry
  · rw [list, if_pos ((isDsq_iff r).2 dsq), scored_dsq dsq]
    exact ⟨rfl, rfl⟩
  · rw [list, if_neg (mt (isDsq_iff r).1 ok), scored_ok ok]
    refine ⟨rfl, _, scoredPoints r s, rfl, rfl, rfl, roundTotal_le _ _ _ _, ?_⟩
    split <;> rfl
  · rw [scored_dsq dsq, final, was]
    rfl
  · rw [scored_ok ok, points, was, scoredPoints, final, gate]
    rfl

end Sys2Proof.Proofs
end

section
/-! The completion step, final distances and marks of a held record (R68, R70, R137 to R140, R147 to R149, R153 to R158). -/

namespace Sys2Proof.Proofs

open Sys2Proof.Machine Sys2Proof.Claims

/-! ### What an event on a record may change elsewhere -/

/-- A state with the records, the lists and the lamp of another. -/
def takingRecords (t s : State) : State :=
  { s with
    jtb := t.jtb
    results := t.results
    startList := t.startList
    stu := { s.stu with lamp := t.stu.lamp }
    lsc := { s.lsc with lampSlot := t.lsc.lampSlot } }

/-- A change of one record, the lists, the lamp and what is reported and shown. -/
def Upon (k : Fin 4) (s t : State) : Prop := ButShown (takingRecords t s) t ∧ OthersKept k s t

theorem upon_trans {k : Fin 4} {s v t : State} (h : Upon k s v) (h' : Upon k v t) : Upon k s t := by
  obtain ⟨shown, others⟩ := h
  obtain ⟨shown', others'⟩ := h'
  have taken := butShown_map (takingRecords t) shown fun _ => rfl
  exact ⟨butShown_trans taken shown', fun j apart => (others' j apart).trans (others j apart)⟩

theorem upon_of_shown {s t : State} (k : Fin 4) (h : ButShown s t) : Upon k s t := by
  have same : takingRecords t s = s := by
    simp only [takingRecords, (butShown_same State.jtb h fun _ => rfl :), (butShown_same State.results h fun _ => rfl :),
      (butShown_same State.startList h fun _ => rfl :), (butShown_same (·.stu.lamp) h fun _ => rfl :),
      (butShown_same (·.lsc.lampSlot) h fun _ => rfl :)]
  refine ⟨by rw [same]; exact h, fun j _ => ?_⟩
  rw [(butShown_same State.jtb h fun _ => rfl :)]

theorem withRecord_upon (k : Fin 4) (r : JumpRecord) (s : State) : Upon k s (withRecord k r s) :=
  ⟨rfl, fun _ apart => (JumpTable.get_set ..).trans (if_neg apart)⟩

theorem inEntered_upon (k : Fin 4) (r : JumpRecord) (x : RecState) (lamp : Lamp) (s : State) :
    Upon k s (inEntered k r x lamp s) := ⟨rfl, fun _ apart => (JumpTable.get_set ..).trans (if_neg apart)⟩

theorem inScored_upon (k : Fin 4) (r : JumpRecord) (lamp : Lamp) (s : State) : Upon k s (inScored k r lamp s) :=
  ⟨rfl, fun _ apart => (JumpTable.get_set ..).trans (if_neg apart)⟩

theorem setNow_self {s : State} {now : Time} (time : s.now = now) : s.setNow now = s := by
  subst time
  rfl

/-- An event on a record within a command at a hill time. -/
theorem onRecord_of {now : Time} {k : Fin 4} {s v u t : State} (asked : ButReports (s.setNow now) v) (upon : Upon k v u)
    (leaves : ButReports u t) : OnRecord now k s t :=
  (upon_trans (upon_trans (upon_of_shown k (butShown_of_reports asked)) upon) (upon_of_shown k (butShown_of_reports leaves)) :
    Upon k (s.setNow now) t)

/-! ### A state entry and a scoring -/

section
variable {s : State} {k : Fin 4} {r : JumpRecord}

/-- A record that has moved on in its slot: the lists and the display stand. -/
def Moved (k : Fin 4) (x : JumpRecord) (s u : State) : Prop :=
  u.jtb = s.jtb.set k (some x) ∧ u.results = s.results ∧ u.startList = s.startList ∧ u.dsp = s.dsp ∧ Upon k s u

theorem moved_of_withRecord {k : Fin 4} {w x : JumpRecord} {s u : State} (h : Moved k x (withRecord k w s) u) : Moved k x s u := by
  obtain ⟨jtb, results, list, dsp, upon⟩ := h
  exact ⟨jtb.trans (JumpTable.set_set ..), results, list, dsp, upon_trans (withRecord_upon ..) upon⟩

theorem enterState_moved (x : RecState) (held : s.jtb.get k = some r) : Moved k (r.inState x) s (s.enterState k x) := by
  obtain ⟨shown, dsp, -⟩ := enterState_shown x held rfl
  exact ⟨(butShown_same State.jtb shown fun _ => rfl :), (butShown_same State.results shown fun _ => rfl :),
    (butShown_same State.startList shown fun _ => rfl :), dsp, upon_trans (inEntered_upon ..) (upon_of_shown k shown)⟩

theorem score_upon (held : s.jtb.get k = some r) (landed : Landed r) : Upon k s (s.score k) :=
  upon_trans (inScored_upon ..) (upon_of_shown k (score_shown held landed))

theorem landed_of_measuring (state : r.state = .measuring) : Landed r := by rw [Landed, state]; exact ⟨rfl, rfl⟩

theorem landed_of_marking (state : r.state = .marking) : Landed r := by rw [Landed, state]; exact ⟨rfl, rfl⟩

theorem landed_of_held (state : r.state = .held) : Landed r := by rw [Landed, state]; exact ⟨rfl, rfl⟩

/-! ### The needs of a held record (R68, R70) -/

theorem needed_none_iff (r : JumpRecord) :
    r.needed = .none ↔ r.finalDistance ≠ none ∧ (r.marksOverdue && !r.marksLocked) = false := by
  rw [JumpRecord.needed, Needs.none, Needs.mk.injEq, Option.isNone_eq_false_iff, Option.isSome_iff_ne_none]

theorem recomputeNeeds_done (held : s.jtb.get k = some r) (done : r.needed = .none) :
    s.recomputeNeeds k = if r.complete && r.marksLocked then s.score k else s.enterState k .marking := by
  simp only [State.recomputeNeeds, held]
  exact if_pos done

theorem recomputeNeeds_needs (held : s.jtb.get k = some r) (needs : r.needed ≠ .none) :
    s.recomputeNeeds k =
      if r.needed = r.needs then s else State.reportRecord k .needs (withRecord k { r with needs := r.needed } s) := by
  simp only [State.recomputeNeeds, held]
  rw [if_neg needs, updateRecord_eq _ held]

/-- Needs formed anew, and not empty, keep the record where it is. -/
theorem recomputeNeeds_needs_moved (held : s.jtb.get k = some r) (needs : r.needed ≠ .none) :
    Moved k { r with needs := r.needed } s (s.recomputeNeeds k) := by
  have shown : ButReports (withRecord k { r with needs := r.needed } s) (s.recomputeNeeds k) := by
    rw [recomputeNeeds_needs held needs]
    split
    · next same =>
      rw [same, withRecord_self held]
      exact butReports_refl _
    · exact reportRecord_butReports _ _ _
  exact ⟨(butReports_same State.jtb shown fun _ => rfl :), (butReports_same State.results shown fun _ => rfl :),
    (butReports_same State.startList shown fun _ => rfl :), (butReports_same State.dsp shown fun _ => rfl :),
    upon_trans (withRecord_upon ..) (upon_of_shown k (butShown_of_reports shown))⟩

theorem moved_upon {k : Fin 4} {x : JumpRecord} {s u : State} (h : Moved k x s u) : Upon k s u := by
  obtain ⟨-, -, -, -, upon⟩ := h
  exact upon

theorem recomputeNeeds_upon (held : s.jtb.get k = some r) (landed : Landed r) : Upon k s (s.recomputeNeeds k) := by
  by_cases done : r.needed = .none
  · rw [recomputeNeeds_done held done]
    split
    · exact score_upon held landed
    · exact moved_upon (enterState_moved _ held)
  · exact moved_upon (recomputeNeeds_needs_moved held done)

/-! ### The completion step (R147 to R149) -/

theorem withWind_eq (stations : List StationEntry) (d : Nat) (r : JumpRecord) :
    ∃ value flags, withWind stations d r = { r with windValue := value, flags := flags } := by
  unfold withWind
  split
  · exact ⟨_, _, rfl⟩
  · exact ⟨_, _, rfl⟩

theorem formWind_eq (held : s.jtb.get k = some r) (d : Nat) :
    s.formWind k d = withRecord k (withWind s.tables.stations d r) s := by
  rw [State.formWind, updateRecord_eq _ held]
  rfl

/-- A record whose measurement is complete in MEASURING or HELD (R148). -/
def Measured (d : Nat) (r : JumpRecord) : Prop :=
  r.finalDistance = some d ∧ r.windCloseDone = true ∧ (r.state = .measuring ∨ (r.state = .held ∧ r.confirmExpiry = none))

theorem measured_withWind {d : Nat} (stations : List StationEntry) (measured : Measured d r) :
    Measured d (withWind stations d r) := by
  obtain ⟨_, _, same⟩ := withWind_eq stations d r
  rw [same]
  exact measured

theorem landed_of_measured {d : Nat} (measured : Measured d r) : Landed r := by
  obtain ⟨-, -, state | ⟨state, -⟩⟩ := measured
  · exact landed_of_measuring state
  · exact landed_of_held state

/-- The record that goes on from the completion step with its marks not locked (R149). -/
def goesOn (w : JumpRecord) : JumpRecord := if w.marksOverdue = true then held w else entered .marking w

/-- A record with its wind value formed, scored with its marks locked, and otherwise going on (R70, R148, R149). -/
theorem needs_step {d : Nat} (held : s.jtb.get k = some r) (measured : Measured d r) (state : r.state = .held) :
    (r.marksLocked = true → s.recomputeNeeds k = s.score k) ∧
      (r.marksLocked = false → Moved k (goesOn r) s (s.recomputeNeeds k)) := by
  obtain ⟨final, done, place⟩ := measured
  have idle : r.confirmExpiry = none := by
    rcases place with other | ⟨-, idle⟩
    · exact nomatch state.symm.trans other
    · exact idle
  have needed : r.needed = ⟨false, r.marksOverdue && !r.marksLocked⟩ := by rw [JumpRecord.needed, final]; rfl
  have complete : r.complete = true := by rw [JumpRecord.complete, final, done]; rfl
  refine ⟨fun locked => ?_, fun open_ => ?_⟩
  · rw [recomputeNeeds_done held (by rw [needed, locked, Bool.not_true, Bool.and_false]; rfl), complete, locked]
    rfl
  · rcases Bool.eq_false_or_eq_true r.marksOverdue with late | early
    · have some : r.needed ≠ .none := by
        rw [needed, late, open_]
        decide
      have becomes : goesOn r = { r with needs := r.needed } := by
        rw [goesOn, if_pos late, ← inState_eq_held, JumpRecord.inState, if_pos rfl, if_neg (by decide), ← state, ← idle]
      rw [becomes]
      exact recomputeNeeds_needs_moved held some
    · have becomes : goesOn r = r.inState .marking := by
        rw [goesOn, if_neg (Bool.eq_false_iff.1 early), inState_eq_entered (by decide) (by decide)]
      rw [becomes, recomputeNeeds_done held (by rw [needed, early]; rfl), open_, Bool.and_false]
      exact enterState_moved _ held

theorem complete_step {d : Nat} (held : s.jtb.get k = some r) (measured : Measured d r) {w : JumpRecord}
    (formed : w = withWind s.tables.stations d r) :
    (w.marksLocked = true → s.complete k = (withRecord k w s).score k) ∧
      (w.marksLocked = false → Moved k (goesOn w) s (s.complete k)) := by
  have after : Measured d w := formed ▸ measured_withWind _ measured
  have stands := withRecord_get k w s
  obtain ⟨value, flags, same⟩ := withWind_eq s.tables.stations d r
  rw [← formed] at same
  have locks : w.marksLocked = r.marksLocked := by rw [same]
  have late : w.marksOverdue = r.marksOverdue := by rw [same]
  have stays : w.state = r.state := by rw [same]
  obtain ⟨final, -, state | ⟨state, -⟩⟩ := measured
  · have goes : s.complete k =
        if w.marksLocked then (withRecord k w s).score k
        else if w.marksOverdue then (withRecord k w s).enterState k .held else (withRecord k w s).enterState k .marking := by
      simp only [State.complete, held, final, state, formWind_eq held, ← formed, locks, late]
    rw [goes]
    refine ⟨fun locked => if_pos locked, fun open_ => ?_⟩
    rw [if_neg (Bool.eq_false_iff.1 open_), goesOn]
    split
    · rw [← inState_eq_held]
      exact moved_of_withRecord (enterState_moved _ stands)
    · rw [← inState_eq_entered (by decide) (by decide)]
      exact moved_of_withRecord (enterState_moved _ stands)
  · have goes : s.complete k = (withRecord k w s).recomputeNeeds k := by
      simp only [State.complete, held, final, state, formWind_eq held, ← formed]
    rw [goes]
    obtain ⟨scores, moves⟩ := needs_step stands after (stays.trans state)
    exact ⟨scores, fun open_ => moved_of_withRecord (moves open_)⟩

theorem complete_upon {d : Nat} (held : s.jtb.get k = some r) (measured : Measured d r) : Upon k s (s.complete k) := by
  obtain ⟨scores, moves⟩ := complete_step held measured rfl
  rcases Bool.eq_false_or_eq_true (withWind s.tables.stations d r).marksLocked with locked | open_
  · rw [scores locked]
    exact upon_trans (withRecord_upon ..)
      (score_upon (withRecord_get ..) (landed_of_measured (measured_withWind _ measured)))
  · exact moved_upon (moves open_)

/-- What the completion step leaves, as the statements word it. -/
theorem completed_of {t : State} {d : Nat} (held : s.jtb.get k = some r) (measured : Measured d r)
    (leaves : ButShown (s.complete k) t) (shows : t.dsp = (s.complete k).dsp) :
    Completed k (withWind s.tables.stations d r) s t ∧ (r.marksLocked = false → t.dsp = s.dsp) := by
  obtain ⟨scores, moves⟩ := complete_step held measured rfl
  have locks : (withWind s.tables.stations d r).marksLocked = r.marksLocked := by
    obtain ⟨_, _, same⟩ := withWind_eq s.tables.stations d r
    rw [same]
  refine ⟨⟨fun locked => ?_, fun open_ => ?_⟩, fun open_ => ?_⟩
  · rw [scores locked] at leaves shows
    exact scored_of (s := withRecord k _ s) (withRecord_get ..) (landed_of_measured (measured_withWind _ measured)) leaves shows
  · obtain ⟨jtb, results, list, -⟩ := moves open_
    exact ⟨(butShown_same State.results leaves fun _ => rfl :).trans results,
      (butShown_same State.startList leaves fun _ => rfl :).trans list,
      (butShown_same State.jtb leaves fun _ => rfl :).trans jtb⟩
  · obtain ⟨-, -, -, dsp, -⟩ := moves (locks.trans open_)
    exact shows.trans dsp

end

end Sys2Proof.Proofs
end

section
/-! Final distances: from the office, the console and the array, and the ends of the confirm and marks windows (R137 to R140,
R148, R157, R158). -/

namespace Sys2Proof.Proofs

open Sys2Proof.Machine Sys2Proof.Claims

/-- What the completion step leaves speaks of the lists, the tables, the start unit and the other slots alone. -/
theorem completed_congr {k : Fin 4} {w : JumpRecord} {s v t : State} (completed : Completed k w v t)
    (results : v.results = s.results) (list : v.startList = s.startList) (tables : v.tables = s.tables)
    (gate : v.stu.roundReference = s.stu.roundReference)
    (slots : ∀ y, v.jtb.set k y = s.jtb.set k y) : Completed k w s t := by
  unfold Completed Scored at completed ⊢
  simp only [results, list, tables, gate, slots] at completed
  exact completed

/-! ### A final distance set (R137, R148) -/

/-- A record with its final distance set. -/
def finalSet (d : Nat) (source : DistSource) (r : JumpRecord) : JumpRecord :=
  { r with finalDistance := some d, distanceSource := some source, confirmExpiry := none }

/-- What a record that takes a final distance becomes (R137, R147 to R149, R70). -/
def DistanceSet (k : Fin 4) (r : JumpRecord) (d : Nat) (source : DistSource) (s t : State) : Prop :=
  (r.state = .measuring → r.windCloseDone = false →
    t.jtb = s.jtb.set k (some (finalSet d source r)) ∧ t.results = s.results ∧ t.startList = s.startList ∧
      t.dsp.current = some (recordPage s.tables.competitors s.stu.gate { r with finalDistance := some d })) ∧
  (r.windCloseDone = true →
    Completed k (withWind s.tables.stations d (finalSet d source r)) s t ∧
      (r.marksLocked = false →
        t.dsp.current = some (recordPage s.tables.competitors s.stu.gate { r with finalDistance := some d })))

section
variable {s : State} {k : Fin 4} {r : JumpRecord} (d : Nat) (source : DistSource)

/-- A state whose record has its final distance, with the CURRENT page sent. -/
def finalState (k : Fin 4) (r : JumpRecord) (s : State) : State := (withRecord k (finalSet d source r) s).sendCurrent k

theorem finalState_frame (k : Fin 4) (r : JumpRecord) (s : State) :
    ∃ dsp lsc, finalState d source k r s = { withRecord k (finalSet d source r) s with dsp := dsp, lsc := lsc } :=
  State.sendCurrent_frame _ _

theorem finalState_get (k : Fin 4) (r : JumpRecord) (s : State) :
    (finalState d source k r s).jtb.get k = some (finalSet d source r) := by
  obtain ⟨_, _, frame⟩ := finalState_frame d source k r s
  rw [frame]
  exact withRecord_get ..

theorem finalState_current (k : Fin 4) (r : JumpRecord) (s : State) :
    (finalState d source k r s).dsp.current =
      some (recordPage s.tables.competitors s.stu.gate { r with finalDistance := some d }) := by
  rw [finalState, sendCurrent_dsp (withRecord_get ..)]
  rfl

theorem finalState_upon (k : Fin 4) (r : JumpRecord) (s : State) : Upon k s (finalState d source k r s) :=
  upon_trans (withRecord_upon ..) (upon_of_shown k (sendCurrent_butShown _ _))

theorem confirmDistance_eq (held : s.jtb.get k = some r) :
    s.confirmDistance k d source =
      if r.windCloseDone then (finalState d source k r s).complete k
      else if r.state = .held then (finalState d source k r s).recomputeNeeds k else finalState d source k r s := by
  have set : s.setFinal k d source = finalState d source k r s := by
    rw [State.setFinal, updateRecord_eq _ held]
    rfl
  simp only [State.confirmDistance, set, finalState_get]
  rfl

theorem finalSet_measured (place : r.state = .measuring ∨ r.state = .held) (done : r.windCloseDone = true) : Measured d (finalSet d source r) :=
  ⟨rfl, done, place.imp id fun state => ⟨state, rfl⟩⟩

section
variable (held : s.jtb.get k = some r) (place : r.state = .measuring ∨ r.state = .held)

include held place

theorem confirmDistance_upon : Upon k s (s.confirmDistance k d source) := by
  have stands := finalState_get d source k r s
  have set := finalState_upon d source k r s
  rw [confirmDistance_eq d source held]
  split
  · next done => exact upon_trans set (complete_upon stands (finalSet_measured d source place done))
  · split
    · next state => exact upon_trans set (recomputeNeeds_upon stands (landed_of_held state))
    · exact set

theorem distanceSet_of {t : State} (leaves : ButShown (s.confirmDistance k d source) t)
    (shows : t.dsp = (s.confirmDistance k d source).dsp) : DistanceSet k r d source s t := by
  rw [confirmDistance_eq d source held] at leaves shows
  obtain ⟨dsp, lsc, frame⟩ := finalState_frame d source k r s
  refine ⟨fun state open_ => ?_, fun done => ?_⟩
  · rw [if_neg (Bool.eq_false_iff.1 open_), if_neg (by rw [state]; decide)] at leaves shows
    refine ⟨?_, ?_, ?_, by rw [shows, finalState_current]⟩
    · rw [(butShown_same State.jtb leaves fun _ => rfl :), frame]
      rfl
    · rw [(butShown_same State.results leaves fun _ => rfl :), frame]
      rfl
    · rw [(butShown_same State.startList leaves fun _ => rfl :), frame]
      rfl
  · rw [if_pos done] at leaves shows
    obtain ⟨completed, same⟩ := completed_of (finalState_get d source k r s) (finalSet_measured d source place done) leaves
      shows
    have tables : (finalState d source k r s).tables = s.tables := by rw [frame]; rfl
    rw [tables] at completed
    refine ⟨completed_congr completed ?_ ?_ ?_ ?_ fun y => ?_, fun open_ => by rw [same open_, finalState_current]⟩
    · rw [frame]; rfl
    · rw [frame]; rfl
    · exact tables
    · rw [frame]; rfl
    · rw [frame]
      exact JumpTable.set_set ..

/-- A final distance within a command at a hill time. -/
theorem tookDistance_of {now : Time} {t : State} (time : s.now = now) (leaves : ButReports (s.confirmDistance k d source) t)
    (shows : t.dsp = (s.confirmDistance k d source).dsp) : TookDistance now k r d source s t := by
  have asked : ButReports (s.setNow now) s := by
    rw [setNow_self time]
    exact butReports_refl s
  exact ⟨onRecord_of asked (confirmDistance_upon d source held place) leaves,
    distanceSet_of d source held place (butShown_of_reports leaves) shows⟩

end

end

/-! ### The office and the console (R138, R140) -/

theorem takesDistance_iff (r : JumpRecord) :
    r.takesDistance = true ↔
      (r.state = .measuring ∧ r.finalDistance = none) ∨ (r.state = .held ∧ r.needs.distance = true) := by
  rw [JumpRecord.takesDistance, Bool.or_eq_true, Bool.and_eq_true, Bool.and_eq_true, decide_eq_true_eq, decide_eq_true_eq,
    Option.isNone_iff_eq_none]

theorem place_of_takes {r : JumpRecord} (takes : r.takesDistance = true) : r.state = .measuring ∨ r.state = .held :=
  ((takesDistance_iff r).1 takes).imp And.left And.left

/-- The refusals of ENTER_DISTANCE, in the order of R140. -/
def distanceRefusals (bib distance : Nat) (s : State) : List (Prop × Status) :=
  [(¬(1 ≤ bib ∧ bib ≤ 999) ∨ 600 < distance, .badValue),
    (∀ k r, s.jtb.get k = some r → r.bib ≠ bib, .notFound),
    (∀ k r, s.jtb.holding bib = some (k, r) →
      ¬((r.state = .measuring ∧ r.finalDistance = none) ∨ (r.state = .held ∧ r.needs.distance = true)), .wrongState)]

theorem distanceForm_iff (bib distance : Nat) :
    (bibInRange bib && decide (distance ≤ 600)) = true ↔ ¬(¬(1 ≤ bib ∧ bib ≤ 999) ∨ 600 < distance) := by
  rw [Bool.and_eq_true, bibInRange_iff, decide_eq_true_eq]
  omega

section
variable {bib distance : Half} {s : State}

theorem enterDistance_refuses {status : Status}
    (first : FirstOf (distanceRefusals bib.toNat distance.toNat s) (some status)) :
    enterDistance bib distance s = refuse status s := by
  rcases first with ⟨bad, refused⟩ | ⟨form, ⟨free, refused⟩ | ⟨taken, ⟨wrong, refused⟩ | ⟨-, none⟩⟩⟩
  · cases refused
    exact if_neg fun good => (distanceForm_iff _ _).1 good bad
  · cases refused
    rw [enterDistance, if_pos ((distanceForm_iff _ _).2 form)]
    simp only [(holding_eq_none_iff _ _).2 free]
  · cases refused
    rw [enterDistance, if_pos ((distanceForm_iff _ _).2 form)]
    cases holds : s.jtb.holding bib.toNat with
    | none => exact absurd ((holding_eq_none_iff _ _).1 holds) taken
    | some x => exact if_neg fun takes => wrong x.1 x.2 holds ((takesDistance_iff _).1 takes)
  · cases none

theorem enterDistance_accepts {k : Fin 4} {r : JumpRecord}
    (first : FirstOf (distanceRefusals bib.toNat distance.toNat s) none) (holds : s.jtb.holding bib.toNat = some (k, r)) :
    r.takesDistance = true ∧
      enterDistance bib distance s =
        accept (.distanceSet k ((s.confirmDistance k distance.toNat .office).slotState k))
          (s.confirmDistance k distance.toNat .office) := by
  simp only [distanceRefusals, FirstOf, reduceCtorEq, and_false, false_or] at first
  obtain ⟨form, -, right, -⟩ := first
  have takes : r.takesDistance = true := by
    by_contra other
    refine right fun j a found => ?_
    rw [holds] at found
    cases found
    exact mt (takesDistance_iff r).2 other
  refine ⟨takes, ?_⟩
  rw [enterDistance, if_pos ((distanceForm_iff _ _).2 form)]
  simp only [holds]
  exact if_pos takes

end

theorem distFrame_taken {now : Time} {seg : Seg} {source seq bh bl dh dl : Byte} {s : State} {slot : Slot}
    (slotted : Slotted s seg source .dist slot) (least : 1 ≤ bh.toNat * 256 + bl.toNat)
    (most : bh.toNat * 256 + bl.toNat ≤ 999) (short : dh.toNat * 256 + dl.toNat ≤ 600) :
    exec (.distFrame now seg source seq [bh, bl, dh, dl]) s =
      Claims.mirrored slot seg 0x16 seq [bh, bl, dh, dl]
        (State.takeDistance slot.entry.addr (bh.toNat * 256 + bl.toNat) (dh.toNat * 256 + dl.toNat) (slotEnded seg now s)) := by
  have inside : bibInRange (natOf bh bl) = true ∧ natOf dh dl ≤ 600 := ⟨(bibInRange_iff _).2 ⟨least, most⟩, short⟩
  have checked : formCheck .dist (0x16 : Byte).toNat [bh, bl, dh, dl] =
      some ⟨.dist (natOf bh bl) (natOf dh dl), [bh, bl, dh, dl], false⟩ := if_pos inside
  refine (frame_accepted (kind := 0x16) slotted rfl checked nofun).trans ?_
  simp only [State.route, Bool.false_eq_true, if_false, natOf_eq]

/-- Settles O30: both sources set the distance by the same step. -/
theorem finalDistanceTaken : Obligations.FinalDistanceTaken := by
  unfold Obligations.FinalDistanceTaken
  refine ⟨fun now seq bib distance s o listens first => ⟨?refuses, fun k r n holds => ?takes⟩,
    fun now seg source seq bh bl dh dl s u slot bib d slotted spelled distance least most short ended => ?console⟩
  case refuses =>
    rintro status rfl
    exact request_refused listens (enterDistance_refuses (s := s.asked now) first)
  case takes =>
    subst n
    obtain ⟨takes, answers⟩ := enterDistance_accepts (s := s.asked now) first holds
    obtain ⟨t, exec_eq, answer, same, shows, -⟩ := request_accepted (now := now) (seq := seq) (code := 0x34) listens answers
    refine ⟨t, exec_eq, ?_, ?_⟩
    · rw [(butReports_same State.jtb same fun _ => rfl :)]
      exact answer
    · have took := tookDistance_of (s := s.asked now) distance.toNat .office (get_of_holding holds) (place_of_takes takes) rfl same
        shows
      obtain ⟨-, set⟩ := took
      exact ⟨onRecord_of (v := s.asked now) rfl
        (confirmDistance_upon distance.toNat .office (get_of_holding holds) (place_of_takes takes)) same, set⟩
  case console =>
    have time : u.now = now := by rw [ended, slotEnded_now]
    subst spelled distance
    rw [distFrame_taken slotted least most short, ← ended]
    refine ⟨fun late => ?_, fun k r holds takes => ?_⟩
    · cases holds : u.jtb.holding (bh.toNat * 256 + bl.toNat) with
      | none => simp only [State.takeDistance, holds]
      | some x =>
        simp only [State.takeDistance, holds]
        rw [if_neg (mt (takesDistance_iff _).1 (late x.1 x.2 holds))]
    · have takes := (takesDistance_iff r).2 takes
      simp only [State.takeDistance, holds]
      rw [if_pos takes]
      obtain ⟨t, next, same, dsp, -⟩ := mirrored_next slot seg 0x16 seq [bh, bl, dh, dl]
        (u.confirmDistance k (dh.toNat * 256 + dl.toNat) .console)
      exact ⟨t, next, tookDistance_of _ _ (get_of_holding holds) (place_of_takes takes) time same dsp⟩

end Sys2Proof.Proofs
end

section
/-! The ends of the confirm window and of the marks window (R39, R68, R139, R158). -/

namespace Sys2Proof.Proofs

open Sys2Proof.Machine Sys2Proof.Claims

/-! ### The confirm expiry (R139) -/

/-- What the confirm expiry of a slot does when it is due (R39, R139). -/
def confirmDue (slot : Fin 4) (s : State) : State :=
  match s.jtb.get slot with
  | none => s
  | some r => if r.state = .measuring ∧ r.confirmExpiry = some s.now then s.takeConfirmExpiry slot r else s

section
variable {s : State} {k : Fin 4} {r : JumpRecord}

theorem confirmDue_taken (held : s.jtb.get k = some r) (state : r.state = .measuring) (due : r.confirmExpiry = some s.now) :
    confirmDue k s = s.takeConfirmExpiry k r := by
  rw [confirmDue, held]
  exact if_pos ⟨state, due⟩

theorem takeConfirmExpiry_confirms {d : Nat} (auto : s.tables.hill.autoConfirm = true) (measured : r.preliminary = some d) :
    s.takeConfirmExpiry k r = s.confirmDistance k d .array := by
  simp only [State.takeConfirmExpiry, auto, measured]

theorem takeConfirmExpiry_holds (not : s.tables.hill.autoConfirm = false ∨ r.preliminary = none) :
    s.takeConfirmExpiry k r = s.enterState k .held := by
  unfold State.takeConfirmExpiry
  split
  · next auto measured =>
    rcases not with off | bare
    · exact Bool.noConfusion (auto.symm.trans off)
    · exact nomatch measured.symm.trans bare
  · rfl

/-! ### The marks window expiry (R158) -/

/-- What the marks window expiry of a slot does when it is due (R39, R158). -/
def marksDue (slot : Fin 4) (s : State) : State :=
  match s.jtb.get slot with
  | none => s
  | some r => if r.marksExpiry = some s.now then s.takeMarksExpiry slot else s

theorem marksDue_taken (held : s.jtb.get k = some r) (due : r.marksExpiry = some s.now) :
    marksDue k s = s.takeMarksExpiry k := by
  rw [marksDue, held]
  exact if_pos due

theorem takeMarksExpiry_marking (held : s.jtb.get k = some r) (state : r.state = .marking) :
    s.takeMarksExpiry k = (withRecord k (overdue r) s).enterState k .held := by
  unfold State.takeMarksExpiry
  rw [updateRecord_eq _ held]
  simp only [withRecord_get]
  split
  · rfl
  · next other => exact nomatch state.symm.trans other
  · next other _ => exact absurd state other

theorem overdue_inState_held (open_ : r.marksLocked = false) :
    (overdue r).inState .held = { r with
      state := .held, needs := ⟨decide (r.finalDistance = none), true⟩, marksOverdue := true, marksExpiry := none,
      confirmExpiry := none } := by
  have marks : ((overdue r).marksOverdue && !(overdue r).marksLocked) = true := by
    rw [show (overdue r).marksLocked = false from open_]
    rfl
  rw [inState_eq_held, Claims.held, marks]
  rfl

/-- A HELD record with its marks overdue. -/
def overdueHeld (r : JumpRecord) : JumpRecord :=
  { r with needs := ⟨decide (r.finalDistance = none), true⟩, marksOverdue := true, marksExpiry := none }

theorem takeMarksExpiry_held_shown (held : s.jtb.get k = some r) (state : r.state = .held) (open_ : r.marksLocked = false) :
    ButReports (withRecord k (overdueHeld r) s) (s.takeMarksExpiry k) ∧
      (r.needs.marks = false → s.enables.jump = true → s.office.count < 60 →
        .jump r.bib (some k) (some .held) .needs (overdueHeld r).needs r.flags ∈ (s.takeMarksExpiry k).office.reports) := by
  have distance : r.finalDistance.isNone = decide (r.finalDistance = none) := by cases r.finalDistance <;> rfl
  rw [takeMarksExpiry_held held state open_, distance]
  split
  · next same =>
    have stands : overdueHeld r = overdue r := by rw [overdueHeld, ← same]; rfl
    refine ⟨by rw [stands]; exact butReports_refl _, fun bare => ?_⟩
    rw [same] at bare
    cases bare
  · refine ⟨reportRecord_butReports _ _ _, fun _ enabled room => ?_⟩
    have waits := State.reportRecord_waits (withRecord k (overdueHeld r) s) k .needs (withRecord_get ..) room enabled
    rw [show (overdueHeld r).state = .held from state] at waits
    exact waits

end

/-- Settles O31: a confirm window ends by the preliminary distance or HELD, a marks window by the record's state. -/
theorem windowsEnd : Obligations.WindowsEnd := by
  unfold Obligations.WindowsEnd
  refine ⟨fun now s k r outside held state due bare => ⟨fun d auto measured => ?confirms, fun off => ?holds⟩,
    fun now s k r outside held due open_ => ?marks⟩
  case confirms =>
    obtain ⟨t, exec_eq, same, shows, -⟩ := event_taken (now := now) (body := confirmDue k) outside
      ((confirmDue_taken (s := s.setNow now) held state due).trans (takeConfirmExpiry_confirms auto measured))
    have took := tookDistance_of (s := s.setNow now) (now := now) d .array held (.inl state) rfl same shows
    exact ⟨t, exec_eq, took⟩
  case holds =>
    obtain ⟨t, exec_eq, same, shows, conditions, -, reports⟩ := event_taken (now := now) (body := confirmDue k) outside
      ((confirmDue_taken (s := s.setNow now) held state due).trans (takeConfirmExpiry_holds (k := k) off))
    have becomes : r.inState .held =
        { r with state := .held, needs := ⟨true, r.marksOverdue && !r.marksLocked⟩, confirmExpiry := none } := by
      rw [inState_eq_held, Claims.held, decide_eq_true bare]
    obtain ⟨jtb, results, list, -, upon⟩ := enterState_moved (s := s.setNow now) .held held
    rw [becomes] at jtb
    refine ⟨t, exec_eq, onRecord_of (butReports_refl _) upon same, (butReports_same State.jtb same fun _ => rfl :).trans jtb,
      (butReports_same State.results same fun _ => rfl :).trans results,
      (butReports_same State.startList same fun _ => rfl :).trans list, ?_, fun enabled room => reports _ ?_⟩
    · rw [conditions]
      refine (enterState_held (s := s.setNow now) .held held).trans ?_
      exact (inState_isSome_iff _ _).2 ⟨k, _, (JumpTable.get_set ..).trans (if_pos rfl), by simp [JumpRecord.inState]⟩
    · have entry := enterState_reports (s := s.setNow now) .held held enabled room
      rw [becomes] at entry
      exact entry
  case marks =>
    obtain ⟨t, exec_eq, same, shows, conditions, -, reports⟩ := event_taken (now := now) (body := marksDue k) outside
      (marksDue_taken (s := s.setNow now) held due)
    refine ⟨t, exec_eq, ?_⟩
    by_cases marking : r.state = .marking
    · rw [takeMarksExpiry_marking (s := s.setNow now) held marking] at same reports
      have moved := moved_of_withRecord (enterState_moved .held (withRecord_get k (overdue r) (s.setNow now)))
      rw [overdue_inState_held open_] at moved
      obtain ⟨jtb, results, list, -, upon⟩ := moved
      refine ⟨onRecord_of (butReports_refl _) upon same, (butReports_same State.results same fun _ => rfl :).trans results,
        (butReports_same State.startList same fun _ => rfl :).trans list,
        fun _ => ⟨(butReports_same State.jtb same fun _ => rfl :).trans jtb, fun enabled room => reports _ ?_⟩,
        fun state => absurd state (by rw [marking]; decide), fun other => absurd marking other⟩
      have entry := enterState_reports .held (withRecord_get k (overdue r) (s.setNow now)) enabled room
      rw [overdue_inState_held open_] at entry
      exact entry
    · by_cases state : r.state = .held
      · obtain ⟨shown, report⟩ := takeMarksExpiry_held_shown (s := s.setNow now) held state open_
        have leaves := butReports_trans shown same
        exact ⟨onRecord_of (butReports_refl _) (withRecord_upon k (overdueHeld r) (s.setNow now)) leaves,
          (butReports_same State.results leaves fun _ => rfl :), (butReports_same State.startList leaves fun _ => rfl :),
          fun h => absurd h marking, fun _ => ⟨(butReports_same State.jtb leaves fun _ => rfl :),
            fun bare enabled room => reports _ (report bare enabled room)⟩, fun _ other => absurd state other⟩
      · rw [takeMarksExpiry_other (s := s.setNow now) held marking state] at same
        exact ⟨onRecord_of (butReports_refl _) (withRecord_upon k (overdue r) (s.setNow now)) same,
          (butReports_same State.results same fun _ => rfl :), (butReports_same State.startList same fun _ => rfl :),
          fun h => absurd h marking, fun h => absurd h state, fun _ _ => (butReports_same State.jtb same fun _ => rfl :)⟩

end Sys2Proof.Proofs
end

section
/-! Marks from the office and the judges' consoles, and the scoring of the fifth (R153 to R156, R159 to R169). -/

namespace Sys2Proof.Proofs

open Sys2Proof.Machine Sys2Proof.Claims

/-! ### A mark given (R154, R155) -/

/-- A record whose five marks are locked. -/
def lockedWith (m : Marks) (r : JumpRecord) : JumpRecord := { r with marks := m, marksLocked := true, marksExpiry := none }

/-- What a record that takes a mark becomes (R154, R155). -/
def MarkTaken (k : Fin 4) (r : JumpRecord) (seat mark : Nat) (s t : State) : Prop :=
  (((r.marks.set seat mark).toList.filter (·.isSome)).length ≠ 5 →
    t.jtb = s.jtb.set k (some { r with marks := r.marks.set seat mark }) ∧ t.results = s.results ∧
      t.startList = s.startList) ∧
  ∀ y, ((r.marks.set seat mark).toList.filter (·.isSome)).length = 5 →
    y = lockedWith (r.marks.set seat mark) r →
    (r.state = .marking → Scored k y s t) ∧
      (r.state = .held → r.finalDistance ≠ none → r.windCloseDone = true → Scored k y s t) ∧
      (r.state = .held → r.finalDistance = none → t.jtb = s.jtb.set k (some { y with needs := ⟨true, false⟩ })) ∧
      (r.state = .landing ∨ r.state = .measuring → t.jtb = s.jtb.set k (some y))

theorem takesMarks_iff (x : RecState) :
    x.takesMarks = true ↔ x = .landing ∨ x = .measuring ∨ x = .marking ∨ x = .held := by
  cases x <;> simp [RecState.takesMarks]

theorem takesMark_iff (r : JumpRecord) :
    r.takesMark = true ↔
      r.marksLocked = false ∧ (r.state = .landing ∨ r.state = .measuring ∨ r.state = .marking ∨ r.state = .held) := by
  rw [JumpRecord.takesMark, Bool.and_eq_true, takesMarks_iff, Bool.not_eq_true', and_comm]

section
variable {s : State} {k : Fin 4} {r : JumpRecord} {seat mark : Nat}

theorem afterLock_marking {y : JumpRecord} (held : s.jtb.get k = some y) (state : y.state = .marking) :
    s.afterLock k = s.score k := by
  simp only [State.afterLock, held, state]

theorem afterLock_held {y : JumpRecord} (held : s.jtb.get k = some y) (state : y.state = .held) :
    s.afterLock k = s.recomputeNeeds k := by
  simp only [State.afterLock, held, state]

theorem afterLock_early {y : JumpRecord} (held : s.jtb.get k = some y) (state : y.state = .landing ∨ y.state = .measuring) :
    s.afterLock k = s := by
  rcases state with state | state <;> simp only [State.afterLock, held, state]

theorem giveMark_few (held : s.jtb.get k = some r) (few : (r.marks.set seat mark).held ≠ 5) :
    s.giveMark k seat mark = withRecord k { r with marks := r.marks.set seat mark } s := by
  simp only [State.giveMark, held]
  rw [if_neg few, updateRecord_eq _ held]

theorem giveMark_fifth (held : s.jtb.get k = some r) (five : (r.marks.set seat mark).held = 5) :
    s.giveMark k seat mark = (withRecord k (lockedWith (r.marks.set seat mark) r) s).afterLock k := by
  simp only [State.giveMark, held]
  rw [if_pos five, updateRecord_eq _ held]
  rfl

theorem giveMark_upon (held : s.jtb.get k = some r)
    (place : r.state = .landing ∨ r.state = .measuring ∨ r.state = .marking ∨ r.state = .held) :
    Upon k s (s.giveMark k seat mark) := by
  by_cases five : (r.marks.set seat mark).held = 5
  · have stands := withRecord_get k (lockedWith (r.marks.set seat mark) r) s
    rw [giveMark_fifth held five]
    refine upon_trans (withRecord_upon k (lockedWith (r.marks.set seat mark) r) s) ?_
    rcases place with state | state | state | state
    · rw [afterLock_early stands (.inl state)]
      exact upon_of_shown k (butShown_refl _)
    · rw [afterLock_early stands (.inr state)]
      exact upon_of_shown k (butShown_refl _)
    · rw [afterLock_marking stands state]
      exact score_upon stands (landed_of_marking state)
    · rw [afterLock_held stands state]
      exact recomputeNeeds_upon stands (landed_of_held state)
  · rw [giveMark_few held five]
    exact withRecord_upon ..

theorem markTaken_of {t : State} (held : s.jtb.get k = some r) (leaves : ButShown (s.giveMark k seat mark) t)
    (shows : t.dsp = (s.giveMark k seat mark).dsp) : MarkTaken k r seat mark s t := by
  refine ⟨fun few => ?_, ?_⟩
  · rw [giveMark_few held few] at leaves
    exact ⟨(butShown_same State.jtb leaves fun _ => rfl :), (butShown_same State.results leaves fun _ => rfl :),
      (butShown_same State.startList leaves fun _ => rfl :)⟩
  rintro y five rfl
  have stands := withRecord_get k (lockedWith (r.marks.set seat mark) r) s
  have fifth := giveMark_fifth (seat := seat) (mark := mark) held five
  rw [fifth] at leaves shows
  refine ⟨fun state => ?marking, fun state final done => ?complete, fun state bare => ?needs, fun state => ?early⟩
  case marking =>
    rw [afterLock_marking stands state] at leaves shows
    exact scored_of (s := withRecord k _ s) stands (landed_of_marking state) leaves shows
  case complete =>
    have needed : (lockedWith (r.marks.set seat mark) r).needed = .none :=
      (needed_none_iff _).2 ⟨final, by simp [lockedWith]⟩
    have complete : (lockedWith (r.marks.set seat mark) r).complete = true := by
      rw [JumpRecord.complete, Bool.and_eq_true, Option.isSome_iff_ne_none]
      exact ⟨final, done⟩
    rw [afterLock_held stands state, recomputeNeeds_done stands needed, complete] at leaves shows
    exact scored_of (s := withRecord k _ s) stands (landed_of_held state) leaves shows
  case needs =>
    have needed : (lockedWith (r.marks.set seat mark) r).needed = ⟨true, false⟩ := by
      rw [JumpRecord.needed, show (lockedWith (r.marks.set seat mark) r).finalDistance = none from bare]
      simp [lockedWith]
    obtain ⟨jtb, -⟩ := moved_of_withRecord (recomputeNeeds_needs_moved stands (by rw [needed]; decide))
    rw [afterLock_held stands state] at leaves
    rw [(butShown_same State.jtb leaves fun _ => rfl :), jtb, needed]
  case early =>
    rw [afterLock_early stands state] at leaves
    exact (butShown_same State.jtb leaves fun _ => rfl :)

end

/-! ### The office and the judges (R154, R156) -/

/-- The refusals of ENTER_MARK, in the order of R156. -/
def markRefusals (bib seat mark : Nat) (s : State) : List (Prop × Status) :=
  [(¬(1 ≤ bib ∧ bib ≤ 999) ∨ ¬(1 ≤ seat ∧ seat ≤ 5) ∨ 40 < mark, .badValue),
    (∀ k r, s.jtb.get k = some r → r.bib ≠ bib, .notFound),
    (∀ k r, s.jtb.holding bib = some (k, r) →
      r.marksLocked = true ∨ ¬(r.state = .landing ∨ r.state = .measuring ∨ r.state = .marking ∨ r.state = .held), .wrongState)]

theorem markForm_iff (bib seat mark : Nat) :
    (bibInRange bib && decide (1 ≤ seat ∧ seat ≤ 5 ∧ mark ≤ 40)) = true ↔
      ¬(¬(1 ≤ bib ∧ bib ≤ 999) ∨ ¬(1 ≤ seat ∧ seat ≤ 5) ∨ 40 < mark) := by
  rw [Bool.and_eq_true, bibInRange_iff, decide_eq_true_eq]
  omega

theorem not_takesMark_iff (r : JumpRecord) :
    ¬r.takesMark = true ↔
      r.marksLocked = true ∨ ¬(r.state = .landing ∨ r.state = .measuring ∨ r.state = .marking ∨ r.state = .held) := by
  rw [takesMark_iff, not_and_or, Bool.not_eq_false]

section
variable {bib : Half} {seat mark : Byte} {s : State}

theorem enterMark_refuses {status : Status}
    (first : FirstOf (markRefusals bib.toNat seat.toNat mark.toNat s) (some status)) :
    enterMark bib seat mark s = refuse status s := by
  rcases first with ⟨bad, refused⟩ | ⟨form, ⟨free, refused⟩ | ⟨taken, ⟨wrong, refused⟩ | ⟨-, none⟩⟩⟩
  · cases refused
    exact if_neg fun good => (markForm_iff _ _ _).1 good bad
  · cases refused
    rw [enterMark, if_pos ((markForm_iff _ _ _).2 form)]
    simp only [(holding_eq_none_iff _ _).2 free]
  · cases refused
    rw [enterMark, if_pos ((markForm_iff _ _ _).2 form)]
    cases holds : s.jtb.holding bib.toNat with
    | none => exact absurd ((holding_eq_none_iff _ _).1 holds) taken
    | some x => exact if_neg ((not_takesMark_iff _).2 (wrong x.1 x.2 holds))
  · cases none

theorem enterMark_accepts {k : Fin 4} {r : JumpRecord}
    (first : FirstOf (markRefusals bib.toNat seat.toNat mark.toNat s) none) (holds : s.jtb.holding bib.toNat = some (k, r)) :
    r.takesMark = true ∧
      enterMark bib seat mark s =
        accept (.markSet k (r.marks.set seat.toNat mark.toNat).held (decide ((r.marks.set seat.toNat mark.toNat).held = 5))
          ((s.giveMark k seat.toNat mark.toNat).slotState k)) (s.giveMark k seat.toNat mark.toNat) := by
  simp only [markRefusals, FirstOf, reduceCtorEq, and_false, false_or] at first
  obtain ⟨form, -, right, -⟩ := first
  have takes : r.takesMark = true := by
    by_contra other
    refine right fun j a found => ?_
    rw [holds] at found
    cases found
    exact (not_takesMark_iff r).1 other
  refine ⟨takes, ?_⟩
  rw [enterMark, if_pos ((markForm_iff _ _ _).2 form)]
  simp only [holds]
  exact if_pos takes

end

theorem styleFrame_taken {now : Time} {seg : Seg} {source seq bh bl mark : Byte} {s : State} {slot : Slot} {seat : Nat}
    (slotted : Slotted s seg source .judge slot) (least : 1 ≤ bh.toNat * 256 + bl.toNat)
    (most : bh.toNat * 256 + bl.toNat ≤ 999) (small : mark.toNat ≤ 40) {x : StationEntry}
    (found : stationAt (slotEnded seg now s).tables.stations slot.entry.addr = some x) (role : x.role = .judge seat) :
    exec (.styleFrame now seg source seq [bh, bl, mark]) s =
      Claims.mirrored slot seg 0x15 seq [bh, bl, mark]
        (State.takeStyle slot.entry.addr seat (bh.toNat * 256 + bl.toNat) mark.toNat (slotEnded seg now s)) := by
  have inside : bibInRange (natOf bh bl) = true ∧ mark.toNat ≤ 40 := ⟨(bibInRange_iff _).2 ⟨least, most⟩, small⟩
  have checked : formCheck .judge (0x15 : Byte).toNat [bh, bl, mark] =
      some ⟨.style (natOf bh bl) mark.toNat, [bh, bl, mark], false⟩ := if_pos inside
  have seats : judgeSeat (slotEnded seg now s).tables.stations slot.entry.addr = seat := by
    rw [judgeSeat, found, Option.map_some, role]
  refine (frame_accepted (kind := 0x15) slotted rfl checked nofun).trans ?_
  simp only [State.route, Bool.false_eq_true, if_false, natOf_eq, seats]

/-- Settles O32: both sources give the mark by the same step. -/
theorem marksAreTaken : Obligations.MarksAreTaken := by
  unfold Obligations.MarksAreTaken
  refine ⟨fun now seq bib seat mark s o listens first => ⟨?refuses, fun k r n none holds count => ?takes⟩,
    fun now seg source seq bh bl mark s u slot bib seat slotted spelled least most small ended place _ _ => ?console⟩
  case refuses =>
    rintro status rfl
    exact request_refused listens (enterMark_refuses (s := s.asked now) first)
  case takes =>
    subst none count
    obtain ⟨takes, answers⟩ := enterMark_accepts (s := s.asked now) first holds
    obtain ⟨-, place⟩ := (takesMark_iff r).1 takes
    obtain ⟨t, exec_eq, answer, same, shows, -⟩ := request_accepted (now := now) (seq := seq) (code := 0x35) listens answers
    refine ⟨t, exec_eq, ?_, onRecord_of (v := s.asked now) rfl (giveMark_upon (get_of_holding holds) place) same, ?_⟩
    · rw [(butReports_same State.jtb same fun _ => rfl :)]
      exact answer
    · exact markTaken_of (s := s.asked now) (get_of_holding holds) (butShown_of_reports same) shows
  case console =>
    obtain ⟨x, found, role⟩ := place
    have time : u.now = now := by rw [ended, slotEnded_now]
    subst spelled
    rw [ended] at found
    rw [styleFrame_taken slotted least most small found role, ← ended]
    refine ⟨fun late => ?_, fun k r holds open_ place => ?_⟩
    · cases holds : u.jtb.holding (bh.toNat * 256 + bl.toNat) with
      | none => simp only [State.takeStyle, holds]
      | some x =>
        simp only [State.takeStyle, holds]
        rw [if_neg ((not_takesMark_iff _).2 (late x.1 x.2 holds))]
    · simp only [State.takeStyle, holds]
      rw [if_pos ((takesMark_iff r).2 ⟨open_, place⟩)]
      obtain ⟨t, next, same, dsp, -⟩ := mirrored_next slot seg 0x15 seq [bh, bl, mark] (u.giveMark k seat mark.toNat)
      have asked : ButReports (u.setNow now) u := by
        rw [setNow_self time]
        exact butReports_refl u
      exact ⟨t, next, onRecord_of asked (giveMark_upon (get_of_holding holds) place) same,
        markTaken_of (get_of_holding holds) (butShown_of_reports same) dsp⟩

/-! ### The fifth mark (R155, R159 to R169) -/

theorem bib_of_holding {t : JumpTable} {bib : Nat} {k : Fin 4} {r : JumpRecord} (holds : t.holding bib = some (k, r)) :
    r.bib = bib := of_decide_eq_true (JumpTable.find_some holds).2

/-- What scores the fifth mark of a record in MARKING. -/
theorem enterMark_scores {bib : Half} {seat mark : Byte} {s : State} {k : Fin 4} {r y : JumpRecord} (least : 1 ≤ bib.toNat)
    (most : bib.toNat ≤ 999) (low : 1 ≤ seat.toNat) (high : seat.toNat ≤ 5) (small : mark.toNat ≤ 40)
    (holds : s.jtb.holding bib.toNat = some (k, r)) (state : r.state = .marking) (open_ : r.marksLocked = false)
    (five : (r.marks.set seat.toNat mark.toNat).held = 5) (locks : y = lockedWith (r.marks.set seat.toNat mark.toNat) r) :
    enterMark bib seat mark s =
      accept (.markSet k 5 true (((withRecord k y s).score k).slotState k)) ((withRecord k y s).score k) := by
  have held := get_of_holding holds
  have passed : FirstOf (markRefusals bib.toNat seat.toNat mark.toNat s) none := by
    refine .inr ⟨by omega, .inr ⟨fun free => free k r held (bib_of_holding holds), .inr ⟨fun wrong => ?_, rfl⟩⟩⟩
    rcases wrong k r holds with locked | other
    · exact Bool.noConfusion (open_.symm.trans locked)
    · exact other (.inr (.inr (.inl state)))
  obtain ⟨-, answers⟩ := enterMark_accepts passed holds
  have scores : s.giveMark k seat.toNat mark.toNat = (withRecord k y s).score k := by
    rw [giveMark_fifth held five, ← locks, afterLock_marking (withRecord_get ..) (by rw [locks]; exact state)]
  rw [answers, scores, five]
  rfl

/-- Settles O33: the fifth mark locks the marks of the record in MARKING, which is scored at once. -/
theorem fifthMarkScores : Obligations.FifthMarkScores := by
  unfold Obligations.FifthMarkScores
  intro now seq bib seat mark s k r d g old p listens least most low high small holds state open_ final five gate was points
  have own : r.bib = bib.toNat := bib_of_holding holds
  obtain ⟨t, exec_eq, answer, same, shows, -, lines, reports⟩ := request_accepted (now := now) (seq := seq) (code := 0x35)
    listens (enterMark_scores (s := s.asked now) least most low high small holds state open_ five rfl)
  generalize locks : lockedWith (r.marks.set seat.toNat mark.toNat) r = y at *
  have stands : (withRecord k y (s.asked now)).jtb.get k = some y := withRecord_get ..
  have landed : Landed y := landed_of_marking (by rw [← locks]; exact state)
  have bibs : (scored y (withRecord k y (s.asked now))).bib = bib.toNat := by
    rw [scored_bib, ← locks]
    exact own
  have left := butShown_trans (score_shown stands landed) (butShown_of_reports same)
  have jtb : t.jtb = s.jtb.set k none := (butShown_same State.jtb left fun _ => rfl :).trans (JumpTable.set_set ..)
  have results : t.results = placeEntry (scored y (withRecord k y (s.asked now))) s.results :=
    (butShown_same State.results left fun _ => rfl :)
  have list : t.startList = if y.isDsq then s.startList.erase y.bib else s.startList :=
    (butShown_same State.startList left fun _ => rfl :)
  have same_results : t.results = ((withRecord k y (s.asked now)).score k).results :=
    (butReports_same State.results same fun _ => rfl :)
  have dsq : ScoresDsq y ↔ ((r.flags.early = true ∨ r.flags.late = true) ∧ r.flags.reinstated = false) := by
    rw [← locks]
    rfl
  have before : entryOrNew s.results y.bib = old := by
    rw [was, ← locks, ← own]
    rfl
  have parts : scoredPoints y (withRecord k y (s.asked now)) = p := by
    rw [points, ← locks, scoredPoints, show (withRecord k _ (s.asked now)).stu.roundReference = some g from gate,
      show (lockedWith (r.marks.set seat.toNat mark.toNat) r).finalDistance = some d from final]
    rfl
  refine ⟨t, scored y (withRecord k y (s.asked now)), exec_eq, ?answer, ?upon, jtb, ?dsp, ?queue, ?members, ?order, ?others, ?dsq,
    ?ok, ?reports⟩
  case answer =>
    have free : ((withRecord k y (s.asked now)).score k).slotState k = none := by
      rw [State.slotState, ← (butReports_same State.jtb same fun _ => rfl :), jtb, JumpTable.get_set, if_pos rfl]
      rfl
    rw [free] at answer
    exact answer
  case upon => exact onRecord_of (v := s.asked now) rfl (upon_trans (withRecord_upon ..) (score_upon stands landed)) same
  case dsp => rw [shows, score_dsp stands landed, same_results]; rfl
  case queue => rw [lines, score_queue stands, shows]; rfl
  case members =>
    intro x
    rw [results, mem_placeEntry, bibs]
  case order =>
    intro order
    rw [results]
    exact placeEntry_pairwise order
  case others => rw [results, filter_placeEntry bibs]
  case dsq =>
    intro early
    rw [list, if_pos ((isDsq_iff y).2 (dsq.2 early)), scored_dsq (dsq.2 early)]
    subst locks before
    rw [← own]
    exact ⟨by rw [show (lockedWith _ r).finalDistance = some d from final]; rfl, rfl⟩
  case ok =>
    intro fair
    rw [list, if_neg (mt (isDsq_iff y).1 (mt dsq.1 fair)), scored_ok (mt dsq.1 fair), parts]
    subst locks before
    exact ⟨by rw [show (lockedWith _ r).finalDistance = some d from final]; rfl, rfl⟩
  case reports =>
    intro jump result room
    have count := asked_count now s
    obtain ⟨advance, entry⟩ := score_reports stands jump result
      (show (withRecord k y (s.asked now)).office.count + 2 < 60 from Nat.lt_of_le_of_lt (Nat.add_le_add_right count 2) room)
    rw [show placeEntry _ (withRecord k y (s.asked now)).results = t.results from results.symm] at entry
    refine ⟨reports _ ?_, reports _ ?_⟩
    · rw [← locks] at advance ⊢
      exact advance
    · rw [← locks] at entry ⊢
      exact entry

end Sys2Proof.Proofs
end

section
/-! DISQUALIFY: a result entry at DSQ, its record freed, and what is shown of both (R58, R73, R166, R169, R174 to R176). -/

namespace Sys2Proof.Proofs

open Sys2Proof.Machine Sys2Proof.Claims

/-! ### A result entry at DSQ (R73, R166) -/

/-- The result entry of a bib once it is disqualified. -/
def dsqEntry (bib : Nat) (l : List ResultEntry) : ResultEntry := { entryOrNew l bib with status := .dsq }

section
variable {bib : Nat} {l : List ResultEntry}

theorem dsqEntry_bib (bib : Nat) (l : List ResultEntry) : (dsqEntry bib l).bib = bib := entryOrNew_bib l bib

theorem dsqEntry_of_some {old : ResultEntry} (found : entryOf l bib = some old) :
    dsqEntry bib l = { old with status := .dsq } := by
  rw [dsqEntry, entryOrNew, found]
  rfl

theorem dsqEntry_of_none (none : entryOf l bib = none) : dsqEntry bib l = ⟨bib, .none, .none, .dsq, .none⟩ := by
  rw [dsqEntry, entryOrNew, none]
  rfl

/-- An entry already at DSQ stands in the list. -/
theorem entryOf_of_dsq (already : (entryOrNew l bib).status = .dsq) : entryOf l bib = some (dsqEntry bib l) := by
  cases found : entryOf l bib with
  | none =>
    rw [entryOrNew, found] at already
    cases already
  | some old =>
    rw [entryOrNew, found] at already
    rw [dsqEntry_of_some found, ← show old.status = .dsq from already]

end

/-- What the result entry of a bib at DSQ leaves of the lists (R58, R73). -/
def MarkedDsq (bib : Nat) (s u : State) : Prop :=
  entryOf u.results bib = some (dsqEntry bib s.results) ∧
    (∀ x, x.bib ≠ bib → (x ∈ u.results ↔ x ∈ s.results)) ∧
    (∀ old, entryOf s.results bib = some old → old.status = .dsq →
      u.results = s.results ∧ u.startList = s.startList ∧ u.dsp = s.dsp) ∧
    (dsqEntry bib s.results ∉ s.results →
      u.startList = s.startList.erase bib ∧
        u.dsp = announced s.tables.competitors u.results (dsqEntry bib s.results) s.dsp ∧
        u.lsc.segS.queue = pageShown u.dsp s.tables.stations .leaders
          (pageShown u.dsp s.tables.stations .current s.lsc.segS.queue))

section
variable {s : State} {bib : Nat}

theorem makeDsq_unchanged (already : (entryOrNew s.results bib).status = .dsq) : s.makeDsq bib = s := by
  rw [State.makeDsq]
  exact if_pos already

/-- A state with the entry of a bib placed at DSQ, and the bib out of the start list. -/
def dsqPlaced (bib : Nat) (s : State) : State :=
  { s with results := placeEntry (dsqEntry bib s.results) s.results, startList := s.startList.erase bib }

theorem makeDsq_changed (new : (entryOrNew s.results bib).status ≠ .dsq) :
    s.makeDsq bib = (dsqPlaced bib s).announceResult (dsqEntry bib s.results) none := by
  rw [State.makeDsq]
  exact if_neg new

theorem makeDsq_shown (s : State) (bib : Nat) :
    ButShown { s with results := (s.makeDsq bib).results, startList := (s.makeDsq bib).startList } (s.makeDsq bib) := by
  by_cases already : (entryOrNew s.results bib).status = .dsq
  · rw [makeDsq_unchanged already]
    exact butShown_refl s
  · have shown := announceResult_shown (dsqEntry bib s.results) none (dsqPlaced bib s)
    rw [makeDsq_changed already, (butShown_same State.results shown fun _ => rfl :),
      (butShown_same State.startList shown fun _ => rfl :)]
    exact shown

theorem makeDsq_keeps_report {r : Report} (waits : r ∈ s.office.reports) : r ∈ (s.makeDsq bib).office.reports := by
  by_cases already : (entryOrNew s.results bib).status = .dsq
  · rw [makeDsq_unchanged already]
    exact waits
  · rw [makeDsq_changed already, announceResult_office]
    exact (State.reportResult_gains (dsqPlaced bib s) _).keeps_report waits

theorem makeDsq_countdown (s : State) (bib : Nat) : (s.makeDsq bib).dsp.countdownExpiry = s.dsp.countdownExpiry := by
  by_cases already : (entryOrNew s.results bib).status = .dsq
  · rw [makeDsq_unchanged already]
  · rw [makeDsq_changed already, announceResult_dsp]
    rfl

theorem makeDsq_marks (s : State) (bib : Nat) : MarkedDsq bib s (s.makeDsq bib) := by
  by_cases already : (entryOrNew s.results bib).status = .dsq
  · have stands := entryOf_of_dsq already
    rw [makeDsq_unchanged already]
    exact ⟨stands, fun _ _ => Iff.rfl, fun _ _ _ => ⟨rfl, rfl, rfl⟩, fun out => absurd (List.mem_of_find?_eq_some stands) out⟩
  · have shown := announceResult_shown (dsqEntry bib s.results) none (dsqPlaced bib s)
    have results : (s.makeDsq bib).results = placeEntry (dsqEntry bib s.results) s.results := by
      rw [makeDsq_changed already, (butShown_same State.results shown fun _ => rfl :)]
      rfl
    refine ⟨?_, fun x other => ?_, fun old found dsq => ?_, fun _ => ⟨?_, ?_, ?_⟩⟩
    · rw [results]
      have placed := entryOf_placeEntry (e := dsqEntry bib s.results) (l := s.results)
      rw [dsqEntry_bib] at placed
      exact placed
    · rw [results, mem_placeEntry, dsqEntry_bib]
      constructor
      · rintro (rfl | ⟨listed, -⟩)
        · exact absurd (dsqEntry_bib _ _) other
        · exact listed
      · exact fun listed => .inr ⟨listed, other⟩
    · refine absurd ?_ already
      rw [entryOrNew, found]
      exact dsq
    · rw [makeDsq_changed already, (butShown_same State.startList shown fun _ => rfl :)]
      rfl
    · rw [results, makeDsq_changed already, announceResult_dsp]
      rfl
    · rw [makeDsq_changed already, announceResult_queue]
      rfl

end

/-! ### The request (R73, R176) -/

/-- The COUNTDOWN page of a freed record that was on the bar. -/
def barShown (r : JumpRecord) (u : State) : State := if r.state.onBar then u.sendCountdown 0 else u

theorem barShown_shown (r : JumpRecord) (u : State) : ButShown u (barShown r u) := by
  unfold barShown
  split
  · exact sendCountdown_butShown _ _
  · exact butShown_refl _

theorem barShown_office (r : JumpRecord) (u : State) : (barShown r u).office = u.office := by
  unfold barShown
  split
  · rw [State.sendCountdown, sendPage_office]
  · rfl

/-- What of the display a COUNTDOWN page leaves. -/
theorem barShown_dsp (r : JumpRecord) (u : State) :
    (barShown r u).dsp = if r.state.onBar then { u.dsp with countdownLamp := u.stu.lamp, countdownSeconds := 0 } else u.dsp := by
  unfold barShown
  split
  · rw [State.sendCountdown, sendPage_dsp]
  · rfl

theorem barShown_queue (r : JumpRecord) (u : State) :
    (barShown r u).lsc.segS.queue =
      if r.state.onBar then pageShown (barShown r u).dsp u.tables.stations .countdown u.lsc.segS.queue
      else u.lsc.segS.queue := by
  rw [barShown_dsp]
  unfold barShown
  split
  · rw [State.sendCountdown, sendPage_eq]
  · rfl

section
variable {bib : Half} {s : State}

theorem disqualify_outside (outside : ¬(1 ≤ bib.toNat ∧ bib.toNat ≤ 999)) : disqualify bib s = refuse .badValue s :=
  if_neg (mt (bibInRange_iff _).1 outside)

variable (inside : 1 ≤ bib.toNat ∧ bib.toNat ≤ 999)

include inside

theorem disqualify_unknown (free : s.jtb.holding bib.toNat = none) (none : entryOf s.results bib.toNat = .none) :
    disqualify bib s = refuse .notFound s := by
  rw [disqualify, if_pos ((bibInRange_iff _).2 inside)]
  simp only [free, none]

theorem disqualify_entry (free : s.jtb.holding bib.toNat = none) {e : ResultEntry} (found : entryOf s.results bib.toNat = some e) :
    disqualify bib s =
      accept (.disqualified none (entryChange s.results bib.toNat)) (s.makeDsq bib.toNat) := by
  rw [disqualify, if_pos ((bibInRange_iff _).2 inside)]
  simp only [free, found]

theorem disqualify_record {k : Fin 4} {r : JumpRecord} (holds : s.jtb.holding bib.toNat = some (k, r)) :
    disqualify bib s =
      accept (.disqualified (some k) (entryChange s.results bib.toNat))
        (barShown r ((s.freeRecord k .disqualified false).makeDsq bib.toNat)) := by
  rw [disqualify, if_pos ((bibInRange_iff _).2 inside)]
  simp only [holds]
  rfl

end

/-- The refusals of DISQUALIFY, in the order of R73. -/
def disqualifyRefusals (bib : Nat) (s : State) : List (Prop × Status) :=
  [(¬(1 ≤ bib ∧ bib ≤ 999), .badValue),
    ((∀ k r, s.jtb.get k = some r → r.bib ≠ bib) ∧ ∀ e ∈ s.results, e.bib ≠ bib, .notFound)]

theorem entryOf_eq_none_iff (l : List ResultEntry) (bib : Nat) : entryOf l bib = none ↔ ∀ e ∈ l, e.bib ≠ bib := by
  simp only [entryOf, List.find?_eq_none, decide_eq_true_eq, ne_eq]

theorem disqualify_refuses {bib : Half} {s : State} {status : Status}
    (first : FirstOf (disqualifyRefusals bib.toNat s) (some status)) : disqualify bib s = refuse status s := by
  rcases first with ⟨outside, refused⟩ | ⟨inside, ⟨⟨free, bare⟩, refused⟩ | ⟨-, none⟩⟩
  · cases refused
    exact disqualify_outside outside
  · cases refused
    exact disqualify_unknown (not_not.1 inside) ((holding_eq_none_iff _ _).2 free) ((entryOf_eq_none_iff _ _).2 bare)
  · cases none

theorem disqualify_passed {bib : Half} {s : State} (first : FirstOf (disqualifyRefusals bib.toNat s) none) :
    (1 ≤ bib.toNat ∧ bib.toNat ≤ 999) ∧
      (s.jtb.holding bib.toNat = none → ∃ e, entryOf s.results bib.toNat = some e) := by
  simp only [disqualifyRefusals, FirstOf, reduceCtorEq, and_false, false_or] at first
  obtain ⟨inside, known, -⟩ := first
  refine ⟨not_not.1 inside, fun free => ?_⟩
  cases found : entryOf s.results bib.toNat with
  | none => exact absurd ⟨(holding_eq_none_iff _ _).1 free, (entryOf_eq_none_iff _ _).1 found⟩ known
  | some e => exact ⟨e, rfl⟩

/-! ### What is shown of an entry at DSQ -/

/-- Two states with the same lists, tables, slope queue, and CURRENT and LEADERS image. -/
def SameLists (s v : State) : Prop :=
  v.results = s.results ∧ v.startList = s.startList ∧ v.tables = s.tables ∧ v.lsc.segS.queue = s.lsc.segS.queue ∧
    v.dsp.current = s.dsp.current ∧ v.dsp.leaders = s.dsp.leaders

theorem sameLists_refl (s : State) : SameLists s s := ⟨rfl, rfl, rfl, rfl, rfl, rfl⟩

/-- The lists and the images that the result entry of a bib at DSQ leaves, as the statements word them. -/
def ShownDsq (bib : Nat) (s u t : State) : Prop :=
  entryOf t.results bib = some (dsqEntry bib s.results) ∧
    (∀ x, x.bib ≠ bib → (x ∈ t.results ↔ x ∈ s.results)) ∧
    (∀ old, entryOf s.results bib = some old → old.status = .dsq →
      t.results = s.results ∧ t.startList = s.startList ∧ t.dsp.current = s.dsp.current ∧ t.dsp.leaders = s.dsp.leaders) ∧
    (dsqEntry bib s.results ∉ s.results →
      t.startList = s.startList.erase bib ∧
        t.dsp.current = some (entryPage s.tables.competitors t.results (dsqEntry bib s.results)) ∧
        t.dsp.leaders = leadersOf s.tables.competitors t.results ∧
        u.lsc.segS.queue =
          pageShown t.dsp s.tables.stations .leaders (pageShown t.dsp s.tables.stations .current s.lsc.segS.queue))

theorem pageShown_congr {d d' : Display} (current : d.current = d'.current) (leaders : d.leaders = d'.leaders)
    (stations : List StationEntry) (q : List QueuedFrame) :
    pageShown d stations .leaders (pageShown d stations .current q) =
      pageShown d' stations .leaders (pageShown d' stations .current q) := by
  unfold pageShown pagePayload
  simp only [current, leaders]

theorem shownDsq_of {bib : Nat} {s v t : State} (same : SameLists s v) (leaves : ButShown (v.makeDsq bib) t)
    (current : t.dsp.current = (v.makeDsq bib).dsp.current) (leaders : t.dsp.leaders = (v.makeDsq bib).dsp.leaders) :
    ShownDsq bib s (v.makeDsq bib) t := by
  obtain ⟨results, list, tables, queue, shown, rows⟩ := same
  obtain ⟨entry, others, already, marked⟩ := makeDsq_marks v bib
  have lists : t.results = (v.makeDsq bib).results := (butShown_same State.results leaves fun _ => rfl :)
  have starts : t.startList = (v.makeDsq bib).startList := (butShown_same State.startList leaves fun _ => rfl :)
  rw [results] at entry others already marked
  refine ⟨by rw [lists]; exact entry, fun x other => by rw [lists]; exact others x other, fun old found dsq => ?_, fun out => ?_⟩
  · obtain ⟨kept, stays, dsp⟩ := already old found dsq
    exact ⟨lists.trans kept, starts.trans (stays.trans list), by rw [current, dsp, shown], by rw [leaders, dsp, rows]⟩
  · obtain ⟨stays, dsp, sent⟩ := marked out
    refine ⟨by rw [starts, stays, list], by rw [current, dsp, tables, lists]; rfl, by rw [leaders, dsp, tables, lists]; rfl, ?_⟩
    rw [sent, tables, queue]
    exact pageShown_congr current.symm leaders.symm _ _

/-- The freed record of a disqualified bib stands outside the lists and the images. -/
theorem freeRecord_sameLists {s : State} {k : Fin 4} {r : JumpRecord} (held : s.jtb.get k = some r) :
    SameLists s (s.freeRecord k .disqualified false) := by
  obtain ⟨shown, dsp⟩ := freeRecord_shown .disqualified false held
  refine ⟨(butShown_same State.results shown fun _ => rfl :), (butShown_same State.startList shown fun _ => rfl :),
    (butShown_same State.tables shown fun _ => rfl :), by rw [freeRecord_lsc _ _ held], ?_, ?_⟩
  all_goals
    rw [dsp, barCleared]
    split <;> rfl

/-- The state of a disqualified record's command, but for what is reported and shown. -/
theorem disqualified_shown {s : State} {k : Fin 4} {r : JumpRecord} {bib : Nat} (held : s.jtb.get k = some r) {t : State}
    (leaves : ButShown (barShown r ((s.freeRecord k .disqualified false).makeDsq bib)) t) :
    ButShown
      { s with
        jtb := s.jtb.set k none
        results := t.results
        startList := t.startList
        stu := { (if r.state.onBar then barLeft s.stu else s.stu) with lamp := t.stu.lamp }
        lsc := { s.lsc with lampSlot := t.stu.lamp }
        flu := if r.state.onCourse then .idle else s.flu } t := by
  have freed := (freeRecord_shown .disqualified false held).1
  have marked := makeDsq_shown (s.freeRecord k .disqualified false) bib
  have left := butShown_trans marked (butShown_trans (barShown_shown r _) leaves)
  have results : t.results = ((s.freeRecord k .disqualified false).makeDsq bib).results :=
    (butShown_same State.results left fun _ => rfl :)
  have list : t.startList = ((s.freeRecord k .disqualified false).makeDsq bib).startList :=
    (butShown_same State.startList left fun _ => rfl :)
  rw [← results, ← list] at left
  have shown := butShown_trans (butShown_map (fun u => { u with results := t.results, startList := t.startList }) freed fun _ => rfl)
    left
  have lamp : t.stu.lamp = lampFreed k r s := (butShown_same (·.stu.lamp) shown fun _ => rfl :)
  rw [lamp]
  exact shown

/-- Settles O36: an entry at DSQ in either case, and with a record on the bar the COUNTDOWN page behind it. -/
theorem disqualifyMarksEntry : Obligations.DisqualifyMarksEntry := by
  unfold Obligations.DisqualifyMarksEntry
  intro now seq bib s o listens first
  refine ⟨?_, ?_⟩
  · rintro status rfl
    exact request_refused listens (disqualify_refuses (s := s.asked now) first)
  rintro rfl
  obtain ⟨inside, known⟩ := disqualify_passed (s := s.asked now) first
  cases holds : s.jtb.holding bib.toNat with
  | none =>
    obtain ⟨old, found⟩ := known holds
    obtain ⟨t, exec_eq, answer, same, shows, -, lines, -⟩ := request_accepted (now := now) (seq := seq) (code := 0x37) listens
      (disqualify_entry (s := s.asked now) inside holds found)
    obtain ⟨entry, others, already, marked⟩ := shownDsq_of (sameLists_refl (s.asked now)) (butShown_of_reports same)
      (congrArg Display.current shows) (congrArg Display.leaders shows)
    refine ⟨t, dsqEntry bib.toNat s.results, exec_eq, entry, rfl, others, fun x was => ⟨dsqEntry_of_some was, fun dsq => ?_⟩,
      dsqEntry_of_none, fun out => ?_, fun x was dsq => ?_, fun _ _ h => (nomatch h),
      fun _ _ h => (nomatch h), fun _ => ⟨answer, ?_⟩⟩
    · obtain ⟨results, list, -⟩ := already x was dsq
      exact ⟨results, list⟩
    · obtain ⟨list, current, leaders, queue⟩ := marked out
      refine ⟨list, current, leaders, ?_⟩
      rintro q rfl
      exact ⟨fun _ => by rw [lines]; exact queue, fun _ _ h => (nomatch h)⟩
    · obtain ⟨-, -, current, leaders⟩ := already x was dsq
      exact ⟨current, leaders⟩
    · have shown := butShown_trans (makeDsq_shown (s.asked now) bib.toNat) (butShown_of_reports same)
      rw [← (butReports_same State.results same fun _ => rfl :), ← (butReports_same State.startList same fun _ => rfl :)] at shown
      exact shown
  | some x =>
    obtain ⟨k, r⟩ := x
    have held := get_of_holding holds
    obtain ⟨t, exec_eq, answer, same, shows, -, lines, reports⟩ := request_accepted (now := now) (seq := seq) (code := 0x37) listens
      (disqualify_record (s := s.asked now) inside holds)
    have dsp := barShown_dsp r (((s.asked now).freeRecord k .disqualified false).makeDsq bib.toNat)
    have images : t.dsp.current = (((s.asked now).freeRecord k .disqualified false).makeDsq bib.toNat).dsp.current ∧
        t.dsp.leaders = (((s.asked now).freeRecord k .disqualified false).makeDsq bib.toNat).dsp.leaders := by
      rw [shows, dsp]
      split <;> exact ⟨rfl, rfl⟩
    have left := butShown_trans (barShown_shown r _) (butShown_of_reports same)
    obtain ⟨entry, others, already, marked⟩ := shownDsq_of (freeRecord_sameLists (s := s.asked now) held) left images.1 images.2
    have shown := disqualified_shown (s := s.asked now) held (butShown_of_reports same)
    have lamp : t.stu.lamp = (((s.asked now).freeRecord k .disqualified false).makeDsq bib.toNat).stu.lamp :=
      (butShown_same (·.stu.lamp) left fun _ => rfl :)
    have queue := barShown_queue r (((s.asked now).freeRecord k .disqualified false).makeDsq bib.toNat)
    rw [← shows, ← lines] at queue
    have tables : (((s.asked now).freeRecord k .disqualified false).makeDsq bib.toNat).tables = s.tables :=
      (butShown_same State.tables left fun _ => rfl :).symm.trans (butShown_same State.tables shown fun _ => rfl :)
    refine ⟨t, dsqEntry bib.toNat s.results, exec_eq, entry, rfl, others, fun x was => ⟨dsqEntry_of_some was, fun dsq => ?_⟩,
      dsqEntry_of_none, fun out => ?_, fun x was dsq => ?_, fun k' r' same' onBar => ?_, fun k' r' same' => ?_,
      fun free => absurd (bib_of_holding holds) (free k r held)⟩
    · obtain ⟨results, list, -⟩ := already x was dsq
      exact ⟨results, list⟩
    · obtain ⟨list, current, leaders, sent⟩ := marked out
      refine ⟨list, current, leaders, ?_⟩
      rintro q rfl
      refine ⟨fun off => ?_, fun k' r' same' onBar => ?_⟩
      · rw [queue, if_neg (Bool.eq_false_iff.1 (off k r rfl))]
        exact sent
      · cases same'
        rw [queue, if_pos onBar, tables, sent]
        rfl
    · obtain ⟨-, -, current, leaders⟩ := already x was dsq
      exact ⟨current, leaders⟩
    · cases same'
      rw [shows, dsp, if_pos onBar]
      refine ⟨rfl, lamp.symm, ?_⟩
      rw [makeDsq_countdown, (freeRecord_shown (s := s.asked now) .disqualified false held).2, barCleared,
        if_pos onBar]
    · cases same'
      exact ⟨answer, fun enabled room => reports _ (by
        rw [barShown_office]
        exact makeDsq_keeps_report (freeRecord_reports (s := s.asked now) .disqualified false held enabled
          (Nat.lt_of_le_of_lt (asked_count now s) room))), shown⟩

end Sys2Proof.Proofs
end

section
/-! Wind close, and the entry into MEASURING (R134 to R136, R143 to R149, R157). -/

namespace Sys2Proof.Proofs

open Sys2Proof.Machine Sys2Proof.Claims

/-! ### The wind means list (R143, R145) -/

theorem windItem_eq_some_iff {stations : List StationEntry} {first last : Time} {c : WindContext} {m : WindMean} :
    windItem stations first last c = some m ↔
      ∃ w, windPlaceOf stations c.index = some w ∧ w.weight ≠ 0 ∧
        (c.ring.filter fun e => inWindow e.time first last).filterMap (·.value) ≠ [] ∧
        m = ⟨c.index,
          roundDiv ((c.ring.filter fun e => inWindow e.time first last).filterMap (·.value)).sum
            ((c.ring.filter fun e => inWindow e.time first last).filterMap (·.value)).length,
          ((c.ring.filter fun e => inWindow e.time first last).filterMap (·.value)).length⟩ := by
  unfold windItem
  cases windPlaceOf stations c.index with
  | none => simp
  | some w =>
    simp only [Option.some.injEq, exists_eq_left']
    split
    · next out =>
      refine ⟨nofun, fun ⟨weight, values, _⟩ => ?_⟩
      exact out.elim (fun zero => absurd zero weight) fun none => absurd none values
    · next counts =>
      rw [not_or] at counts
      exact ⟨fun same => ⟨counts.1, counts.2, (Option.some.inj same).symm⟩, fun ⟨_, _, same⟩ => congrArg some same.symm⟩

theorem windItem_index {stations : List StationEntry} {first last : Time} {c : WindContext} {m : WindMean}
    (item : windItem stations first last c = some m) : m.index = c.index := by
  obtain ⟨_, _, _, _, rfl⟩ := windItem_eq_some_iff.1 item
  rfl

theorem filterMap_index_sublist {f : WindContext → Option WindMean} (own : ∀ c m, f c = some m → m.index = c.index)
    (l : List WindContext) : ((l.filterMap f).map (·.index)).Sublist (l.map (·.index)) := by
  induction l with
  | nil => exact .slnil
  | cons c rest ih =>
    rw [List.filterMap_cons]
    split
    · exact .cons _ ih
    · next m item =>
      rw [List.map_cons, List.map_cons, own c m item]
      exact .cons_cons _ ih

theorem windowEnd_eq (h : HillTable) (takeoff : Time) (r : JumpRecord) :
    windowEnd h takeoff r = r.landingTime.getD (after takeoff (h.flightMax * 10)) := by
  unfold windowEnd
  cases r.landingTime <;> rfl

theorem windMeansOver_of (s : State) (takeoff : Time) (r : JumpRecord) :
    WindMeansOver s (takeoff - BitVec.ofNat 32 (s.tables.hill.lead * 10))
      (r.landingTime.getD (after takeoff (s.tables.hill.flightMax * 10))) (s.windMeansOf takeoff r) := by
  rw [← windowEnd_eq]
  refine ⟨filterMap_index_sublist (fun _ _ => windItem_index) _, fun m => ?_⟩
  rw [State.windMeansOf, List.mem_filterMap]
  simp only [windItem_eq_some_iff]
  constructor
  · rintro ⟨c, listed, w, rest⟩
    exact ⟨c, w, listed, rest⟩
  · rintro ⟨c, w, listed, rest⟩
    exact ⟨c, listed, w, rest⟩

/-! ### Wind close at a cycle start (R144) -/

/-- A record once its wind close is taken. -/
def windClosed (means : List WindMean) (r : JumpRecord) : JumpRecord := { r with windMeans := means, windCloseDone := true }

section
variable {s : State} {k : Fin 4} {r : JumpRecord} {t0 last : Time} {mark : Byte} {older : List (Byte × Time)}

theorem lastCycleStart_eq (history : s.hck.marks = (mark, s.now) :: older) : s.lastCycleStart = some s.now := by
  rw [State.lastCycleStart, history]
  rfl

theorem windCloseDue_eq (history : s.hck.marks = (mark, s.now) :: older)
    (ends : last = r.landingTime.getD (after t0 (s.tables.hill.flightMax * 10))) :
    s.windCloseDue t0 r = atOrAfter s.now (after last 1000) := by
  rw [State.windCloseDue, lastCycleStart_eq history, windowEnd_eq, ends]
  rfl

theorem takeWindClose_eq (held : s.jtb.get k = some r) :
    s.takeWindClose k t0 = withRecord k (windClosed (s.windMeansOf t0 r) r) s := updateRecord_eq _ held

section
variable (held : s.jtb.get k = some r) (state : r.state = .measuring) (off : r.takeoffTime = some t0)
  (bare : r.windCloseDone = false) (history : s.hck.marks = (mark, s.now) :: older)
  (ends : last = r.landingTime.getD (after t0 (s.tables.hill.flightMax * 10)))

include held state off bare history ends

theorem windCloseAtCycle_eq :
    s.windCloseAtCycle k =
      if atOrAfter s.now (after last 1000) = true then
        if r.finalDistance.isSome then (withRecord k (windClosed (s.windMeansOf t0 r) r) s).complete k
        else withRecord k (windClosed (s.windMeansOf t0 r) r) s
      else s := by
  simp only [State.windCloseAtCycle, held, off, state, bare, State.atCycleStart, lastCycleStart_eq history,
    windCloseDue_eq history ends, takeWindClose_eq held, decide_true, Bool.not_false, Bool.true_and]

end

end

/-- Settles O29: before the deadline nothing; then the means over the window, and with a final distance the completion step. -/
theorem windCloseListsMeans : Obligations.WindCloseListsMeans := by
  unfold Obligations.WindCloseListsMeans
  intro now s k r t0 mark older first last outside held state off bare history begins ends
  have due := windCloseAtCycle_eq (s := s.setNow now) held state off bare history ends
  rw [State.now_setNow] at due
  refine ⟨fun early => ?_, fun passed => ⟨(s.setNow now).windMeansOf t0 r, ?means, fun none => ?listed, fun d final => ?complete⟩⟩
  · refine (event_outside_reset _ _ _ outside).trans ?_
    rw [due, if_neg (Bool.eq_false_iff.1 early)]
  case means =>
    rw [begins, ends]
    exact windMeansOver_of (s.setNow now) t0 r
  case listed =>
    refine (event_outside_reset _ _ _ outside).trans ?_
    rw [due, if_pos passed, if_neg (by rw [none]; decide)]
    rfl
  case complete =>
    have stands := withRecord_get k (windClosed ((s.setNow now).windMeansOf t0 r) r) (s.setNow now)
    have measured : Measured d (windClosed ((s.setNow now).windMeansOf t0 r) r) := ⟨final, rfl, .inl state⟩
    have goes : (s.setNow now).windCloseAtCycle k =
        (withRecord k (windClosed ((s.setNow now).windMeansOf t0 r) r) (s.setNow now)).complete k := by
      rw [due, if_pos passed, final]
      rfl
    obtain ⟨t, exec_eq, same, shows, -⟩ := event_taken (now := now) outside goes
    obtain ⟨completed, -⟩ := completed_of stands measured (butShown_of_reports same) shows
    refine ⟨t, exec_eq, onRecord_of (butReports_refl _) (upon_trans (withRecord_upon ..) (complete_upon stands measured)) same,
      completed_congr completed rfl rfl rfl rfl fun y => JumpTable.set_set ..⟩

end Sys2Proof.Proofs
end

section
/-! The settle of a landing and the flight expiry: MEASURING is entered (R134 to R136, R144, R157). -/

namespace Sys2Proof.Proofs

open Sys2Proof.Machine Sys2Proof.Claims

/-! ### The record of a MEASURING entry (R144, R157) -/

theorem marksArmed_eq (h : HillTable) (now start : Time) (r : JumpRecord) :
    ∃ late expiry, marksArmed h now start r = { r with marksOverdue := late, marksExpiry := expiry } := by
  unfold marksArmed
  split
  · exact ⟨_, _, rfl⟩
  · split <;> exact ⟨_, _, rfl⟩

/-- A record in MEASURING with its marks window armed. -/
def arrived (h : HillTable) (now start : Time) (r : JumpRecord) : JumpRecord := (marksArmed h now start r).inState .measuring

/-- The record that a MEASURING entry leaves before its confirm window. -/
def measuringOf (s : State) (t0 start : Time) (r : JumpRecord) : JumpRecord :=
  if s.windCloseDue t0 (arrived s.tables.hill s.now start r) = true then
    windClosed (s.windMeansOf t0 (arrived s.tables.hill s.now start r)) (arrived s.tables.hill s.now start r)
  else arrived s.tables.hill s.now start r

theorem arrived_eq (h : HillTable) (now start : Time) (r : JumpRecord) :
    ∃ late expiry, arrived h now start r =
      { r with state := .measuring, needs := .none, marksOverdue := late, marksExpiry := expiry } := by
  obtain ⟨late, expiry, same⟩ := marksArmed_eq h now start r
  refine ⟨late, expiry, ?_⟩
  rw [arrived, same, JumpRecord.inState, if_neg (by decide), if_pos rfl]

theorem measuringOf_eq (s : State) (t0 start : Time) (r : JumpRecord) :
    ∃ late expiry means done, measuringOf s t0 start r =
      { r with
        state := .measuring, needs := .none, marksOverdue := late, marksExpiry := expiry, windMeans := means,
        windCloseDone := done } := by
  obtain ⟨late, expiry, same⟩ := arrived_eq s.tables.hill s.now start r
  unfold measuringOf
  rw [same]
  split <;> exact ⟨_, _, _, _, rfl⟩

theorem atMeasuring_of {s : State} {r : JumpRecord} {t0 start last : Time} {mark : Byte}
    {older : List (Byte × Time)} (bare : r.windCloseDone = false) (history : s.hck.marks = (mark, s.now) :: older)
    (ends : last = r.landingTime.getD (after t0 (s.tables.hill.flightMax * 10))) :
    AtMeasuring s.now (t0 - BitVec.ofNat 32 (s.tables.hill.lead * 10)) last start s r (measuringOf s t0 start r) := by
  obtain ⟨late, expiry, armed⟩ := marksArmed_eq s.tables.hill s.now start r
  have shape : arrived s.tables.hill s.now start r =
      { marksArmed s.tables.hill s.now start r with state := .measuring, needs := .none } := by
    rw [arrived, JumpRecord.inState, if_neg (by decide), if_pos rfl]
  have landing : (arrived s.tables.hill s.now start r).landingTime = r.landingTime := by rw [shape, armed]
  have due := windCloseDue_eq (r := arrived s.tables.hill s.now start r) history
    (ends.trans (congrArg (Option.getD · _) landing.symm))
  rw [measuringOf, due]
  rcases Bool.eq_false_or_eq_true (atOrAfter s.now (after last 1000)) with passed | early
  · rw [if_pos passed]
    refine ⟨?_, fun _ => ?_, fun early => Bool.noConfusion (passed.symm.trans early)⟩
    · rw [passed, windClosed, shape]
    · rw [ends, ← landing]
      exact windMeansOver_of s t0 (arrived s.tables.hill s.now start r)
  · rw [if_neg (Bool.eq_false_iff.1 early)]
    refine ⟨?_, fun passed => Bool.noConfusion (passed.symm.trans early), fun _ => by rw [shape, armed]⟩
    rw [early, shape, armed, ← bare]

/-! ### The entry (R134 to R136) -/

section
variable {s : State} {k : Fin 4} {r : JumpRecord}

/-- A marks window armed under a record that is in neither MARKING nor HELD. -/
theorem armMarks_early (held : s.jtb.get k = some r) (marking : r.state ≠ .marking) (notHeld : r.state ≠ .held) (start : Time) :
    s.armMarks k start = withRecord k (marksArmed s.tables.hill s.now start r) s := by
  rw [marksArmed]
  rcases Bool.eq_false_or_eq_true r.marksLocked with locked | open_
  · rw [armMarks_locked held locked, if_pos locked, withRecord_self held]
  · rw [if_neg (Bool.eq_false_iff.1 open_)]
    split
    · next later => exact armMarks_later held open_ later
    · next passed =>
      rw [armMarks_passed held open_ passed, takeMarksExpiry_other held marking notHeld]
      rfl

/-- A state with its record about to enter MEASURING. -/
def arriving (k : Fin 4) (r : JumpRecord) (start : Time) (s : State) : State :=
  withRecord k (marksArmed s.tables.hill s.now start r) s

/-- A state whose record has entered MEASURING, before its confirm window. -/
def inMeasuring (k : Fin 4) (r : JumpRecord) (t0 start : Time) (s : State) : State :=
  withRecord k (measuringOf s t0 start r) ((arriving k r start s).enterState k .measuring)

theorem enterMeasuring_eq (held : s.jtb.get k = some r) (marking : r.state ≠ .marking) (notHeld : r.state ≠ .held)
    {t0 : Time} (off : r.takeoffTime = some t0) (bare : r.windCloseDone = false) (start : Time) :
    (s.armMarks k start).enterMeasuring k = (inMeasuring k r t0 start s).openConfirm k := by
  have stands : (arriving k r start s).jtb.get k = some (marksArmed s.tables.hill s.now start r) := withRecord_get ..
  obtain ⟨shown, -, -⟩ := enterState_shown .measuring stands rfl
  have entered : ((arriving k r start s).enterState k .measuring).jtb.get k = some (arrived s.tables.hill s.now start r) := by
    rw [(butShown_same State.jtb shown fun _ => rfl :)]
    exact (JumpTable.get_set ..).trans (if_pos rfl)
  obtain ⟨late, expiry, same⟩ := arrived_eq s.tables.hill s.now start r
  have off' : (arrived s.tables.hill s.now start r).takeoffTime = some t0 := by rw [same]; exact off
  have bare' : (arrived s.tables.hill s.now start r).windCloseDone = false := by rw [same]; exact bare
  have due : ((arriving k r start s).enterState k .measuring).windCloseDue t0 (arrived s.tables.hill s.now start r) =
      s.windCloseDue t0 (arrived s.tables.hill s.now start r) := (butShown_same (·.windCloseDue t0 _) shown fun _ => rfl :)
  have means : ((arriving k r start s).enterState k .measuring).windMeansOf t0 (arrived s.tables.hill s.now start r) =
      s.windMeansOf t0 (arrived s.tables.hill s.now start r) := (butShown_same (·.windMeansOf t0 _) shown fun _ => rfl :)
  have closes : ((arriving k r start s).enterState k .measuring).windCloseAtEntry k = inMeasuring k r t0 start s := by
    simp only [State.windCloseAtEntry, entered, off', bare', due, Bool.not_false, Bool.true_and]
    rw [takeWindClose_eq entered, means, inMeasuring, measuringOf]
    split
    · rfl
    · exact (withRecord_self entered).symm
  rw [State.enterMeasuring, armMarks_early held marking notHeld]
  exact congrArg (State.openConfirm k) closes

/-- What the state before the confirm window holds. -/
theorem inMeasuring_shown (round : s.competition.isOpen = true) (alone : AloneIn k s.jtb) (t0 start : Time) :
    ButShown (inCourse k (measuringOf s t0 start r) s.flu s) (inMeasuring k r t0 start s) ∧
      (inMeasuring k r t0 start s).dsp = s.dsp ∧ Gains 2 s (inMeasuring k r t0 start s) := by
  have stands : (arriving k r start s).jtb.get k = some (marksArmed s.tables.hill s.now start r) := withRecord_get ..
  have lamp : derivedLamp (arriving k r start s).competition
      ((arriving k r start s).jtb.set k (some ((marksArmed s.tables.hill s.now start r).inState .measuring)))
      (arriving k r start s).stu.flashing = .red :=
    derivedLamp_set_left round (aloneIn_set alone _) (by simp [JumpRecord.inState]) _
  obtain ⟨shown, dsp, -⟩ := enterState_shown .measuring stands lamp
  have moved := butShown_map (withRecord k (measuringOf s t0 start r)) shown fun _ => rfl
  refine ⟨?_, dsp, ?_⟩
  · simp only [inEntered, arriving, withRecord, JumpTable.set_set] at moved
    exact moved
  · have armed : Gains 0 s (arriving k r start s) := .of_eq rfl 0
    have entry := armed.trans (enterState_gains .measuring stands)
    exact entry.trans (.of_eq (v := inMeasuring k r t0 start s) rfl 0)

theorem inMeasuring_reports (t0 start : Time) (enabled : s.enables.jump = true) (room : s.office.count < 60) :
    .jump r.bib (some k) (some .measuring) .advance .none r.flags ∈ (inMeasuring k r t0 start s).office.reports := by
  have stands : (arriving k r start s).jtb.get k = some (marksArmed s.tables.hill s.now start r) := withRecord_get ..
  have entry := enterState_reports .measuring stands enabled room
  obtain ⟨late, expiry, same⟩ := marksArmed_eq s.tables.hill s.now start r
  rw [same] at entry
  exact entry

end

/-! ### The confirm window (R136) -/

section
variable {v : State} {k : Fin 4} {x : JumpRecord}

theorem openConfirm_window (held : v.jtb.get k = some x) (window : 0 < v.tables.hill.confirmWindow) :
    v.openConfirm k =
      withRecord k { x with confirmExpiry := some (after v.now (v.tables.hill.confirmWindow * 10000)) } v := by
  simp only [State.openConfirm, held]
  rw [if_pos window, updateRecord_eq _ held]
  rfl

theorem openConfirm_final (held : v.jtb.get k = some x) (none : v.tables.hill.confirmWindow = 0) {d : Nat}
    (measured : x.preliminary = some d) : v.openConfirm k = v.confirmDistance k d .array := by
  simp only [State.openConfirm, held, none, measured]
  exact if_neg (Nat.lt_irrefl 0)

theorem openConfirm_held (held : v.jtb.get k = some x) (none : v.tables.hill.confirmWindow = 0)
    (bare : x.preliminary = .none) : v.openConfirm k = v.enterState k .held := by
  simp only [State.openConfirm, held, none, bare]
  exact if_neg (Nat.lt_irrefl 0)

end

theorem distanceSet_congr {k : Fin 4} {r : JumpRecord} {d : Nat} {source : DistSource} {s v t : State}
    (set : DistanceSet k r d source v t) (results : v.results = s.results) (list : v.startList = s.startList)
    (tables : v.tables = s.tables) (reference : v.stu.roundReference = s.stu.roundReference) (gate : v.stu.gate = s.stu.gate)
    (slots : ∀ y, v.jtb.set k y = s.jtb.set k y) : DistanceSet k r d source s t := by
  obtain ⟨early, done⟩ := set
  rw [results, list, tables, gate, slots] at early
  rw [tables, gate] at done
  refine ⟨early, fun closed => ?_⟩
  obtain ⟨completed, current⟩ := done closed
  exact ⟨completed_congr completed results list tables reference slots, current⟩

/-- A state with a record about to enter MEASURING, FLU at rest. -/
def offCourse (now : Time) (k : Fin 4) (r : JumpRecord) (s : State) : State := onCourse k r .idle (s.setNow now)

/-- What the confirm window does to a record that has entered MEASURING, as the statements word it (R136). -/
theorem enteredMeasuring_of {now t0 start : Time} {s u t : State} {k : Fin 4} {r : JumpRecord}
    (round : s.competition.isOpen = true) (alone : AloneIn k s.jtb) (comes : ButShown (offCourse now k r s) u)
    (office : u.office = s.office) (leaves : ButReports ((inMeasuring k r t0 start u).openConfirm k) t)
    (shows : t.dsp = ((inMeasuring k r t0 start u).openConfirm k).dsp)
    (conditions : t.conditions = ((inMeasuring k r t0 start u).openConfirm k).conditions)
    (reports : ∀ x ∈ ((inMeasuring k r t0 start u).openConfirm k).office.reports, Reported t x) :
    EnteredMeasuring now k (measuringOf u t0 start r) s t := by
  have slots : u.jtb = s.jtb.set k (some r) := (butShown_same State.jtb comes fun _ => rfl :)
  have open_ : u.competition.isOpen = true := (congrArg CompState.isOpen (butShown_same State.competition comes fun _ => rfl)).trans round
  have enables : u.enables = s.enables := (butShown_same State.enables comes fun _ => rfl :)
  obtain ⟨entered, -, gains⟩ := inMeasuring_shown (r := r) open_ (by rw [slots]; exact aloneIn_set alone _) t0 start
  have before : ButShown (inCourse k (measuringOf u t0 start r) .idle (s.setNow now)) (inMeasuring k r t0 start u) := by
    rw [(butShown_same State.flu comes fun _ => rfl :)] at entered
    have moved := butShown_trans (butShown_map (inCourse k (measuringOf u t0 start r) .idle) comes fun _ => rfl) entered
    simp only [inCourse, offCourse, onCourse, JumpTable.set_set] at moved
    exact moved
  have reporting := inMeasuring_reports (s := u) (k := k) (r := r) t0 start
  have stands : (inMeasuring k r t0 start u).jtb.get k = some (measuringOf u t0 start r) := withRecord_get ..
  obtain ⟨late, expiry, means, done, same⟩ := measuringOf_eq u t0 start r
  have bib : (measuringOf u t0 start r).bib = r.bib := by rw [same]
  have flags : (measuringOf u t0 start r).flags = r.flags := by rw [same]
  have measuring : (measuringOf u t0 start r).state = .measuring := by rw [same]
  rw [← bib, ← flags] at reporting
  generalize measuringOf u t0 start r = x at *
  generalize inMeasuring k r t0 start u = v at *
  have tables : v.tables = s.tables := (butShown_same State.tables before fun _ => rfl :)
  have time : v.now = now := (butShown_same State.now before fun _ => rfl :)
  have jtb : v.jtb = s.jtb.set k (some x) := (butShown_same State.jtb before fun _ => rfl :)
  refine ⟨fun window => ?_, fun d none measured => ?_, fun none bare => ?_⟩
  · rw [openConfirm_window stands (by rw [tables]; exact window), time, tables] at leaves
    have moved := butShown_trans (butShown_map
      (withRecord k { x with confirmExpiry := some (after now (s.tables.hill.confirmWindow * 10000)) }) before fun _ => rfl)
      (butShown_of_reports leaves)
    simp only [withRecord, inCourse, JumpTable.set_set] at moved
    exact moved
  · rw [openConfirm_final stands (by rw [tables]; exact none) measured] at leaves shows
    have comes : Upon k (onCourse k x .idle (s.setNow now)) v :=
      upon_trans (v := inCourse k x .idle (s.setNow now)) ⟨rfl, fun _ _ => rfl⟩ (upon_of_shown k before)
    refine ⟨upon_trans (upon_trans comes (confirmDistance_upon d .array stands (.inl measuring)))
      (upon_of_shown k (butShown_of_reports leaves)), ?_⟩
    refine distanceSet_congr (distanceSet_of d .array stands (.inl measuring) (butShown_of_reports leaves) shows)
      (butShown_same State.results before fun _ => rfl :) (butShown_same State.startList before fun _ => rfl :) tables
      (butShown_same (·.stu.roundReference) before fun _ => rfl :) (butShown_same (·.stu.gate) before fun _ => rfl :) fun y => ?_
    rw [jtb]
  · rw [openConfirm_held stands (by rw [tables]; exact none) bare] at leaves shows conditions reports
    have lamp : derivedLamp v.competition (v.jtb.set k (some (x.inState .held))) v.stu.flashing = .red := by
      refine derivedLamp_set_left ?_ ?_ (by simp [JumpRecord.inState]) _
      · rw [(butShown_same State.competition before fun _ => rfl :)]
        exact round
      · rw [jtb]
        exact aloneIn_set alone _
    obtain ⟨shown, -, -⟩ := enterState_shown .held stands lamp
    have moved := butShown_trans (butShown_map (inEntered k x .held .red) before fun _ => rfl)
      (butShown_trans shown (butShown_of_reports leaves))
    simp only [inEntered, inCourse, JumpTable.set_set, inState_eq_held] at moved
    refine ⟨moved, ?_, fun enabled room => ⟨reports _ ?_, reports _ ?_⟩⟩
    · rw [conditions, enterState_held .held stands]
      exact (inState_isSome_iff _ _).2 ⟨k, _, (JumpTable.get_set ..).trans (if_pos rfl), by simp [JumpRecord.inState]⟩
    · refine (enterState_gains .held stands).keeps_report (reporting (by rw [enables]; exact enabled) ?_)
      rw [office]
      omega
    · have entry := enterState_reports .held stands
        ((congrArg (·.jump) (butShown_same State.enables before fun _ => rfl :)).trans enabled)
        (Nat.lt_of_le_of_lt gains.count (by rw [office]; exact room))
      rw [inState_eq_held] at entry
      exact entry

theorem atMeasuring_congr {now first last start : Time} {u s : State} {r x : JumpRecord} (h : AtMeasuring now first last start u r x)
    (tables : u.tables = s.tables) (wnd : u.wnd = s.wnd) : AtMeasuring now first last start s r x := by
  unfold AtMeasuring WindMeansOver at h ⊢
  rw [tables, wnd] at h
  exact h

/-! ### The settle and the flight expiry (R134, R135) -/

/-- A landed record with its preliminary distance. -/
def settled (c : Candidate) (r : JumpRecord) : JumpRecord :=
  { r with landingTime := some c.time, preliminary := some c.distance, landingSource := .array }

/-- A record given its landing by the flight expiry. -/
def flightExpired (r : JumpRecord) : JumpRecord := { r with flags := { r.flags with landingEstimated := true } }

section
variable {s : State} {k : Fin 4} {r : JumpRecord} (one : OneActive s.jtb) (held : s.jtb.get k = some r) {mark : Byte}
  {older : List (Byte × Time)} (history : s.hck.marks = (mark, s.now) :: older)

theorem atCycleStart_of (history : s.hck.marks = (mark, s.now) :: older) : s.atCycleStart = true :=
  decide_eq_true (lastCycleStart_eq history)

include one held history

theorem takeSettle_eq (state : r.state = .landing) {c : Candidate} (candidate : s.flu.candidate = some c) :
    s.takeSettle = if s.flu.settleCount = 2 then s.settle k c else s := by
  simp only [State.takeSettle, inState_of_state one rfl held state, candidate, atCycleStart_of history, Bool.true_and,
    decide_eq_true_eq]

theorem takeFlightExpiry_eq (state : r.state = .flight) {t0 : Time} (off : r.takeoffTime = some t0) :
    s.takeFlightExpiry =
      if atOrAfter s.now (after t0 (s.tables.hill.flightMax * 10 + 2000)) = true then s.expireFlight k else s := by
  simp only [State.takeFlightExpiry, inState_of_state one rfl held state, off, atCycleStart_of history, Bool.true_and,
    Option.any_some]
  rfl

end

section
variable {s : State} {k : Fin 4} {r : JumpRecord} (now : Time) (held : s.jtb.get k = some r)

include held

theorem settle_eq (c : Candidate) :
    (s.setNow now).settle k c =
      (((offCourse now k (settled c r) s).sendCurrent k).armMarks k c.time).enterMeasuring k := by
  rw [State.settle, updateRecord_eq (s := { s.setNow now with flu := .idle }) _ held]
  rfl

theorem expireFlight_eq :
    (s.setNow now).expireFlight k = ((offCourse now k (flightExpired r) s).armMarks k now).enterMeasuring k := by
  rw [State.expireFlight, updateRecord_eq (s := { s.setNow now with flu := .idle }) _ held]
  rfl

end

/-- Settles O28: each comes to a MEASURING entry from a record off the course, the settle with the CURRENT page sent before it. -/
theorem measuringIsEntered : Obligations.MeasuringIsEntered := by
  unfold Obligations.MeasuringIsEntered
  intro now s k r t0 first mark older outside one records held off history bare unmeasured unlanded begins
  have round := isOpen_of_record records held
  subst begins
  refine ⟨fun c state candidate => ⟨fun other => ?_, fun second => ?settles⟩, fun state => ⟨fun early => ?_, fun passed => ?expires⟩⟩
  · refine (event_outside_reset _ _ _ outside).trans ?_
    rw [takeSettle_eq (s := s.setNow now) one held history state candidate]
    exact congrArg (fun u : State => Host.Outcome.next u.pumpOffice) (if_neg other)
  case settles =>
    have alone := aloneIn_of_active one held (by rw [state]; rfl)
    obtain ⟨dsp, lsc, frame⟩ := State.sendCurrent_frame (offCourse now k (settled c r) s) k
    have current := sendCurrent_dsp (s := offCourse now k (settled c r) s) (onCourse_get (settled c r) .idle)
    have comes := sendCurrent_butShown (offCourse now k (settled c r) s) k
    have office := sendCurrent_office k (offCourse now k (settled c r) s)
    have stands : ((offCourse now k (settled c r) s).sendCurrent k).jtb.get k = some (settled c r) := by
      rw [frame]
      exact onCourse_get (settled c r) .idle
    have enters := enterMeasuring_eq stands (by rw [settled, state]; decide) (by rw [settled, state]; decide) off bare c.time
    have taken := ((takeSettle_eq (s := s.setNow now) one held history state candidate).trans (if_pos second)).trans
      ((settle_eq now held c).trans enters)
    obtain ⟨t, exec_eq, same, shows, conditions, -, reports⟩ := event_taken (now := now) outside taken
    refine ⟨t, _, exec_eq, ?_, enteredMeasuring_of round alone comes office same shows conditions reports, fun window => ?_⟩
    · have at_ := atMeasuring_of (s := (offCourse now k (settled c r) s).sendCurrent k) (r := settled c r) (t0 := t0)
        (start := c.time) (last := c.time) bare (by rw [frame]; exact history) rfl
      have time : ((offCourse now k (settled c r) s).sendCurrent k).now = now := by rw [frame]; rfl
      have tables : ((offCourse now k (settled c r) s).sendCurrent k).tables = s.tables := by rw [frame]; rfl
      rw [time, congrArg (·.hill.lead) tables] at at_
      exact atMeasuring_congr at_ tables (by rw [frame]; rfl)
    · obtain ⟨entered, display, -⟩ := inMeasuring_shown (s := (offCourse now k (settled c r) s).sendCurrent k) (k := k)
        (r := settled c r) (by rw [frame]; exact round) (by rw [frame]; exact aloneIn_set alone _) t0 c.time
      have tables : (inMeasuring k (settled c r) t0 c.time ((offCourse now k (settled c r) s).sendCurrent k)).tables = s.tables := by
        rw [(butShown_same State.tables entered fun _ => rfl :), frame]
        rfl
      have opened := openConfirm_window
        (v := inMeasuring k (settled c r) t0 c.time ((offCourse now k (settled c r) s).sendCurrent k)) (withRecord_get ..)
        (by rw [tables]; exact window)
      rw [shows, opened]
      exact (congrArg Display.current (display.trans current)).trans rfl
  · refine (event_outside_reset _ _ _ outside).trans ?_
    rw [takeFlightExpiry_eq (s := s.setNow now) one held history state off]
    exact congrArg (fun u : State => Host.Outcome.next u.pumpOffice) (if_neg (Bool.eq_false_iff.1 early))
  case expires =>
    have alone := aloneIn_of_active one held (by rw [state]; rfl)
    have stands : (offCourse now k (flightExpired r) s).jtb.get k = some (flightExpired r) := onCourse_get _ .idle
    have enters := enterMeasuring_eq stands (by rw [flightExpired, state]; decide) (by rw [flightExpired, state]; decide) off bare
      now
    have taken := ((takeFlightExpiry_eq (s := s.setNow now) one held history state off).trans (if_pos passed)).trans
      ((expireFlight_eq now held).trans enters)
    obtain ⟨t, exec_eq, same, shows, conditions, -, reports⟩ := event_taken (now := now) outside taken
    refine ⟨t, _, exec_eq, ?_, enteredMeasuring_of round alone (butShown_refl _) rfl same shows conditions reports⟩
    exact atMeasuring_of (s := offCourse now k (flightExpired r) s) (r := flightExpired r) (t0 := t0) (start := now)
      (last := after t0 (s.tables.hill.flightMax * 10)) bare history
      (by rw [flightExpired, unlanded]; rfl)

end Sys2Proof.Proofs
end

section
/-! The slots of a segment: how one opens with its opener, and how it times out (R1, R3, R9, R10, R24, R39). -/

namespace Sys2Proof.Proofs

open Sys2Proof.Machine Sys2Proof.Claims

/-! ### Segments and line units side by side -/

theorem setSeg_setSeg (s : State) (p : Seg) (a b : Segment) : (s.setSeg p a).setSeg p b = s.setSeg p b := by
  cases p <;> rfl

theorem setLine_setLine (s : State) (p : Port) (a b : LineUnit) : (s.setLine p a).setLine p b = s.setLine p b := by
  cases p <;> rfl

theorem setLine_setSeg (s : State) (p : Seg) (g : Segment) (q : Port) (u : LineUnit) :
    (s.setSeg p g).setLine q u = (s.setLine q u).setSeg p g := by
  cases p <;> cases q <;> rfl

/-! ### The line unit ahead of an opener (R1, R7, R26) -/

/-- What a segment's line unit has put on its line ahead of the frame that it starts next. -/
def closedAhead (now : Time) (seg : Seg) (s : State) : LineEnd :=
  if s.sending seg then .delimiter now
  else if (s.line (portFor seg)).shifter = none then aheadOf now (s.line (portFor seg)) else .idle

/-- A segment's line unit with another frame in its shifter. -/
def started (now : Time) (seg : Seg) (advance : Byte) (f : Frame) (s : State) : LineUnit where
  counters := (s.line (portFor seg)).counters
  txSeq := (s.line (portFor seg)).txSeq + advance
  shifter := some f
  ahead := closedAhead now seg s
  dropping := (s.line (portFor seg)).dropping

theorem sending_iff (s : State) (seg : Seg) (now : Time) : (s.setNow now).sending seg = true ↔ SendsAt now seg s := by
  unfold State.sending SendsAt
  rw [line_setNow, seg_setNow, portOfSeg_eq]
  cases (s.line (portFor seg)).shifter with
  | none => simp
  | some f =>
    have mark : ((s.setNow now).lastCycleStart.any fun t => decide ((now - t).toNat < 3)) = true ↔
        ∃ mark start older, s.hck.marks = (mark, start) :: older ∧ (now - start).toNat < 3 := by
      change (s.hck.marks.head?.map (·.2)).any _ = true ↔ _
      cases s.hck.marks with
      | nil => simp
      | cons m older =>
        exact ⟨fun soon => ⟨m.1, m.2, older, rfl, of_decide_eq_true soon⟩, fun ⟨_, _, _, same, soon⟩ => by
          cases same
          exact decide_eq_true soon⟩
    simp only [Option.some.injEq, exists_eq_left', Bool.or_eq_true, Bool.and_eq_true, decide_eq_true_eq,
      Option.isSome_iff_ne_none]
    exact or_congr Iff.rfl (and_congr Iff.rfl mark)

theorem closedAhead_of_sends {now : Time} {seg : Seg} {s : State} (sends : SendsAt now seg s) :
    closedAhead now seg (s.setNow now) = .delimiter now := if_pos ((sending_iff s seg now).2 sends)

theorem closedAhead_of_quiet {now : Time} {seg : Seg} {s : State} (quiet : ¬SendsAt now seg s) :
    closedAhead now seg (s.setNow now) =
      if (s.line (portFor seg)).shifter = none then aheadOf now (s.line (portFor seg)) else .idle := by
  rw [closedAhead, if_neg (mt (sending_iff s seg now).1 quiet), line_setNow]

/-- The line unit of a segment once the frame that it holds is sent. -/
def closedUnit (seg : Seg) (s : State) : LineUnit :=
  if s.sending seg then (s.line (portFor seg)).close s.now else (s.line (portFor seg)).settle

theorem closeLine_eq (seg : Seg) (s : State) : s.closeLine seg = s.setLine (portFor seg) (closedUnit seg s) := by
  rw [State.closeLine, portOfSeg_eq]
  rfl

theorem closedUnit_txSeq (seg : Seg) (s : State) : (closedUnit seg s).txSeq = (s.line (portFor seg)).txSeq := by
  unfold closedUnit
  rw [LineUnit.settle_spec]
  split
  · rfl
  · split <;> rfl

theorem closedUnit_start (seg : Seg) (s : State) (f : Frame) :
    (closedUnit seg s).start s.now f = started s.now seg 0 f s := by
  have ahead : (if (closedUnit seg s).ahead = .delimiter s.now then LineEnd.delimiter s.now else .idle) =
      closedAhead s.now seg s := by
    unfold closedUnit closedAhead
    rw [LineUnit.settle_spec]
    split
    · exact if_pos rfl
    · split <;> rfl
  have counters : (closedUnit seg s).counters = (s.line (portFor seg)).counters := by
    unfold closedUnit
    rw [LineUnit.settle_spec]
    split
    · rfl
    · split <;> rfl
  have dropping : (closedUnit seg s).dropping = (s.line (portFor seg)).dropping := by
    unfold closedUnit
    rw [LineUnit.settle_spec]
    split
    · rfl
    · split <;> rfl
  rw [LineUnit.start, started, ahead, counters, dropping, closedUnit_txSeq]
  simp

/-! ### Openers (R9, R24) -/

theorem takeQueued_first {a : Nat} {before behind : List QueuedFrame} {x : QueuedFrame}
    (first : ∀ y ∈ before, y.station ≠ a) (own : x.station = a) :
    takeQueued a (before ++ x :: behind) = some (x, before ++ behind) := by
  induction before with
  | nil => exact if_pos own
  | cons f rest ih =>
    rw [List.cons_append, takeQueued, if_neg (first f List.mem_cons_self),
      ih fun y listed => first y (List.mem_cons_of_mem _ listed)]
    rfl

theorem takeQueued_some {a : Nat} {q rest : List QueuedFrame} {f : QueuedFrame} (taken : takeQueued a q = some (f, rest)) :
    ∃ before behind, q = before ++ f :: behind ∧ rest = before ++ behind ∧ f.station = a ∧ ∀ y ∈ before, y.station ≠ a := by
  induction q generalizing rest with
  | nil => cases taken
  | cons x tail ih =>
    rw [takeQueued] at taken
    split at taken
    · next own =>
      cases taken
      exact ⟨[], tail, rfl, rfl, own, nofun⟩
    · next other =>
      obtain ⟨⟨g, l⟩, found, same⟩ := Option.map_eq_some_iff.1 taken
      cases same
      obtain ⟨before, behind, rfl, rfl, own, first⟩ := ih found
      exact ⟨x :: before, behind, rfl, rfl, own, List.forall_mem_cons.2 ⟨other, first⟩⟩

/-- A slot opened for a station with its opener in the shifter. -/
def opens (seg : Seg) (e : StationEntry) (lampSent : Option Lamp) (f : Frame) (q : List QueuedFrame) (s : State) : State :=
  (s.setLine (portFor seg) (started s.now seg (if f.kind = 0x05 then 0 else 1) f s)).setSeg seg
    { s.seg seg with queue := q, slot := some (openedSlot e lampSent s.now) }

/-- A frame the part originates to a station, with its own sequence number (R1). -/
def ownFrame (seg : Seg) (destination : Nat) (kind : Byte) (payload : List Byte) (s : State) : Frame :=
  ⟨BitVec.ofNat 8 destination, 0x01, kind, (s.line (portFor seg)).txSeq, payload⟩

/-- A queued frame as it is sent to its station: a PASS keeps the office's sequence number (R1, R22). -/
def queuedFrame (seg : Seg) (f : QueuedFrame) (s : State) : Frame :=
  match f with
  | .page b _ payload => ownFrame seg b 0x04 payload s
  | .pass a seq payload => ⟨BitVec.ofNat 8 a, 0x01, 0x05, seq, payload⟩

section
variable (s : State) (seg : Seg) (e : StationEntry)

theorem sendOwn_closed (destination : Nat) (kind : FrameKind) (payload : List Byte) :
    (s.closeLine seg).sendOwn (portFor seg) destination kind payload =
      s.setLine (portFor seg) (started s.now seg 1 (ownFrame seg destination kind.byte payload s) s) := by
  have closed := closedUnit_start seg s (ownFrame seg destination kind.byte payload s)
  rw [closeLine_eq, State.sendOwn, State.line_setLine_self, setLine_setLine, State.now_setLine, closedUnit_txSeq]
  rw [show (⟨BitVec.ofNat 8 destination, 0x01, kind.byte, (s.line (portFor seg)).txSeq, payload⟩ : Frame) =
    ownFrame seg destination kind.byte payload s from rfl, closed]
  rfl

theorem sendQueued_closed (f : QueuedFrame) :
    (s.closeLine seg).sendQueued (portFor seg) f =
      s.setLine (portFor seg)
        (started s.now seg (if (queuedFrame seg f s).kind = 0x05 then 0 else 1) (queuedFrame seg f s) s) := by
  cases f with
  | page b kind payload => exact sendOwn_closed s seg b .page payload
  | pass a seq payload =>
    rw [State.sendQueued, closeLine_eq, State.line_setLine_self, setLine_setLine, State.now_setLine]
    exact congrArg (s.setLine (portFor seg)) (closedUnit_start seg s _)

theorem sendOwn_setSeg (u : State) (g : Segment) (port : Port) (destination : Nat) (kind : FrameKind) (payload : List Byte) :
    (u.setSeg seg g).sendOwn port destination kind payload = (u.sendOwn port destination kind payload).setSeg seg g := by
  rw [State.sendOwn, State.sendOwn, State.line_setSeg, State.now_setSeg, setLine_setSeg]

theorem sendQueued_setSeg (u : State) (g : Segment) (port : Port) (f : QueuedFrame) :
    (u.setSeg seg g).sendQueued port f = (u.sendQueued port f).setSeg seg g := by
  cases f with
  | page b kind payload => exact sendOwn_setSeg seg u g port b .page payload
  | pass a seq payload => rw [State.sendQueued, State.sendQueued, State.line_setSeg, State.now_setSeg, setLine_setSeg]

/-- A segment after its line unit has started a frame. -/
theorem seg_started (u : LineUnit) : (s.setLine (portFor seg) u).seg seg = s.seg seg := State.seg_setLine ..

theorem openSlot_light (light : e.role.kind = .light) :
    s.openSlot seg e =
      opens seg e (some s.lsc.lampSlot) (ownFrame seg e.addr 0x03 [BitVec.ofNat 8 s.lsc.lampSlot.code] s) (s.seg seg).queue s := by
  have lamp : (s.closeLine seg).lsc.lampSlot = s.lsc.lampSlot := by rw [closeLine_eq, State.setLine_lsc]
  unfold State.openSlot
  simp only [if_pos light, portOfSeg_eq, lamp, sendOwn_closed, seg_started, State.now_setLine]
  rfl

theorem openSlot_poll (other : e.role.kind ≠ .light)
    (nothing : (∀ l, linkAt s.lsc.links e.addr = some l → l.presence ≠ .present) ∨ takeQueued e.addr (s.seg seg).queue = none) :
    s.openSlot seg e = opens seg e none (ownFrame seg e.addr 0x02 [] s) (s.seg seg).queue s := by
  have links : (s.closeLine seg).lsc.links = s.lsc.links := by rw [closeLine_eq, State.setLine_lsc]
  have queue : ((s.closeLine seg).seg seg).queue = (s.seg seg).queue := by rw [closeLine_eq, seg_started]
  have polls : (s.closeLine seg).sendOwn (portFor seg) e.addr .poll [] = _ := sendOwn_closed s seg e.addr .poll []
  unfold State.openSlot
  simp only [if_neg other, portOfSeg_eq, links, queue]
  split
  · next present =>
    rcases nothing with away | none
    · obtain ⟨l, found, here⟩ := (Option.any_eq_true _ _).1 present
      exact absurd (of_decide_eq_true here) (away l found)
    · simp only [none, polls, seg_started, State.now_setLine]
      rfl
  · simp only [polls, seg_started, State.now_setLine]
    rfl

theorem openSlot_queued (other : e.role.kind ≠ .light) {l : Link} (found : linkAt s.lsc.links e.addr = some l)
    (present : l.presence = .present) {f : QueuedFrame} {rest : List QueuedFrame}
    (taken : takeQueued e.addr (s.seg seg).queue = some (f, rest)) :
    s.openSlot seg e = opens seg e none (queuedFrame seg f s) rest s := by
  have links : (s.closeLine seg).lsc.links = s.lsc.links := by rw [closeLine_eq, State.setLine_lsc]
  have segment : (s.closeLine seg).seg seg = s.seg seg := by rw [closeLine_eq, seg_started]
  unfold State.openSlot
  simp only [if_neg other, portOfSeg_eq, links, segment, found, Option.any_some, present, decide_true, if_true, taken,
    sendQueued_setSeg, sendQueued_closed, State.seg_setSeg_self, State.now_setSeg, State.now_setLine, setSeg_setSeg]
  rfl

end

end Sys2Proof.Proofs
end

section
/-! The commands of a slot: SLOT_OPEN, REPLY_WINDOW_OPEN, FRAME_BEGUN and the two ways a slot times out (R3, R9, R10). -/

namespace Sys2Proof.Proofs

open Sys2Proof.Machine Sys2Proof.Claims

theorem stationAt_addr {stations : List StationEntry} {a : Nat} {e : StationEntry} (found : stationAt stations a = some e) :
    e.addr = a := of_decide_eq_true (List.find?_some (p := fun x : StationEntry => decide (x.addr = a)) found)

/-! ### SLOT_OPEN (R9) -/

/-- LSC may open a slot on the segment at a hill time. -/
def MayOpen (now : Time) (seg : Seg) (s : State) : Prop :=
  s.ready = true ∧ (s.seg seg).slot = none ∧ (s.seg seg).silent now = false

theorem silent_iff (g : Segment) (now : Time) : g.silent now = true ↔ ∃ x, g.silentUntil = some x ∧ earlierThan now x = true :=
  Option.any_eq_true _ _

theorem not_silent_iff (g : Segment) (now : Time) :
    g.silent now = false ↔ ∀ x, g.silentUntil = some x → earlierThan now x = false := by
  simp [Segment.silent, Option.any_eq_false]

theorem mayOpen_iff (now : Time) (seg : Seg) (s : State) :
    MayOpen now seg s ↔ (s.ready && (s.seg seg).slot.isNone && !(s.seg seg).silent now) = true := by
  simp [MayOpen, and_assoc]

theorem openNext_shut {s : State} {seg : Seg} (shut : ¬MayOpen s.now seg s) : s.openNext seg = s :=
  if_neg (mt (mayOpen_iff s.now seg s).2 shut)

theorem openNext_none {s : State} {seg : Seg} (may : MayOpen s.now seg s)
    (spent : nextGrant s.tables.stations seg (s.seg seg).granted = none) :
    s.openNext seg = s.setSeg seg { s.seg seg with granted := [] } := by
  unfold State.openNext
  rw [if_pos ((mayOpen_iff s.now seg s).1 may), spent]

theorem openNext_some {s : State} {seg : Seg} (may : MayOpen s.now seg s) {e : StationEntry} {rest : List Nat}
    (next : nextGrant s.tables.stations seg (s.seg seg).granted = some (e, rest)) :
    s.openNext seg = (s.setSeg seg { s.seg seg with granted := rest }).openSlot seg e := by
  unfold State.openNext
  rw [if_pos ((mayOpen_iff s.now seg s).1 may), next]

theorem openNext_idle {s : State} {seg : Seg}
    (idle : s.ready = false ∨ (s.seg seg).slot ≠ none ∨
      (∃ x, (s.seg seg).silentUntil = some x ∧ earlierThan s.now x = true) ∨ (s.seg seg).granted = []) :
    s.openNext seg = s := by
  by_cases may : MayOpen s.now seg s
  · obtain ⟨ready, free, loud⟩ := may
    obtain off | taken | silent | spent := idle
    · cases ready.symm.trans off
    · exact absurd free taken
    · cases loud.symm.trans ((silent_iff _ _).2 silent)
    · rw [openNext_none ⟨ready, free, loud⟩ (by rw [spent]; rfl)]
      conv_rhs => rw [← State.setSeg_seg_self s seg]
      rw [← spent]
  · exact openNext_shut may

theorem nextGrant_passes {stations : List StationEntry} {seg : Seg} {a : Nat} {rest : List Nat}
    (gone : ∀ e, stationAt stations a = some e → e.port ≠ seg) :
    nextGrant stations seg (a :: rest) = nextGrant stations seg rest := by
  rw [nextGrant]
  split
  · next e found => exact if_neg (gone e found)
  · rfl

theorem nextGrant_first {stations : List StationEntry} {seg : Seg} {a : Nat} {rest : List Nat} {e : StationEntry}
    (found : stationAt stations a = some e) (here : e.port = seg) :
    nextGrant stations seg (a :: rest) = some (e, rest) := by
  rw [nextGrant, found]
  exact if_pos here

theorem setSeg_ready (s : State) (p : Seg) (g : Segment) : (s.setSeg p g).ready = s.ready := by cases p <;> rfl

theorem setSeg_tables (s : State) (p : Seg) (g : Segment) : (s.setSeg p g).tables = s.tables := by cases p <;> rfl

/-- A granted station that has left the table or its port is passed over. -/
theorem openNext_passes {s : State} {seg : Seg} {a : Nat} {rest : List Nat} (may : MayOpen s.now seg s)
    (granted : (s.seg seg).granted = a :: rest) (gone : ∀ e, stationAt s.tables.stations a = some e → e.port ≠ seg) :
    s.openNext seg = (s.setSeg seg { s.seg seg with granted := rest }).openNext seg := by
  obtain ⟨ready, free, loud⟩ := may
  have may' : MayOpen (s.setSeg seg { s.seg seg with granted := rest }).now seg
      (s.setSeg seg { s.seg seg with granted := rest }) := by
    rw [State.now_setSeg]
    refine ⟨(setSeg_ready ..).trans ready, ?_, ?_⟩ <;> rw [State.seg_setSeg_self]
    · exact free
    · exact loud
  have same : nextGrant s.tables.stations seg (s.seg seg).granted = nextGrant s.tables.stations seg rest := by
    rw [granted, nextGrant_passes gone]
  cases next : nextGrant s.tables.stations seg rest with
  | none =>
    rw [openNext_none ⟨ready, free, loud⟩ (same.trans next),
      openNext_none may' (by rw [setSeg_tables, State.seg_setSeg_self]; exact next), setSeg_setSeg, State.seg_setSeg_self]
  | some x =>
    rw [openNext_some ⟨ready, free, loud⟩ (same.trans next),
      openNext_some may' (by rw [setSeg_tables, State.seg_setSeg_self]; exact next), setSeg_setSeg, State.seg_setSeg_self]

theorem openNext_opens {s : State} {seg : Seg} {a : Nat} {rest : List Nat} {e : StationEntry} (may : MayOpen s.now seg s)
    (granted : (s.seg seg).granted = a :: rest) (found : stationAt s.tables.stations a = some e) (here : e.port = seg) :
    s.openNext seg = (s.setSeg seg { s.seg seg with granted := rest }).openSlot seg e :=
  openNext_some may (granted ▸ nextGrant_first found here)

/-- What the opened slot of a station with granted stations behind it leaves, whatever its opener is. -/
theorem opens_granted (s : State) (seg : Seg) (e : StationEntry) (lampSent : Option Lamp) (f : Frame) (q : List QueuedFrame)
    (rest : List Nat) (now : Time) :
    opens seg e lampSent f q ((s.setNow now).setSeg seg { s.seg seg with granted := rest }) =
      ((s.setNow now).setLine (portFor seg)
          { counters := (s.line (portFor seg)).counters
            txSeq := (s.line (portFor seg)).txSeq + (if f.kind = 0x05 then 0 else 1)
            shifter := some f
            ahead := closedAhead now seg (s.setNow now)
            dropping := (s.line (portFor seg)).dropping }).setSeg seg
        { s.seg seg with
          granted := rest
          queue := q
          slot := some ⟨e, lampSent, false, none, after now 30, false, false⟩ } := by
  have sending : ((s.setNow now).setSeg seg { s.seg seg with granted := rest }).sending seg = (s.setNow now).sending seg := by
    have last : ((s.setNow now).setSeg seg { s.seg seg with granted := rest }).lastCycleStart = (s.setNow now).lastCycleStart := by
      cases seg <;> rfl
    unfold State.sending
    rw [State.line_setSeg, State.seg_setSeg_self, State.now_setSeg, seg_setNow, last]
  unfold opens started closedAhead
  rw [sending, State.line_setSeg, State.now_setSeg, State.seg_setSeg_self, setLine_setSeg, setSeg_setSeg, line_setNow]
  rfl

end Sys2Proof.Proofs
end

section
/-! SLOT_OPEN, the windows of a slot and its budget (O49). -/

namespace Sys2Proof.Proofs

open Sys2Proof.Machine Sys2Proof.Claims

section
variable {now : Time} {seg : Seg} {s : State}

theorem mayOpen_setNow (ready : s.ready = true) (free : (s.seg seg).slot = none)
    (loud : ∀ x, (s.seg seg).silentUntil = some x → earlierThan now x = false) : MayOpen (s.setNow now).now seg (s.setNow now) := by
  refine ⟨ready, ?_, ?_⟩ <;> rw [seg_setNow]
  · exact free
  · exact (not_silent_iff ..).2 loud

theorem slotOpen_idle (on : s.heldInReset = false)
    (idle : s.ready = false ∨ (s.seg seg).slot ≠ none ∨
      (∃ x, (s.seg seg).silentUntil = some x ∧ earlierThan now x = true) ∨ (s.seg seg).granted = []) :
    exec (.slotOpen now seg) s = .next (s.setNow now).pumpOffice := by
  refine (event_outside_reset now (State.openNext seg) s on).trans ?_
  rw [openNext_idle]
  rw [seg_setNow]
  exact idle

theorem slotOpen_passes (on : s.heldInReset = false) (ready : s.ready = true) (free : (s.seg seg).slot = none)
    (loud : ∀ x, (s.seg seg).silentUntil = some x → earlierThan now x = false) {a : Nat} {rest : List Nat}
    (granted : (s.seg seg).granted = a :: rest) (gone : ∀ e, stationAt s.tables.stations a = some e → e.port ≠ seg) :
    exec (.slotOpen now seg) s = exec (.slotOpen now seg) (s.setSeg seg { s.seg seg with granted := rest }) := by
  have on' : (s.setSeg seg { s.seg seg with granted := rest }).heldInReset = false := by cases seg <;> exact on
  have swap : (s.setSeg seg { s.seg seg with granted := rest }).setNow now =
      (s.setNow now).setSeg seg { (s.setNow now).seg seg with granted := rest } := by cases seg <;> rfl
  refine (event_outside_reset now (State.openNext seg) s on).trans
    (Eq.trans ?_ (event_outside_reset now (State.openNext seg) _ on').symm)
  rw [swap, openNext_passes (s := s.setNow now) (mayOpen_setNow ready free loud) ((seg_setNow ..).symm ▸ granted) gone]

/-- The state in which a slot opens, its station taken out of the grants. -/
def granting (now : Time) (seg : Seg) (rest : List Nat) (s : State) : State :=
  (s.setNow now).setSeg seg { s.seg seg with granted := rest }

theorem granting_line (rest : List Nat) (p : Port) : (granting now seg rest s).line p = s.line p := by
  rw [granting, State.line_setSeg, line_setNow]

theorem granting_queue (rest : List Nat) : ((granting now seg rest s).seg seg).queue = (s.seg seg).queue := by
  rw [granting, State.seg_setSeg_self]

theorem granting_links (rest : List Nat) : (granting now seg rest s).lsc.links = s.lsc.links := State.setSeg_links ..

theorem granting_lamp (rest : List Nat) : (granting now seg rest s).lsc.lampSlot = s.lsc.lampSlot := State.setSeg_lampSlot ..

theorem slotOpen_opens (on : s.heldInReset = false) (ready : s.ready = true) (free : (s.seg seg).slot = none)
    (loud : ∀ x, (s.seg seg).silentUntil = some x → earlierThan now x = false) {a : Nat} {rest : List Nat} {e : StationEntry}
    (granted : (s.seg seg).granted = a :: rest) (found : stationAt s.tables.stations a = some e) (here : e.port = seg) :
    exec (.slotOpen now seg) s = .next ((granting now seg rest s).openSlot seg e).pumpOffice := by
  refine (event_outside_reset now (State.openNext seg) s on).trans ?_
  rw [openNext_opens (s := s.setNow now) (mayOpen_setNow ready free loud) ((seg_setNow ..).symm ▸ granted) found here, seg_setNow,
    granting]

/-- R9, R24: the opener of a station's slot, by what the station is and what is queued for it. -/
def OpenerOf (seg : Seg) (e : StationEntry) (s : State) (f : Frame) (lampSent : Option Lamp) (q : List QueuedFrame) : Prop :=
  f.destination = BitVec.ofNat 8 e.addr ∧ f.source = 0x01 ∧
  (f.kind ≠ 0x05 → f.sequence = (s.line (portFor seg)).txSeq) ∧
  (e.role.kind = .light →
    f.kind = 0x03 ∧ f.payload = [BitVec.ofNat 8 s.lsc.lampSlot.code] ∧ lampSent = some s.lsc.lampSlot ∧
      q = (s.seg seg).queue) ∧
  (e.role.kind ≠ .light →
    lampSent = none ∧
    ((∀ l, linkAt s.lsc.links e.addr = some l → l.presence ≠ .present) ∨ (∀ x ∈ (s.seg seg).queue, x.station ≠ e.addr) →
      f.kind = 0x02 ∧ f.payload = [] ∧ q = (s.seg seg).queue) ∧
    ∀ l before x behind, linkAt s.lsc.links e.addr = some l → l.presence = .present →
      (s.seg seg).queue = before ++ x :: behind → (∀ y ∈ before, y.station ≠ e.addr) → x.station = e.addr →
      q = before ++ behind ∧
        (∀ b kind payload, x = .page b kind payload → f.kind = 0x04 ∧ f.payload = payload) ∧
        (∀ b n payload, x = .pass b n payload → f.kind = 0x05 ∧ f.sequence = n ∧ f.payload = payload))

theorem openerOf_light {e : StationEntry} (light : e.role.kind = .light) :
    OpenerOf seg e s (ownFrame seg e.addr 0x03 [BitVec.ofNat 8 s.lsc.lampSlot.code] s) (some s.lsc.lampSlot)
      (s.seg seg).queue :=
  ⟨rfl, rfl, fun _ => rfl, fun _ => ⟨rfl, rfl, rfl, rfl⟩, fun other => absurd light other⟩

theorem openerOf_poll {e : StationEntry} (other : e.role.kind ≠ .light)
    (nothing : (∀ l, linkAt s.lsc.links e.addr = some l → l.presence ≠ .present) ∨ takeQueued e.addr (s.seg seg).queue = none) :
    OpenerOf seg e s (ownFrame seg e.addr 0x02 [] s) none (s.seg seg).queue := by
  refine ⟨rfl, rfl, fun _ => rfl, fun light => absurd light other, fun _ => ⟨rfl, fun _ => ⟨rfl, rfl, rfl⟩, ?_⟩⟩
  intro l before x behind found present queue first own
  rcases nothing with away | none
  · exact absurd present (away l found)
  · rw [queue, takeQueued_first first own] at none
    cases none

theorem openerOf_queued {e : StationEntry} (other : e.role.kind ≠ .light) {l : Link}
    (found : linkAt s.lsc.links e.addr = some l) (present : l.presence = .present) {f : QueuedFrame} {rest : List QueuedFrame}
    (taken : takeQueued e.addr (s.seg seg).queue = some (f, rest)) :
    OpenerOf seg e s (queuedFrame seg f s) none rest := by
  obtain ⟨before, behind, queue, rfl, own, first⟩ := takeQueued_some taken
  refine ⟨?_, ?_, ?_, fun light => absurd light other, fun _ => ⟨rfl, fun nothing => ?_, ?_⟩⟩
  · cases f <;> exact congrArg (BitVec.ofNat 8) own
  · cases f <;> rfl
  · cases f with
    | page => exact fun _ => rfl
    | pass => exact fun own => absurd rfl own
  · rcases nothing with away | bare
    · exact absurd present (away l found)
    · exact absurd own (bare f (queue ▸ List.mem_append_right before List.mem_cons_self))
  · intro l' before' x behind' _ _ queue' first' own'
    have same : some (x, before' ++ behind') = some (f, before ++ behind) := by
      rw [← takeQueued_first first' own', ← queue', taken]
    obtain ⟨rfl, rest⟩ := Prod.mk.inj (Option.some.inj same)
    refine ⟨rest.symm, ?_, ?_⟩
    · rintro b kind payload rfl
      exact ⟨rfl, rfl⟩
    · rintro b n payload rfl
      exact ⟨rfl, rfl, rfl⟩

/-- Every slot opens with its opener. -/
theorem openSlot_opens (s : State) (seg : Seg) (e : StationEntry) :
    ∃ f lampSent q, s.openSlot seg e = opens seg e lampSent f q s ∧ OpenerOf seg e s f lampSent q := by
  by_cases light : e.role.kind = .light
  · exact ⟨_, _, _, openSlot_light s seg e light, openerOf_light light⟩
  cases taken : takeQueued e.addr (s.seg seg).queue with
  | none => exact ⟨_, _, _, openSlot_poll s seg e light (.inr taken), openerOf_poll light (.inr taken)⟩
  | some x =>
    by_cases here : ∃ l, linkAt s.lsc.links e.addr = some l ∧ l.presence = .present
    · obtain ⟨l, found, present⟩ := here
      exact ⟨_, _, _, openSlot_queued s seg e light found present taken, openerOf_queued light found present taken⟩
    · have away : ∀ l, linkAt s.lsc.links e.addr = some l → l.presence ≠ .present := fun l found present =>
        here ⟨l, found, present⟩
      exact ⟨_, _, _, openSlot_poll s seg e light (.inl away), openerOf_poll light (.inl away)⟩

theorem openerOf_granting {rest : List Nat} {e : StationEntry} {f : Frame} {lampSent : Option Lamp} {q : List QueuedFrame}
    (opener : OpenerOf seg e (granting now seg rest s) f lampSent q) : OpenerOf seg e s f lampSent q := by
  unfold OpenerOf at opener
  rwa [granting_line, granting_queue, granting_links, granting_lamp] at opener

/-! ### The reply window and the budget (R3, R10) -/

theorem openWindow_free (free : (s.seg seg).slot = none) : s.openWindow seg = s := by rw [State.openWindow, free]

theorem closeWindow_free (free : (s.seg seg).slot = none) : s.closeWindow seg = s := by rw [State.closeWindow, free]

theorem endBudget_free (free : (s.seg seg).slot = none) : s.endBudget seg = s := by rw [State.endBudget, free]

theorem beginFrame_free (free : (s.seg seg).slot = none) :
    s.beginFrame seg = s.setLine (portFor seg) { s.line (portFor seg) with dropping := false } := by
  rw [State.beginFrame, portOfSeg_eq]
  simp only [State.seg_setLine, free]

variable {slot : Slot} (taken : (s.seg seg).slot = some slot)
include taken

theorem beginFrame_slot :
    s.beginFrame seg = (s.setLine (portFor seg) { s.line (portFor seg) with dropping := false }).setSeg seg
      { s.seg seg with slot := some { slot with frameBegun := true, windowClose := none } } := by
  rw [State.beginFrame, portOfSeg_eq]
  simp only [State.seg_setLine, taken]

theorem openWindow_again (sent : slot.openerSent = true) : s.openWindow seg = s := by
  rw [State.openWindow, taken]
  exact if_pos sent

theorem openWindow_sent (sent : slot.openerSent = false) :
    s.openWindow seg =
      (s.setLine (portFor seg) { s.line (portFor seg) with shifter := none, ahead := .delimiter s.now }).setSeg seg
        { s.seg seg with slot := some { slot with
            openerSent := true
            windowClose := if slot.frameBegun then none else some (after s.now 10) } } := by
  rw [State.openWindow, taken, portOfSeg_eq]
  simp only [sent, Bool.false_eq_true, if_false, State.seg_setLine]
  rfl

theorem closeWindow_due (due : slot.windowClose = some s.now) (none : slot.frameBegun = false) :
    s.closeWindow seg = State.endSlot seg false (s.countFailure (portFor seg) .slotTimeout) := by
  rw [State.closeWindow, taken, portOfSeg_eq]
  exact if_pos ⟨due, none⟩

theorem closeWindow_early (early : slot.windowClose ≠ some s.now) : s.closeWindow seg = s := by
  rw [State.closeWindow, taken]
  exact if_neg fun due => early due.1

theorem endBudget_due (due : slot.budgetEnd = s.now) :
    s.endBudget seg = State.endSlot seg false
      (if slot.frameBegun then s.cutFrame (portFor seg) else s.countFailure (portFor seg) .slotTimeout) := by
  rw [State.endBudget, taken, portOfSeg_eq]
  exact if_pos due

theorem endBudget_early (early : slot.budgetEnd ≠ s.now) : s.endBudget seg = s := by
  rw [State.endBudget, taken]
  exact if_neg early

end

/-- Settles O49: a slot opens with its opener, by the station and what is queued for it; it times out by its reply window or its
budget. -/
theorem slotsOpenAndTimeOut : Obligations.SlotsOpenAndTimeOut := by
  refine ⟨fun now seg s on => ⟨slotOpen_idle on, fun a rest ready free loud granted gone =>
    slotOpen_passes on ready free loud granted gone⟩, ?_, ?_, ?_⟩
  · intro now seg s a rest e on ready free loud granted found here
    obtain ⟨f, lampSent, q, opened, opener⟩ := openSlot_opens (granting now seg rest s) seg e
    obtain rfl := stationAt_addr found
    refine ⟨_, f, lampSent, q, closedAhead now seg (s.setNow now), slotOpen_opens on ready free loud granted found here,
      closedAhead_of_sends, closedAhead_of_quiet, ?_, openerOf_granting opener⟩
    rw [opened]
    exact congrArg State.pumpOffice (opens_granted s seg e lampSent f q rest now)
  · intro now seg s on free
    have free' : ((s.setNow now).seg seg).slot = none := by rw [seg_setNow, free]
    refine ⟨(event_outside_reset now (State.openWindow seg) s on).trans ?_,
      (event_outside_reset now (State.closeWindow seg) s on).trans ?_,
      (event_outside_reset now (State.endBudget seg) s on).trans ?_,
      (event_outside_reset now (State.beginFrame seg) s on).trans ?_⟩
    · rw [openWindow_free free']
    · rw [closeWindow_free free']
    · rw [endBudget_free free']
    · rw [beginFrame_free free', line_setNow]
  · intro now seg s slot on taken
    have taken' : ((s.setNow now).seg seg).slot = some slot := by rw [seg_setNow, taken]
    refine ⟨fun sent => (event_outside_reset now (State.openWindow seg) s on).trans ?_,
      fun sent => (event_outside_reset now (State.openWindow seg) s on).trans ?_,
      (event_outside_reset now (State.beginFrame seg) s on).trans ?_,
      fun due none => (event_outside_reset now (State.closeWindow seg) s on).trans ?_,
      fun early => (event_outside_reset now (State.closeWindow seg) s on).trans ?_,
      fun due none => (event_outside_reset now (State.endBudget seg) s on).trans ?_,
      fun due begun => ⟨_, rfl, (event_outside_reset now (State.endBudget seg) s on).trans ?_⟩,
      fun early => (event_outside_reset now (State.endBudget seg) s on).trans ?_⟩
    · rw [openWindow_again taken' sent]
    · rw [openWindow_sent taken' sent, line_setNow, seg_setNow]
      rfl
    · rw [beginFrame_slot taken', line_setNow, seg_setNow]
    · rw [closeWindow_due taken' due none]
    · rw [closeWindow_early taken' early]
    · rw [endBudget_due taken' due, none]
      rfl
    · rw [endBudget_due taken' due, begun]
      rfl
    · rw [endBudget_early taken' early]

end Sys2Proof.Proofs
end

section
/-! What a presence change does: its report, STATION_CHANGE, and the units that act on the light and on the gate (R12, R101, R118, R120). -/

namespace Sys2Proof.Proofs

open Sys2Proof.Machine Sys2Proof.Claims

/-! ### A view of the conditions that presence moves -/

/-- The conditions, with nothing of them but what a presence change is held to. -/
def presenceConditions (c : Conditions) : Conditions :=
  { Conditions.afterReset false with
    stationChange := { Condition.clear false with i := c.stationChange.i }
    gateFrozen := .clear c.gateFrozen.v
    lampMismatch := .clear c.lampMismatch.v }

/-- A state without what reports and pages change, and of its conditions only those that presence moves. -/
def noted (s : State) : State := { unshown s with conditions := presenceConditions s.conditions }

/-- Two states that agree but for reports, pages and the other conditions. -/
def ButNoted (u t : State) : Prop := noted t = noted u

theorem butNoted_refl (u : State) : ButNoted u u := rfl

theorem butNoted_trans {u v t : State} (h : ButNoted u v) (h' : ButNoted v t) : ButNoted u t := Eq.trans h' h

theorem butNoted_of_shown {u t : State} (h : ButShown u t) : ButNoted u t :=
  show noted (unshown t) = noted (unshown u) from congrArg noted (butShown_iff.1 h)

theorem butNoted_of_reports {u t : State} (h : ButReports u t) : ButNoted u t := butNoted_of_shown (butShown_of_reports h)

/-- A change of what is not hidden acts on both states. -/
theorem butNoted_map {u t : State} (f : State → State) (h : ButNoted u t) (commutes : ∀ s, noted (f s) = noted (f (noted s))) :
    ButNoted (f u) (f t) := by
  rw [ButNoted, commutes t, commutes u, h]

/-- What is not hidden is the same in both states. -/
theorem butNoted_same {α : Type} {u t : State} (f : State → α) (h : ButNoted u t) (seen : ∀ s, f s = f (noted s)) :
    f t = f u := by
  rw [seen t, h, ← seen u]

theorem setV_noted_gateFrozen (s : State) (v : Bool) :
    ButNoted { s with conditions := { s.conditions with gateFrozen := { s.conditions.gateFrozen with v := v } } }
      (s.setV .gateFrozen v) := by
  have value : (s.setV .gateFrozen v).conditions.gateFrozen.v = v := s.setV_value .gateFrozen v (by decide)
  obtain ⟨y, lost, o, same⟩ := s.setV_touches .gateFrozen v
  rw [same] at value ⊢
  change y.v = v at value
  rw [← value]
  rfl

/-! ### What is stationChanged (R12) -/

/-- A state with STATION_CHANGE indicated. -/
def stationChanged (s : State) : State :=
  { s with conditions := { s.conditions with stationChange := { s.conditions.stationChange with i := true } } }

section
variable (s : State) (addr : Nat) (old new : Presence)

theorem reportStation_butReports : ButReports s (s.reportStation addr old new) := by
  unfold State.reportStation
  split
  · exact offerReport_butReports _ _
  · exact butReports_refl _

theorem reportStation_gains : Gains 1 s (s.reportStation addr old new) := by
  unfold State.reportStation
  split
  · exact State.offerReport_gains _ _
  · exact .refl s 1

theorem announcePresence_noted : ButNoted (stationChanged s) (s.announcePresence addr old new) := by
  have raised : ((s.announcePresence addr old new).conditions.get .stationChange).i = true :=
    (State.raise_indicates _ .stationChange addr (by decide)).1
  obtain ⟨y, lost, o, same⟩ := (s.reportStation addr old new).raise_touches .stationChange addr
  refine butNoted_trans (butNoted_map stationChanged (butNoted_of_reports (reportStation_butReports s addr old new)) fun _ => rfl) ?_
  rw [State.announcePresence, same] at raised ⊢
  change y.i = true at raised
  change noted _ = noted _
  unfold noted presenceConditions stationChanged
  simp only [Conditions.set, raised]
  rfl

theorem announcePresence_gains : Gains 2 s (s.announcePresence addr old new) :=
  (reportStation_gains s addr old new).trans (State.raise_gains _ .stationChange addr)

theorem announcePresence_reports (enabled : s.enables.station = true) (room : s.office.count < 60) :
    .station addr old new ∈ (s.announcePresence addr old new).office.reports := by
  refine (State.raise_gains (s.reportStation addr old new) .stationChange addr).keeps_report ?_
  rw [State.reportStation, if_pos enabled]
  exact State.offerReport_waits _ _ room

/-! ### The loss of the light (R118, R120) -/

/-- A state as it stands once the light is lost, before its reports and pages. -/
def inLost (s : State) : State :=
  match s.jtb.inState fun x => decide (x = .cleared ∨ x = .green) with
  | none => s
  | some (k, r) => inFreed k r true (lampFreed k r s) s

theorem loseLight_noted : ButNoted (inLost s) s.loseLight := by
  unfold inLost State.loseLight
  cases found : s.jtb.inState fun x => decide (x = .cleared ∨ x = .green) with
  | none => exact butNoted_refl s
  | some x => exact butNoted_of_shown (withdraw_shown .lightLost (get_of_inState found)).1

theorem loseLight_gains : Gains 2 s s.loseLight := by
  unfold State.loseLight
  split
  · exact .refl s 2
  · next k r found =>
    have freed := freeRecord_gains .lightLost true (get_of_inState found)
    exact freed.trans (.of_eq (withdraw_office .lightLost (get_of_inState found)) 0)

theorem inLost_none {s : State} (none : ∀ j y, s.jtb.get j = some y → y.state ≠ .cleared ∧ y.state ≠ .green) : inLost s = s := by
  have lost : (s.jtb.inState fun x => decide (x = .cleared ∨ x = .green)) = .none :=
    JumpTable.inState_none_iff.2 fun k r held => decide_eq_false (not_or.2 (none k r held))
  rw [inLost, lost]

theorem inState_start {t : JumpTable} {k : Fin 4} {r : JumpRecord} (one : OneActive t) (held : t.get k = some r)
    (start : r.state = .cleared ∨ r.state = .green) :
    (t.inState fun x => decide (x = .cleared ∨ x = .green)) = some (k, r) := by
  refine inState_of_active one (fun x meets => ?_) held (decide_eq_true start)
  obtain rfl | rfl := of_decide_eq_true meets <;> rfl

theorem inLost_start {s : State} {k : Fin 4} {r : JumpRecord} (one : OneActive s.jtb) (held : s.jtb.get k = some r)
    (start : r.state = .cleared ∨ r.state = .green) : inLost s = inFreed k r true (lampFreed k r s) s := by
  rw [inLost, inState_start one held start]

theorem loseLight_reports {s : State} {k : Fin 4} {r : JumpRecord} (one : OneActive s.jtb) (held : s.jtb.get k = some r)
    (start : r.state = .cleared ∨ r.state = .green) (enabled : s.enables.jump = true) (room : s.office.count < 60) :
    .jump r.bib (some k) none .lightLost .none r.flags ∈ s.loseLight.office.reports := by
  rw [State.loseLight, inState_start one held start]
  exact withdraw_reports .lightLost held enabled room

/-- A state with no echo run, and LAMP_MISMATCH down. -/
def echoEnded (s : State) : State := { s with stu := noEcho s.stu, conditions := noMismatch s.conditions }

/-- A state as it stands once STU has met a presence change of the light, before its reports and pages. -/
def inLight (old new : Presence) (s : State) : State :=
  if new = .absent then echoEnded (if old = .present then inLost s else s) else if old = .present then inLost s else s

theorem lightChanged_noted : ButNoted (inLight old new s) (s.lightChanged old new) := by
  have lost : ButNoted (if old = .present then inLost s else s) (if old = .present then s.loseLight else s) := by
    split
    · exact loseLight_noted s
    · exact butNoted_refl s
  unfold inLight State.lightChanged
  dsimp only
  by_cases away : new = .absent
  · rw [if_pos away, if_pos away, endEcho_eq]
    exact butNoted_map echoEnded lost fun _ => rfl
  · rw [if_neg away, if_neg away]
    exact lost

theorem lightChanged_gains : Gains 2 s (s.lightChanged old new) := by
  have lost : Gains 2 s (if old = .present then s.loseLight else s) := by
    split
    · exact loseLight_gains s
    · exact .refl s 2
  unfold State.lightChanged
  dsimp only
  split
  · rw [endEcho_eq]
    exact lost.trans (.of_eq rfl 0)
  · exact lost

/-! ### The gate (R101) -/

/-- STU with no gate candidate. -/
def noCandidate (u : StartUnit) : StartUnit := { u with candidate := none, candidateCount := 0 }

/-- A state as it stands once STU has met a presence change of the gate, before its reports. -/
def inGate (new : Presence) (s : State) : State :=
  { s with
    stu := if new = .present then noCandidate s.stu else s.stu
    conditions := { s.conditions with gateFrozen := { s.conditions.gateFrozen with v := decide (new ≠ .present) } } }

theorem gateChanged_noted : ButNoted (inGate new s) (s.gateChanged new) := by
  unfold inGate State.gateChanged
  split
  · exact setV_noted_gateFrozen { s with stu := noCandidate s.stu } _
  · exact setV_noted_gateFrozen s _

theorem gateChanged_gains : Gains 1 s (s.gateChanged new) := by
  unfold State.gateChanged
  have quiet : Gains 0 s (if new = .present then { s with stu := { s.stu with candidate := none, candidateCount := 0 } } else s) := by
    split <;> exact .of_eq rfl 0
  exact quiet.trans (State.setV_gains _ _ _)

/-! ### A presence change -/

/-- A state as it stands once a presence change has been met, before its reports and pages. -/
def inMoved (kind : StationKind) (old new : Presence) (s : State) : State :=
  if kind = .light then inLight old new (stationChanged s)
  else if kind = .gate then inGate new (stationChanged s)
  else stationChanged s

end

section
variable (s : State) (addr : Nat) (kind : StationKind) (old new : Presence)

theorem inLost_commutes (s : State) : noted (inLost s) = noted (inLost (noted s)) := by
  unfold inLost
  have jtb : (noted s).jtb = s.jtb := rfl
  rw [jtb]
  split
  · rfl
  · rfl

theorem inLight_commutes (s : State) : noted (inLight old new s) = noted (inLight old new (noted s)) := by
  unfold inLight
  split
  · split
    · exact butNoted_map (u := inLost (noted s)) echoEnded (inLost_commutes s) fun _ => rfl
    · rfl
  · split
    · exact inLost_commutes s
    · rfl

theorem presenceChanged_noted : ButNoted (inMoved kind old new s) (s.presenceChanged addr kind old new) := by
  have said := announcePresence_noted s addr old new
  unfold inMoved State.presenceChanged
  cases kind with
  | light =>
    exact butNoted_trans (butNoted_map (inLight old new) said (inLight_commutes old new)) (lightChanged_noted _ old new)
  | gate => exact butNoted_trans (butNoted_map (inGate new) said fun _ => rfl) (gateChanged_noted _ new)
  | _ => exact said

theorem presenceChanged_gains_after :
    Gains 2 (s.announcePresence addr old new) (s.presenceChanged addr kind old new) := by
  unfold State.presenceChanged
  cases kind with
  | light => exact lightChanged_gains _ old new
  | gate => exact (gateChanged_gains (s.announcePresence addr old new) new).trans (.refl _ 1)
  | _ => exact .refl _ 2

theorem presenceChanged_gains : Gains 4 s (s.presenceChanged addr kind old new) :=
  (announcePresence_gains s addr old new).trans (presenceChanged_gains_after s addr kind old new)

theorem presenceChanged_reports (enabled : s.enables.station = true) (room : s.office.count < 60) :
    .station addr old new ∈ (s.presenceChanged addr kind old new).office.reports :=
  (presenceChanged_gains_after s addr kind old new).keeps_report (announcePresence_reports s addr old new enabled room)

/-! ### What a presence change moves -/

theorem inLost_scheduler : ∃ lamp, (inLost s).lsc = { s.lsc with lampSlot := lamp } := by
  unfold inLost
  split
  · exact ⟨s.lsc.lampSlot, rfl⟩
  · exact ⟨_, rfl⟩

theorem inMoved_scheduler : ∃ lamp, (inMoved kind old new s).lsc = { s.lsc with lampSlot := lamp } := by
  unfold inMoved
  split
  · unfold inLight
    split <;> split
    · exact inLost_scheduler (stationChanged s)
    · exact ⟨_, rfl⟩
    · exact inLost_scheduler (stationChanged s)
    · exact ⟨_, rfl⟩
  · split <;> exact ⟨_, rfl⟩

/-- Nothing of LSC moves but the lamp slot and, at most, the pages that wait. -/
theorem presenceChanged_scheduler :
    ∃ lamp q, (s.presenceChanged addr kind old new).lsc =
      { s.lsc with lampSlot := lamp, segS := { s.lsc.segS with queue := q } } := by
  obtain ⟨lamp, moved⟩ := inMoved_scheduler s kind old new
  have same := scheduler_of_same (butNoted_same (fun v => { v.lsc with segS := { v.lsc.segS with queue := [] } })
    (presenceChanged_noted s addr kind old new) fun _ => rfl)
  rw [moved] at same
  exact ⟨lamp, _, same⟩

theorem presenceChanged_lsc_of_other (other : kind ≠ .light) : (s.presenceChanged addr kind old new).lsc = s.lsc := by
  unfold State.presenceChanged
  cases kind with
  | light => exact absurd rfl other
  | gate =>
    dsimp only
    rw [State.gateChanged, State.setV_lsc]
    split <;> exact State.announcePresence_lsc ..
  | _ => exact State.announcePresence_lsc ..

end

end Sys2Proof.Proofs
end

section
/-! The end of a slot moves presence and what hangs on it (O48). -/

namespace Sys2Proof.Proofs

open Sys2Proof.Machine Sys2Proof.Claims

/-! ### Links -/

theorem linkAt_addr {links : List Link} {a : Nat} {l : Link} (found : linkAt links a = some l) : l.addr = a :=
  of_decide_eq_true (List.find?_some (p := fun x : Link => decide (x.addr = a)) found)

theorem linkAt_setLink (s : State) (l : Link) (a : Nat) :
    linkAt (s.setLink l).lsc.links a = (linkAt s.lsc.links a).map fun x => if x.addr = l.addr then l else x := by
  have addr : ∀ x : Link, (if x.addr = l.addr then l else x).addr = x.addr := by
    intro x
    split
    · next same => exact same.symm
    · rfl
  change (s.lsc.links.map _).find? _ = _
  rw [List.find?_map]
  congr 1
  exact congrArg (s.lsc.links.find? ·) (funext fun x => by rw [Function.comp, addr])

theorem linkAt_setLink_self {s : State} {l x : Link} {a : Nat} (found : linkAt s.lsc.links a = some l) (addr : x.addr = a) :
    linkAt (s.setLink x).lsc.links a = some x := by
  rw [linkAt_setLink, found, Option.map_some, if_pos ((linkAt_addr found).trans addr.symm)]

theorem linkAt_setLink_other {s : State} {x : Link} {a : Nat} (apart : a ≠ x.addr) :
    linkAt (s.setLink x).lsc.links a = linkAt s.lsc.links a := by
  rw [linkAt_setLink]
  cases found : linkAt s.lsc.links a with
  | none => rfl
  | some l => rw [Option.map_some, if_neg fun same => apart ((linkAt_addr found).symm.trans same)]

/-- Table 2-5, as the model has it. -/
theorem afterSlot_eq (limit : Nat) (good : Bool) (l : Link) : l.afterSlot limit good = presenceAfter limit good l := by
  unfold Link.afterSlot presenceAfter
  cases presence : l.presence <;> cases good <;> dsimp only
  · by_cases run : l.missRun + 1 < limit
    · rw [if_neg (Nat.not_le.2 run), if_pos run, if_pos run]
    · rw [if_pos (Nat.not_lt.1 run), if_neg run, if_neg run]
  · by_cases run : l.goodRun + 1 < 2
    · rw [if_neg (Nat.not_le.2 run), if_pos run, if_pos run]
    · rw [if_pos (Nat.not_lt.1 run), if_neg run, if_neg run]

theorem presenceAfter_addr (limit : Nat) (good : Bool) (l : Link) : (presenceAfter limit good l).addr = l.addr := by
  unfold presenceAfter
  split <;> rfl

/-! ### The end of a slot -/

/-- A state whose segment has no slot open and where a link is replaced. -/
def slotFreed (seg : Seg) (x : Link) (s : State) : State := (s.setSeg seg { s.seg seg with slot := none }).setLink x

section
variable {seg : Seg} {good : Bool} {s : State} {slot : Slot} {l x : Link} (taken : (s.seg seg).slot = some slot)
include taken

theorem endSlot_orphan (orphan : slot.orphan = true) :
    State.endSlot seg good s = s.setSeg seg { s.seg seg with slot := none } := by
  simp only [State.endSlot, taken, orphan, if_true]

variable (own : slot.orphan = false) (found : linkAt s.lsc.links slot.entry.addr = some l)
  (after : x = presenceAfter slot.entry.missLimit good l)
include own found after

theorem endSlot_eq :
    State.endSlot seg good s =
      if x.presence = l.presence then slotFreed seg x s
      else (slotFreed seg x s).presenceChanged slot.entry.addr slot.entry.role.kind l.presence x.presence := by
  have found' : linkAt (s.setSeg seg { s.seg seg with slot := none }).lsc.links slot.entry.addr = some l := by
    rw [State.setSeg_links]
    exact found
  subst after
  simp only [State.endSlot, taken, own, Bool.false_eq_true, if_false, State.applyOutcome, found', afterSlot_eq]
  rfl

/-- Nothing of LSC is left otherwise than with the slot freed, but the lamp slot and, at most, the pages that wait. -/
theorem endSlot_scheduler :
    ∃ lamp q, (State.endSlot seg good s).lsc =
      { (slotFreed seg x s).lsc with lampSlot := lamp, segS := { (slotFreed seg x s).lsc.segS with queue := q } } := by
  rw [endSlot_eq taken own found after]
  split
  · exact ⟨_, _, rfl⟩
  · exact presenceChanged_scheduler ..

end

theorem slotFreed_slot (seg : Seg) (x : Link) (s : State) : ((slotFreed seg x s).seg seg).slot = none := by
  cases seg <;> rfl

theorem slotFreed_links (seg : Seg) (x : Link) (s : State) (a : Nat) :
    linkAt (slotFreed seg x s).lsc.links a = linkAt (s.setLink x).lsc.links a := by
  rw [slotFreed, linkAt_setLink, linkAt_setLink, State.setSeg_links]

/-- A slot's end leaves a state as it stands but for the slot and the link, and for what a presence change does. -/
theorem slotFreed_same {α : Type} (f : State → α) (seg : Seg) (x : Link) (s : State) (seen : ∀ s lsc, f { s with lsc := lsc } = f s) :
    f (slotFreed seg x s) = f s := by
  cases seg <;> exact seen s _

theorem slot_of_scheduler {t u : State} {lamp : Lamp} {q : List QueuedFrame} (seg : Seg)
    (same : t.lsc = { u.lsc with lampSlot := lamp, segS := { u.lsc.segS with queue := q } }) :
    (t.seg seg).slot = (u.seg seg).slot := by
  cases seg
  · exact congrArg (·.segT.slot) same
  · exact congrArg (·.segS.slot) same

section
variable (s : State) (addr : Nat) (old new : Presence)

theorem presenceChanged_jtb_of_other {kind : StationKind} (other : kind ≠ .light) :
    (s.presenceChanged addr kind old new).jtb = s.jtb ∧ (s.presenceChanged addr kind old new).startList = s.startList := by
  have same := presenceChanged_noted s addr kind old new
  have moved : (inMoved kind old new s).jtb = s.jtb ∧ (inMoved kind old new s).startList = s.startList := by
    rw [inMoved, if_neg other]
    split <;> exact ⟨rfl, rfl⟩
  exact ⟨(butNoted_same (·.jtb) same fun _ => rfl).trans moved.1, (butNoted_same (·.startList) same fun _ => rfl).trans moved.2⟩

theorem presenceChanged_gate :
    (s.presenceChanged addr .gate old new).conditions.gateFrozen.v = decide (new ≠ .present) ∧
      (s.presenceChanged addr .gate old new).stu = if new = .present then noCandidate s.stu else s.stu := by
  have same := presenceChanged_noted s addr .gate old new
  exact ⟨butNoted_same (·.conditions.gateFrozen.v) same fun _ => rfl, butNoted_same (·.stu) same fun _ => rfl⟩

theorem inMoved_indicates (kind : StationKind) : (inMoved kind old new s).conditions.stationChange.i = true := by
  unfold inMoved inLight inLost
  split
  · split <;> split
    · split <;> rfl
    · rfl
    · split <;> rfl
    · rfl
  · split <;> rfl

theorem presenceChanged_indicates (kind : StationKind) :
    (s.presenceChanged addr kind old new).conditions.stationChange.i = true :=
  (butNoted_same (·.conditions.stationChange.i) (presenceChanged_noted s addr kind old new) fun _ => rfl).trans
    (inMoved_indicates s old new kind)

/-- What the loss of the light leaves of the records and the start list. -/
theorem inMoved_light :
    (inMoved .light .present new s).jtb = (inLost (stationChanged s)).jtb ∧
      (inMoved .light .present new s).startList = (inLost (stationChanged s)).startList := by
  unfold inMoved inLight
  split
  · split <;> exact ⟨rfl, rfl⟩
  · contradiction

theorem presenceChanged_light :
    (s.presenceChanged addr .light .present new).jtb = (inLost (stationChanged s)).jtb ∧
      (s.presenceChanged addr .light .present new).startList = (inLost (stationChanged s)).startList := by
  have same := presenceChanged_noted s addr .light .present new
  obtain ⟨jtb, list⟩ := inMoved_light s new
  exact ⟨(butNoted_same (·.jtb) same fun _ => rfl).trans jtb, (butNoted_same (·.startList) same fun _ => rfl).trans list⟩

end

/-- Settles O48: a slot's end moves its station's presence by Table 2-5, and a change reaches the units that act on it. -/
theorem presenceFollowsSlots : Obligations.PresenceFollowsSlots := by
  refine ⟨fun seg good s => ⟨(State.endBegun_spec s seg good).1, fun slot taken => ⟨fun begun => ?_, fun before => ?_,
    endSlot_orphan taken⟩⟩, ?_⟩
  · rw [(State.endBegun_spec s seg good).2 slot taken, if_pos begun]
  · rw [(State.endBegun_spec s seg good).2 slot taken, before]
    rfl
  intro seg good s slot l x taken own found after
  obtain ⟨-, -, -, -, -, lineT, lineS, -, tables, hck, wnd, results, competition, -⟩ := State.endSlot_spares s seg good
  obtain ⟨lamp, q, scheduler⟩ := endSlot_scheduler taken own found after
  have eq := endSlot_eq taken own found after
  have addr : x.addr = slot.entry.addr := by rw [after, presenceAfter_addr, linkAt_addr found]
  have links : ∀ a, linkAt (State.endSlot seg good s).lsc.links a = linkAt (s.setLink x).lsc.links a := fun a => by
    rw [scheduler]
    exact slotFreed_links seg x s a
  have moved (changed : x.presence ≠ l.presence) : State.endSlot seg good s =
      (slotFreed seg x s).presenceChanged slot.entry.addr slot.entry.role.kind l.presence x.presence := by
    rw [eq, if_neg changed]
  refine ⟨(slot_of_scheduler seg scheduler).trans (slotFreed_slot seg x s), (links _).trans (linkAt_setLink_self found addr),
    fun a apart => (links a).trans (linkAt_setLink_other (addr ▸ apart)), hck, tables, results, competition, wnd, lineT, lineS,
    fun same => ?_, fun changed => ?_, fun other => ?_, fun gate changed => ?_, fun k r one light present changed held => ?_⟩
  · rw [eq, if_pos same]
    exact ⟨slotFreed_same (·.office) seg x s fun _ _ => rfl, slotFreed_same (·.conditions) seg x s fun _ _ => rfl,
      slotFreed_same (·.stu) seg x s fun _ _ => rfl, slotFreed_same (·.jtb) seg x s fun _ _ => rfl⟩
  · rw [moved changed]
    refine ⟨presenceChanged_indicates .., fun enabled room => presenceChanged_reports _ _ _ _ _ ?_ ?_⟩
    · rw [slotFreed_same (·.enables) seg x s fun _ _ => rfl]
      exact enabled
    · rw [slotFreed_same (·.office) seg x s fun _ _ => rfl]
      exact room
  · have jtb := slotFreed_same (·.jtb) seg x s fun _ _ => rfl
    have list := slotFreed_same (·.startList) seg x s fun _ _ => rfl
    rw [eq]
    split
    · exact ⟨jtb, list⟩
    · obtain ⟨jtb', list'⟩ := presenceChanged_jtb_of_other (slotFreed seg x s) slot.entry.addr l.presence x.presence other
      exact ⟨jtb'.trans jtb, list'.trans list⟩
  · have stu := slotFreed_same (·.stu) seg x s fun _ _ => rfl
    obtain ⟨frozen, stu'⟩ := presenceChanged_gate (slotFreed seg x s) slot.entry.addr l.presence x.presence
    rw [moved changed, gate, stu']
    refine ⟨frozen, fun here => ?_, fun away => ?_⟩
    · rw [if_pos here, stu]
      rfl
    · rw [if_neg away, stu]
  · have jtb : (stationChanged (slotFreed seg x s)).jtb = s.jtb := slotFreed_same (·.jtb) seg x s fun _ _ => rfl
    have list : (stationChanged (slotFreed seg x s)).startList = s.startList := slotFreed_same (·.startList) seg x s fun _ _ => rfl
    obtain ⟨jtb', list'⟩ := presenceChanged_light (slotFreed seg x s) slot.entry.addr x.presence
    rw [moved (present ▸ changed), light, present, jtb', list']
    refine ⟨fun start => ?_, fun none => ?_⟩
    · rw [inLost_start (jtb ▸ one) (jtb ▸ held) start, inFreed, jtb, list]
      exact ⟨rfl, rfl⟩
    · rw [inLost_none (jtb ▸ none)]
      exact ⟨jtb, list⟩

end Sys2Proof.Proofs
end

section
/-! RESTART of a segment: its stations become ABSENT one by one (R26). -/

namespace Sys2Proof.Proofs

open Sys2Proof.Machine Sys2Proof.Claims

/-! ### One station (R26) -/

/-- A link of a station that has become ABSENT, both runs 0. -/
def absentLink (l : Link) : Link := ⟨l.addr, .absent, 0, 0⟩

theorem absentStation_unlinked {s : State} {e : StationEntry} (none : linkAt s.lsc.links e.addr = none) :
    s.absentStation e = s := by rw [State.absentStation, none]

theorem absentStation_again {s : State} {e : StationEntry} {l : Link} (found : linkAt s.lsc.links e.addr = some l)
    (absent : l.presence = .absent) : s.absentStation e = s.setLink (absentLink l) := by
  rw [State.absentStation, found]
  exact if_pos absent

theorem absentStation_moved {s : State} {e : StationEntry} {l : Link} (found : linkAt s.lsc.links e.addr = some l)
    (here : l.presence ≠ .absent) :
    s.absentStation e = (s.setLink (absentLink l)).presenceChanged e.addr e.role.kind l.presence .absent := by
  rw [State.absentStation, found]
  exact if_neg here

/-- What the stations of a list leave, at most `n` of them, one by one made ABSENT. -/
def Absents (n : Nat) (u v : State) : Prop :=
  Spares u v ∧ Gains (4 * n) u v ∧
    (∃ links lamp q, v.lsc = { u.lsc with links := links, lampSlot := lamp, segS := { u.lsc.segS with queue := q } }) ∧
    (u.conditions.stationChange.i = true → v.conditions.stationChange.i = true) ∧
    (u.conditions.gateFrozen.v = true → v.conditions.gateFrozen.v = true) ∧
    (u.conditions.lampMismatch.v = false → v.conditions.lampMismatch.v = false) ∧
    (u.stu.echoRun = 0 → v.stu.echoRun = 0)

theorem absents_refl (u : State) : Absents 0 u u := ⟨.refl u, .refl u _, ⟨_, _, _, rfl⟩, id, id, id, id⟩

theorem absents_trans {m n : Nat} {u v w : State} (first : Absents m u v) (second : Absents n v w) : Absents (m + n) u w := by
  obtain ⟨spares, gains, ⟨_, _, _, lsc⟩, change, gate, light, echo⟩ := first
  obtain ⟨spares', gains', ⟨links, lamp, q, lsc'⟩, change', gate', light', echo'⟩ := second
  refine ⟨spares.trans spares', Nat.mul_add 4 m n ▸ gains.trans gains', ⟨links, lamp, q, ?_⟩, change' ∘ change, gate' ∘ gate,
    light' ∘ light, echo' ∘ echo⟩
  rw [lsc', lsc]

theorem setLink_absents (s : State) (l : Link) : Absents 0 s (s.setLink l) :=
  ⟨by simp [Spares], .of_eq rfl _, ⟨_, s.lsc.lampSlot, s.lsc.segS.queue, rfl⟩, id, id, id, id⟩

section
variable (s : State) (addr : Nat) (kind : StationKind) (old : Presence)

theorem inLost_conditions (s : State) : (inLost s).conditions = s.conditions ∧ (inLost s).stu.echoRun = s.stu.echoRun := by
  unfold inLost
  split
  · exact ⟨rfl, rfl⟩
  · next k r _ =>
    refine ⟨rfl, ?_⟩
    change (if r.state.onBar then barLeft s.stu else s.stu).echoRun = _
    split <;> rfl

/-- A state with its light lost when it stood PRESENT. -/
def lostFrom (old : Presence) (s : State) : State := if old = .present then inLost s else s

theorem inLight_absent : inLight old .absent s = echoEnded (lostFrom old s) := if_pos rfl

theorem lostFrom_conditions : (lostFrom old s).conditions = s.conditions ∧ (lostFrom old s).stu.echoRun = s.stu.echoRun := by
  unfold lostFrom
  split
  · exact inLost_conditions s
  · exact ⟨rfl, rfl⟩

theorem inMoved_light_absent : inMoved .light old .absent s = echoEnded (lostFrom old (stationChanged s)) := inLight_absent ..

/-- What the loss of a station leaves of the conditions, and of the echo run. -/
theorem inMoved_absent (kind : StationKind) :
    (inMoved kind old .absent s).conditions.gateFrozen.v = (if kind = .gate then true else s.conditions.gateFrozen.v) ∧
      (inMoved kind old .absent s).conditions.lampMismatch.v = (if kind = .light then false else s.conditions.lampMismatch.v) ∧
      (inMoved kind old .absent s).stu.echoRun = (if kind = .light then 0 else s.stu.echoRun) := by
  obtain ⟨conditions, -⟩ := lostFrom_conditions (stationChanged s) old
  cases kind with
  | light =>
    rw [inMoved_light_absent]
    exact ⟨congrArg (·.gateFrozen.v) conditions, rfl, rfl⟩
  | gate => exact ⟨rfl, rfl, rfl⟩
  | _ => exact ⟨rfl, rfl, rfl⟩

theorem presenceChanged_absent :
    (s.presenceChanged addr kind old .absent).conditions.gateFrozen.v =
        (if kind = .gate then true else s.conditions.gateFrozen.v) ∧
      (s.presenceChanged addr kind old .absent).conditions.lampMismatch.v =
        (if kind = .light then false else s.conditions.lampMismatch.v) ∧
      (s.presenceChanged addr kind old .absent).stu.echoRun = (if kind = .light then 0 else s.stu.echoRun) := by
  have same := presenceChanged_noted s addr kind old .absent
  obtain ⟨gate, light, echo⟩ := inMoved_absent s old kind
  exact ⟨(butNoted_same (·.conditions.gateFrozen.v) same fun _ => rfl).trans gate,
    (butNoted_same (·.conditions.lampMismatch.v) same fun _ => rfl).trans light,
    (butNoted_same (·.stu.echoRun) same fun _ => rfl).trans echo⟩

theorem presenceChanged_absents : Absents 1 s (s.presenceChanged addr kind old .absent) := by
  obtain ⟨lamp, q, lsc⟩ := presenceChanged_scheduler s addr kind old .absent
  obtain ⟨gate, light, echo⟩ := presenceChanged_absent s addr kind old
  refine ⟨State.presenceChanged_spares .., presenceChanged_gains .., ⟨_, lamp, q, lsc⟩,
    fun _ => presenceChanged_indicates .., fun raised => ?_, fun low => ?_, fun none => ?_⟩
  · rw [gate, raised, ite_self]
  · rw [light, low, ite_self]
  · rw [echo, none, ite_self]

end

section
variable (s : State) (e : StationEntry)

theorem absentStation_absents : Absents 1 s (s.absentStation e) := by
  cases found : linkAt s.lsc.links e.addr with
  | none =>
    rw [absentStation_unlinked found]
    obtain ⟨spares, gains, rest⟩ := absents_refl s
    exact ⟨spares, gains.trans (.refl s 4), rest⟩
  | some l =>
    by_cases absent : l.presence = .absent
    · rw [absentStation_again found absent]
      obtain ⟨spares, gains, rest⟩ := setLink_absents s (absentLink l)
      exact ⟨spares, gains.trans (.refl _ 4), rest⟩
    · rw [absentStation_moved found absent]
      exact absents_trans (setLink_absents s (absentLink l)) (presenceChanged_absents _ e.addr e.role.kind l.presence)

theorem absentStation_links (a : Nat) :
    linkAt (s.absentStation e).lsc.links a =
      if a = e.addr then (linkAt s.lsc.links a).map absentLink else linkAt s.lsc.links a := by
  cases found : linkAt s.lsc.links e.addr with
  | none =>
    rw [absentStation_unlinked found]
    split
    · next same => rw [same, found, Option.map_none]
    · rfl
  | some l =>
    have links : linkAt (s.absentStation e).lsc.links a = linkAt (s.setLink (absentLink l)).lsc.links a := by
      by_cases absent : l.presence = .absent
      · rw [absentStation_again found absent]
      · rw [absentStation_moved found absent]
        obtain ⟨lamp, q, lsc⟩ :=
          presenceChanged_scheduler (s.setLink (absentLink l)) e.addr e.role.kind l.presence .absent
        rw [lsc]
    rw [links]
    split
    · next same => rw [same, linkAt_setLink_self (x := absentLink l) found (linkAt_addr (l := l) found), found, Option.map_some]
    · next apart => exact linkAt_setLink_other fun same => apart (same.trans (linkAt_addr (l := l) found))

theorem absentStation_lsc_of_other (other : e.role.kind ≠ .light) :
    ∃ links, (s.absentStation e).lsc = { s.lsc with links := links } := by
  cases found : linkAt s.lsc.links e.addr with
  | none => exact ⟨_, by rw [absentStation_unlinked found]⟩
  | some l =>
    by_cases absent : l.presence = .absent
    · exact ⟨_, by rw [absentStation_again found absent]; rfl⟩
    · exact ⟨_, by rw [absentStation_moved found absent, presenceChanged_lsc_of_other _ _ _ _ _ other]; rfl⟩

end

/-! ### A list of stations -/

theorem foldl_absents (l : List StationEntry) (s : State) : Absents l.length s (l.foldl State.absentStation s) := by
  induction l generalizing s with
  | nil => exact absents_refl s
  | cons e rest ih =>
    rw [List.foldl_cons, List.length_cons, Nat.add_comm]
    exact absents_trans (absentStation_absents s e) (ih _)

theorem foldl_links (l : List StationEntry) (s : State) (a : Nat) :
    linkAt (l.foldl State.absentStation s).lsc.links a =
      if ∃ e ∈ l, e.addr = a then (linkAt s.lsc.links a).map absentLink else linkAt s.lsc.links a := by
  induction l generalizing s with
  | nil => simp
  | cons e rest ih =>
    have again : absentLink ∘ absentLink = absentLink := rfl
    rw [List.foldl_cons, ih, absentStation_links]
    by_cases same : a = e.addr
    · have here : ∃ x ∈ e :: rest, x.addr = a := ⟨e, List.mem_cons_self, same.symm⟩
      rw [if_pos same, if_pos here, Option.map_map, again, ite_self]
    · rw [if_neg same]
      congr 1
      simp [Ne.symm same]

theorem foldl_lsc_of_other (l : List StationEntry) (s : State) (other : ∀ e ∈ l, e.role.kind ≠ .light) :
    ∃ links, (l.foldl State.absentStation s).lsc = { s.lsc with links := links } := by
  induction l generalizing s with
  | nil => exact ⟨_, rfl⟩
  | cons e rest ih =>
    obtain ⟨links, lsc⟩ := absentStation_lsc_of_other s e (other e List.mem_cons_self)
    obtain ⟨links', lsc'⟩ := ih (s.absentStation e) fun x listed => other x (List.mem_cons_of_mem _ listed)
    exact ⟨links', by rw [List.foldl_cons, lsc', lsc]⟩

end Sys2Proof.Proofs
end

section
/-! What RESTART leaves of a record on the bar, and RESTART itself (O50). -/

namespace Sys2Proof.Proofs

open Sys2Proof.Machine Sys2Proof.Claims

/-! ### The record on the bar (R118) -/

/-- The records and the start list stand as they stood. -/
def Stands (s u : State) : Prop := u.jtb = s.jtb ∧ u.startList = s.startList

/-- The record of a slot is freed by the loss of the light, its bib returned and the lamp RED. -/
def LightLost (k : Fin 4) (r : JumpRecord) (s u : State) : Prop :=
  u.jtb = s.jtb.set k none ∧ u.startList = r.bib :: s.startList ∧ u.stu.lamp = .red

section
variable {s u : State} {e : StationEntry}

/-- A station whose loss takes no record: not the light, or a light that is not PRESENT, or no record that it could take. -/
theorem absentStation_stands
    (harmless : (e.role.kind = .light → ∀ l, linkAt u.lsc.links e.addr = some l → l.presence ≠ .present) ∨
      ∀ k r, u.jtb.get k = some r → r.state ≠ .cleared ∧ r.state ≠ .green) :
    Stands u (u.absentStation e) ∧ (u.absentStation e).stu.lamp = u.stu.lamp := by
  cases found : linkAt u.lsc.links e.addr with
  | none =>
    rw [absentStation_unlinked found]
    exact ⟨⟨rfl, rfl⟩, rfl⟩
  | some l =>
    by_cases absent : l.presence = .absent
    · rw [absentStation_again found absent]
      exact ⟨⟨rfl, rfl⟩, rfl⟩
    · rw [absentStation_moved found absent]
      have same := presenceChanged_noted (u.setLink (absentLink l)) e.addr e.role.kind l.presence .absent
      have moved : Stands u (inMoved e.role.kind l.presence .absent (u.setLink (absentLink l))) ∧
          (inMoved e.role.kind l.presence .absent (u.setLink (absentLink l))).stu.lamp = u.stu.lamp := by
        cases kind : e.role.kind with
        | light =>
          have stays : lostFrom l.presence (stationChanged (u.setLink (absentLink l))) =
              stationChanged (u.setLink (absentLink l)) := by
            unfold lostFrom
            split
            · next present =>
              rcases harmless with away | none
              · exact absurd present (away kind l found)
              · exact inLost_none none
            · rfl
          rw [inMoved_light_absent, stays]
          exact ⟨⟨rfl, rfl⟩, rfl⟩
        | _ => exact ⟨⟨rfl, rfl⟩, rfl⟩
      obtain ⟨⟨jtb, list⟩, lamp⟩ := moved
      exact ⟨⟨(butNoted_same (·.jtb) same fun _ => rfl).trans jtb, (butNoted_same (·.startList) same fun _ => rfl).trans list⟩,
        (butNoted_same (·.stu.lamp) same fun _ => rfl).trans lamp⟩

theorem foldl_stands (l : List StationEntry) (u : State)
    (harmless : (∀ e ∈ l, e.role.kind = .light → ∀ x, linkAt u.lsc.links e.addr = some x → x.presence ≠ .present) ∨
      ∀ k r, u.jtb.get k = some r → r.state ≠ .cleared ∧ r.state ≠ .green) :
    Stands u (l.foldl State.absentStation u) ∧ (l.foldl State.absentStation u).stu.lamp = u.stu.lamp := by
  induction l generalizing u with
  | nil => exact ⟨⟨rfl, rfl⟩, rfl⟩
  | cons e rest ih =>
    obtain ⟨⟨jtb, list⟩, lamp⟩ := absentStation_stands (e := e) (harmless.imp_left fun away => away e List.mem_cons_self)
    obtain ⟨⟨jtb', list'⟩, lamp'⟩ := ih (u.absentStation e) (harmless.imp (fun away x listed light y found => by
      rw [absentStation_links] at found
      split at found
      · obtain ⟨z, -, rfl⟩ := Option.map_eq_some_iff.1 found
        exact nofun
      · exact away x (List.mem_cons_of_mem _ listed) light y found) fun none => jtb ▸ none)
    exact ⟨⟨jtb'.trans jtb, list'.trans list⟩, lamp'.trans lamp⟩

variable {k : Fin 4} {r : JumpRecord} (one : OneActive s.jtb) (held : s.jtb.get k = some r)
  (start : r.state = .cleared ∨ r.state = .green)
include one held start

theorem lightLost_leaves_none {u : State} (lost : LightLost k r s u) (j : Fin 4) (y : JumpRecord) (stands : u.jtb.get j = some y) :
    y.state ≠ .cleared ∧ y.state ≠ .green := by
  have active : r.state.active = true := by
    obtain h | h := start <;> rw [h] <;> rfl
  rw [lost.1, JumpTable.get_set] at stands
  split at stands
  · cases stands
  · next apart =>
    have idle := aloneIn_of_active one held active j y apart stands
    constructor <;> intro h <;> rw [h] at idle <;> cases idle

theorem foldl_lost (l : List StationEntry) {u : State} (lost : LightLost k r s u) :
    LightLost k r s (l.foldl State.absentStation u) := by
  obtain ⟨⟨jtb, list⟩, lamp⟩ := foldl_stands l u (.inr (lightLost_leaves_none one held start lost))
  exact ⟨jtb.trans lost.1, list.trans lost.2.1, lamp.trans lost.2.2⟩

variable (records : RecordsInRound s) (competition : u.competition = s.competition)
include records competition

theorem inLost_lost {lsc : Scheduler} {conditions : Conditions} (stands : Stands s u) :
    LightLost k r s (inLost { u with lsc := lsc, conditions := conditions }) := by
  obtain ⟨jtb, list⟩ := stands
  have onBar : r.state.onBar = true := by
    obtain h | h := start <;> rw [h] <;> rfl
  have active : r.state.active = true := by
    obtain h | h := start <;> rw [h] <;> rfl
  have lamp : lampFreed k r { u with lsc := lsc, conditions := conditions } = .red := by
    unfold lampFreed
    change derivedLamp u.competition (u.jtb.set k none) _ = _
    rw [competition, jtb]
    exact derivedLamp_set_none (isOpen_of_record records held) (aloneIn_of_active one held active) _
  rw [inLost_start (s := { u with lsc := lsc, conditions := conditions }) (jtb ▸ one) (jtb ▸ held) start, lamp]
  exact ⟨congrArg (·.set k none) jtb, congrArg (r.bib :: ·) list, rfl⟩

theorem absentStation_lost {l : Link} (light : e.role.kind = .light) (found : linkAt u.lsc.links e.addr = some l)
    (present : l.presence = .present) (stands : Stands s u) :
    LightLost k r s (u.absentStation e) ∧
      (s.enables.jump = true → u.enables = s.enables → u.office.count + 2 < 60 →
        .jump r.bib (some k) none .lightLost .none r.flags ∈ (u.absentStation e).office.reports) := by
  have away : l.presence ≠ .absent := by rw [present]; exact nofun
  rw [absentStation_moved found away, light, present]
  constructor
  · have same := presenceChanged_noted (u.setLink (absentLink l)) e.addr .light .present .absent
    obtain ⟨jtb, list, lamp⟩ := inLost_lost (lsc := { u.lsc with links := (u.setLink (absentLink l)).lsc.links })
      (conditions := (stationChanged u).conditions) one held start records competition stands
    exact ⟨(butNoted_same (·.jtb) same fun _ => rfl).trans jtb, (butNoted_same (·.startList) same fun _ => rfl).trans list,
      (butNoted_same (·.stu.lamp) same fun _ => rfl).trans lamp⟩
  · intro enabled enables room
    have gains := (announcePresence_gains (u.setLink (absentLink l)) e.addr .present .absent).count
    have jtb : ((u.setLink (absentLink l)).announcePresence e.addr .present .absent).jtb = s.jtb :=
      (State.announcePresence_jtb ..).trans stands.1
    have reports := loseLight_reports (s := (u.setLink (absentLink l)).announcePresence e.addr .present .absent)
      (jtb ▸ one) (jtb ▸ held) start (by rw [State.announcePresence_enables]; exact enables ▸ enabled) (Nat.lt_of_le_of_lt gains room)
    have echo : (u.setLink (absentLink l)).presenceChanged e.addr .light .present .absent =
        (((u.setLink (absentLink l)).announcePresence e.addr .present .absent).loseLight).endEcho := rfl
    rw [echo, endEcho_eq]
    exact reports

/-- Of several stations the PRESENT light takes the record, or one before it has. -/
theorem foldl_takes {l : Link} {before behind : List StationEntry} (first : ∀ x ∈ before, x.addr ≠ e.addr)
    (light : e.role.kind = .light) (found : linkAt u.lsc.links e.addr = some l) (present : l.presence = .present)
    (stands : Stands s u) :
    LightLost k r s ((before ++ e :: behind).foldl State.absentStation u) ∧
      (s.enables.jump = true → u.enables = s.enables → u.office.count + 4 * (before ++ e :: behind).length < 60 →
        .jump r.bib (some k) none .lightLost .none r.flags ∈
          ((before ++ e :: behind).foldl State.absentStation u).office.reports) := by
  induction before generalizing u with
  | nil =>
    obtain ⟨lost, reports⟩ := absentStation_lost one held start records competition light found present stands
    refine ⟨foldl_lost one held start behind lost, fun enabled enables room => ?_⟩
    obtain ⟨-, gains, -⟩ := foldl_absents behind (u.absentStation e)
    refine gains.keeps_report (reports enabled enables ?_)
    rw [List.nil_append, List.length_cons] at room
    omega
  | cons x before ih =>
    obtain ⟨-, gains, -⟩ := absentStation_absents u x
    by_cases takes : x.role.kind = .light ∧ ∃ y, linkAt u.lsc.links x.addr = some y ∧ y.presence = .present
    · obtain ⟨light', y, found', present'⟩ := takes
      obtain ⟨lost, reports⟩ := absentStation_lost one held start records competition light' found' present' stands
      refine ⟨foldl_lost one held start (before ++ e :: behind) lost, fun enabled enables room => ?_⟩
      obtain ⟨-, gains', -⟩ := foldl_absents (before ++ e :: behind) (u.absentStation x)
      refine gains'.keeps_report (reports enabled enables ?_)
      rw [List.cons_append, List.length_cons] at room
      omega
    · obtain ⟨⟨jtb, list⟩, -⟩ := absentStation_stands (u := u) (e := x)
        (.inl fun light' y found' present' => takes ⟨light', y, found', present'⟩)
      obtain ⟨⟨-, -, -, -, -, -, -, -, -, -, -, -, competition', enables', -⟩, -⟩ := absentStation_absents u x
      have link : linkAt (u.absentStation x).lsc.links e.addr = some l := by
        rw [absentStation_links, if_neg (first x List.mem_cons_self).symm, found]
      obtain ⟨lost, reports⟩ := ih (competition'.trans competition) (fun y listed => first y (List.mem_cons_of_mem _ listed)) link
        ⟨jtb.trans stands.1, list.trans stands.2⟩
      refine ⟨lost, fun enabled enables room => reports enabled (enables'.trans enables) ?_⟩
      have counts := gains.count
      rw [List.cons_append, List.length_cons] at room
      omega

end

/-! ### A segment restarted (R26) -/

/-- The stations of a segment, in table order. -/
def stationsOn (seg : Seg) (stations : List StationEntry) : List StationEntry := stations.filter fun e => decide (e.port = seg)

/-- A segment cut off: its frame, queue, grants and slot gone, and its silence begun. -/
def silenced (seg : Seg) (s : State) : State :=
  (s.setLine (portFor seg)
      (if s.sending seg then (s.line (portFor seg)).abortSending s.now else (s.line (portFor seg)).settle)).setSeg seg
    { queue := [], granted := [], slot := none, silentUntil := some (after s.now 500) }

theorem restartSegment_eq (seg : Seg) (s : State) :
    s.restartSegment seg = (stationsOn seg s.tables.stations).foldl State.absentStation (silenced seg s) := by
  rw [State.restartSegment, portOfSeg_eq]
  rfl

end Sys2Proof.Proofs
end

section
/-! RESTART and the end of its silence (O50). -/

namespace Sys2Proof.Proofs

open Sys2Proof.Machine Sys2Proof.Claims

/-! ### A segment cut off -/

section
variable (seg : Seg) (s : State)

theorem silenced_same {α : Type} (f : State → α)
    (seen : ∀ s lsc lineT lineS, f { s with lsc := lsc, lineT := lineT, lineS := lineS } = f s) :
    f (silenced seg s) = f s := by
  cases seg <;> exact seen s _ _ _

theorem silenced_seg :
    (silenced seg s).seg seg = { queue := [], granted := [], slot := none, silentUntil := some (after s.now 500) } :=
  State.seg_setSeg_self ..

theorem silenced_line :
    (silenced seg s).line (portFor seg) =
      if s.sending seg then (s.line (portFor seg)).abortSending s.now else (s.line (portFor seg)).settle := by
  rw [silenced, State.line_setSeg, State.line_setLine_self]

theorem silenced_links : (silenced seg s).lsc.links = s.lsc.links := by cases seg <;> rfl

theorem asked_sending (now : Time) : (s.asked now).sending seg = (s.setNow now).sending seg := by
  cases seg <;> rfl

end

theorem stationsOn_length (seg : Seg) (stations : List StationEntry) : (stationsOn seg stations).length ≤ stations.length :=
  List.length_filter_le _ _

/-- The first station of an address, among the stations of its segment. -/
theorem stationsOn_split {stations : List StationEntry} {e : StationEntry} (first : stationAt stations e.addr = some e) :
    ∃ before behind, stationsOn e.port stations = before ++ e :: behind ∧ ∀ x ∈ before, x.addr ≠ e.addr := by
  obtain ⟨-, before, behind, rfl, apart⟩ := List.find?_eq_some_iff_append.1 first
  refine ⟨stationsOn e.port before, stationsOn e.port behind, ?_, fun x listed same => ?_⟩
  · simp [stationsOn]
  · have other := apart x (List.mem_filter.1 listed).1
    rw [decide_eq_true same] at other
    cases other

section
variable {now : Time} {seg : Seg} {s t : State}

/-- The state in which the stations of a segment become ABSENT within the request. -/
def cutOff (now : Time) (seg : Seg) (s : State) : State := silenced seg (s.asked now)

theorem restartSegment_asked :
    (s.asked now).restartSegment seg = (stationsOn seg s.tables.stations).foldl State.absentStation (cutOff now seg s) :=
  restartSegment_eq seg (s.asked now)

theorem cutOff_count : (cutOff now seg s).office.count ≤ s.office.count + 1 := by
  rw [cutOff, silenced_same seg _ (·.office) fun _ _ _ _ => rfl]
  exact asked_count now s

theorem cutOff_links (a : Nat) : linkAt (cutOff now seg s).lsc.links a = linkAt s.lsc.links a := by
  rw [cutOff, silenced_links]
  rfl

/-- The line unit of a restarted segment (R26). -/
theorem cutOff_line :
    (SendsAt now seg s → (cutOff now seg s).line (portFor seg) =
        { s.line (portFor seg) with shifter := none, ahead := .abort now }) ∧
      (¬SendsAt now seg s → (cutOff now seg s).line (portFor seg) =
        if (s.line (portFor seg)).shifter = none then s.line (portFor seg)
        else { s.line (portFor seg) with shifter := none, ahead := .idle }) := by
  have line : (s.asked now).line (portFor seg) = s.line (portFor seg) := by cases seg <;> rfl
  rw [cutOff, silenced_line, asked_sending, line]
  constructor
  · intro sends
    have full : (s.line (portFor seg)).shifter ≠ none := by
      obtain ⟨f, holds, -⟩ := sends
      rw [holds]
      exact nofun
    rw [if_pos ((sending_iff s seg now).2 sends), LineUnit.abortSending_spec, if_neg full]
    rfl
  · intro quiet
    rw [if_neg (mt (sending_iff s seg now).1 quiet), LineUnit.settle_spec]

/-- What the loss of a station that was not ABSENT does (R12, R101, R118, R120). -/
theorem restarted_station {e : StationEntry} {l : Link} (first : stationAt s.tables.stations e.addr = some e) (here : e.port = seg)
    (found : linkAt s.lsc.links e.addr = some l) (away : l.presence ≠ .absent) {u : State}
    (restarts : (s.asked now).restartSegment seg = u) :
    u.conditions.stationChange.i = true ∧
      (s.enables.station = true → s.office.count + 1 + 4 * s.tables.stations.length < 60 →
        .station e.addr l.presence .absent ∈ u.office.reports) ∧
      (e.role.kind = .gate → u.conditions.gateFrozen.v = true) ∧
      (e.role.kind = .light → u.stu.echoRun = 0 ∧ u.conditions.lampMismatch.v = false) := by
  subst here
  obtain ⟨before, behind, stations, apart⟩ := stationsOn_split first
  rw [restartSegment_asked, stations, List.foldl_append, List.foldl_cons] at restarts
  obtain ⟨⟨-, -, -, -, -, -, -, -, -, -, -, -, -, enables, -⟩, gains, -⟩ := foldl_absents before (cutOff now e.port s)
  have link : linkAt (before.foldl State.absentStation (cutOff now e.port s)).lsc.links e.addr = some l := by
    rw [foldl_links, if_neg fun ⟨x, listed, same⟩ => apart x listed same, cutOff_links, found]
  have enabled : (before.foldl State.absentStation (cutOff now e.port s)).enables = s.enables :=
    enables.trans (silenced_same e.port _ (·.enables) fun _ _ _ _ => rfl)
  generalize before.foldl State.absentStation (cutOff now e.port s) = p at restarts gains link enabled
  obtain ⟨-, gains', -, change, gate, mismatch, echo⟩ := foldl_absents behind (p.absentStation e)
  rw [restarts] at gains' change gate mismatch echo
  rw [absentStation_moved link away] at gains' change gate mismatch echo
  obtain ⟨gate', mismatch', echo'⟩ := presenceChanged_absent (p.setLink (absentLink l)) e.addr e.role.kind l.presence
  refine ⟨change (presenceChanged_indicates ..), fun reporting room => ?_, fun kind => gate ?_,
    fun kind => ⟨echo ?_, mismatch ?_⟩⟩
  · refine gains'.keeps_report (presenceChanged_reports (p.setLink (absentLink l)) e.addr e.role.kind l.presence .absent
      (enabled ▸ reporting) ?_)
    have counts := gains.count
    have base := cutOff_count (now := now) (seg := e.port) (s := s)
    have fits := stationsOn_length e.port s.tables.stations
    rw [stations, List.length_append, List.length_cons] at fits
    change p.office.count < 60
    omega
  · rw [gate', if_pos kind]
  · rw [echo', if_pos kind]
  · rw [mismatch', if_pos kind]

/-- The record that a lost light takes (R118). -/
theorem restarted_record {e : StationEntry} {l : Link} (first : stationAt s.tables.stations e.addr = some e) (here : e.port = seg)
    (found : linkAt s.lsc.links e.addr = some l) (light : e.role.kind = .light) (present : l.presence = .present)
    (one : OneActive s.jtb) (records : RecordsInRound s) {k : Fin 4} {r : JumpRecord} (held : s.jtb.get k = some r)
    (start : r.state = .cleared ∨ r.state = .green) {u : State} (restarts : (s.asked now).restartSegment seg = u) :
    LightLost k r s u ∧
      (s.enables.jump = true → s.office.count + 1 + 4 * s.tables.stations.length < 60 →
        .jump r.bib (some k) none .lightLost .none r.flags ∈ u.office.reports) := by
  subst here
  obtain ⟨before, behind, stations, apart⟩ := stationsOn_split first
  rw [restartSegment_asked, stations] at restarts
  obtain ⟨lost, reports⟩ := foldl_takes (u := cutOff now e.port s) (behind := behind) one held start records
    (silenced_same e.port _ (·.competition) fun _ _ _ _ => rfl) apart light ((cutOff_links _).trans found) present
    ⟨silenced_same e.port _ (·.jtb) fun _ _ _ _ => rfl, silenced_same e.port _ (·.startList) fun _ _ _ _ => rfl⟩
  rw [restarts] at lost reports
  refine ⟨lost, fun enabled room => reports enabled (silenced_same e.port _ (·.enables) fun _ _ _ _ => rfl) ?_⟩
  have base := cutOff_count (now := now) (seg := e.port) (s := s)
  have fits := stationsOn_length e.port s.tables.stations
  rw [stations] at fits
  omega

/-- What a RESTART leaves of LSC. -/
theorem restarted_scheduler : ∃ links lamp q, ((s.asked now).restartSegment seg).lsc =
    { (cutOff now seg s).lsc with links := links, lampSlot := lamp, segS := { (cutOff now seg s).lsc.segS with queue := q } } := by
  rw [restartSegment_asked]
  obtain ⟨-, -, scheduler, -⟩ := foldl_absents (stationsOn seg s.tables.stations) (cutOff now seg s)
  exact scheduler

/-- A RESTART within a request at a hill time. -/
theorem restarted_of {u : State} (restarts : (s.asked now).restartSegment seg = u) (same : ButReports u t)
    (conditions : t.conditions = u.conditions) (reports : ∀ r ∈ u.office.reports, Reported t r) : Restarted now seg s t := by
  obtain ⟨links, lamp, q, lsc⟩ := restarted_scheduler (now := now) (seg := seg) (s := s)
  have onLinks := fun a => foldl_links (stationsOn seg s.tables.stations) (cutOff now seg s) a
  have absents := foldl_absents (stationsOn seg s.tables.stations) (cutOff now seg s)
  rw [← restartSegment_asked, restarts] at onLinks absents
  rw [restarts] at lsc
  obtain ⟨⟨-, -, -, -, -, lineT, lineS, -, tables, hck, wnd, results, competition, enables, -, loadBuffer, engine, -⟩, -⟩ := absents
  have seen {α : Type} (f : State → α) (h : ∀ s, f s = f (unreported s)) : f t = f u := butReports_same f same h
  have kept {α : Type} (f : State → α) (h : ∀ s, f s = f (unreported s)) (h' : f u = f (cutOff now seg s))
      (h'' : ∀ s lsc lineT lineS, f { s with lsc := lsc, lineT := lineT, lineS := lineS } = f s) : f t = f (s.asked now) :=
    (seen f h).trans (h'.trans (silenced_same seg _ f h''))
  have scheduler := (seen (·.lsc) fun _ => rfl).trans lsc
  have segment : (t.seg seg).slot = ((cutOff now seg s).seg seg).slot ∧ (t.seg seg).granted = ((cutOff now seg s).seg seg).granted ∧
      (t.seg seg).silentUntil = ((cutOff now seg s).seg seg).silentUntil := by
    unfold State.seg
    rw [scheduler]
    cases seg <;> exact ⟨rfl, rfl, rfl⟩
  rw [cutOff, silenced_seg] at segment
  obtain ⟨slot, granted, silent⟩ := segment
  have line : t.line (portFor seg) = (cutOff now seg s).line (portFor seg) := by
    cases seg
    · exact (seen (·.lineT) fun _ => rfl).trans lineT
    · exact (seen (·.lineS) fun _ => rfl).trans lineS
  have tlinks : ∀ a, linkAt t.lsc.links a = linkAt u.lsc.links a := fun a => seen (fun v => linkAt v.lsc.links a) fun _ => rfl
  refine ⟨slot, granted, silent, fun sends => line.trans (cutOff_line.1 sends), fun quiet => line.trans (cutOff_line.2 quiet),
    ?_, ?_, ?_, ?_, ?_, kept (·.hck) (fun _ => rfl) hck fun _ _ _ _ => rfl, kept (·.wnd) (fun _ => rfl) wnd fun _ _ _ _ => rfl,
    kept (·.tables) (fun _ => rfl) tables fun _ _ _ _ => rfl, kept (·.results) (fun _ => rfl) results fun _ _ _ _ => rfl,
    kept (·.competition) (fun _ => rfl) competition fun _ _ _ _ => rfl,
    kept (·.loadBuffer) (fun _ => rfl) loadBuffer fun _ _ _ _ => rfl, kept (·.engine) (fun _ => rfl) engine fun _ _ _ _ => rfl,
    kept (·.enables) (fun _ => rfl) enables fun _ _ _ _ => rfl⟩
  · intro e l listed here found
    have on : ∃ x ∈ stationsOn seg s.tables.stations, x.addr = e.addr :=
      ⟨e, List.mem_filter.2 ⟨listed, decide_eq_true here⟩, rfl⟩
    rw [tlinks, onLinks, if_pos on, cutOff_links, found]
    rfl
  · intro a l off found
    have none : ¬∃ x ∈ stationsOn seg s.tables.stations, x.addr = a := fun ⟨x, listed, same⟩ =>
      off x (List.mem_filter.1 listed).1 (of_decide_eq_true (List.mem_filter.1 listed).2) same
    rw [tlinks, onLinks, if_neg none, cutOff_links, found]
  · intro e l first here found away
    obtain ⟨change, report, gate, light⟩ := restarted_station first here found away restarts
    refine ⟨conditions ▸ change, fun enabled room => reports _ (report enabled room), fun kind => conditions ▸ gate kind,
      fun kind => ?_, fun k r kind present one records held start => ?_⟩
    · rw [conditions, seen (·.stu) fun _ => rfl]
      exact light kind
    · obtain ⟨⟨jtb, list, lamp⟩, report⟩ := restarted_record first here found kind present one records held start restarts
      exact ⟨(seen (·.jtb) fun _ => rfl).trans jtb, (seen (·.startList) fun _ => rfl).trans list,
        (seen (·.stu.lamp) fun _ => rfl).trans lamp, fun enabled room => reports _ (report enabled room)⟩
  · intro harmless
    have cutJtb : (cutOff now seg s).jtb = s.jtb := silenced_same seg _ (·.jtb) fun _ _ _ _ => rfl
    have cutList : (cutOff now seg s).startList = s.startList := silenced_same seg _ (·.startList) fun _ _ _ _ => rfl
    obtain ⟨⟨jtb, list⟩, -⟩ := foldl_stands (stationsOn seg s.tables.stations) (cutOff now seg s)
      (harmless.imp (fun away e listed light l found => away e (List.mem_filter.1 listed).1
        (of_decide_eq_true (List.mem_filter.1 listed).2) light l ((cutOff_links _).symm.trans found)) fun none => cutJtb ▸ none)
    rw [← restartSegment_asked, restarts] at jtb list
    exact ⟨(seen (·.jtb) fun _ => rfl).trans (jtb.trans cutJtb), (seen (·.startList) fun _ => rfl).trans (list.trans cutList)⟩
  · rw [scheduler]
    cases seg <;> rfl

/-- The queue for segment S holds no page where no light is lost. -/
theorem restarted_queue (dark : ∀ e ∈ s.tables.stations, e.port = .S → e.role.kind ≠ .light) :
    ((s.asked now).restartSegment .S).lsc.segS.queue = [] := by
  obtain ⟨links, lsc⟩ := foldl_lsc_of_other (stationsOn .S s.tables.stations) (cutOff now .S s) fun e listed =>
    dark e (List.mem_filter.1 listed).1 (of_decide_eq_true (List.mem_filter.1 listed).2)
  rw [restartSegment_asked, lsc]
  rfl

end

/-- Settles O50: RESTART of each segment and its refusal, and the end of a silence, due or not. -/
theorem segmentRestarts : Obligations.SegmentRestarts := by
  refine ⟨fun now seq port s listens => ⟨fun other => ?_, fun one => ?_, fun two => ?_⟩, fun now seg s on => ⟨fun due => ?_,
    fun early => ?_⟩⟩
  · refine request_refused listens ?_
    obtain ⟨notOne, notTwo⟩ := not_or.1 other
    unfold restart
    split
    · next same => exact absurd same notOne
    · next same => exact absurd same notTwo
    · rfl
  · have answers : restart port (s.asked now) = accept .nothing ((s.asked now).restartSegment .T) := by
      rw [restart, one]
      rfl
    obtain ⟨t, exec_eq, answer, same, -, conditions, lsc, reports⟩ := request_accepted (seq := seq) (code := 0x03) listens answers
    obtain ⟨links, lamp, q, scheduler⟩ := restarted_scheduler (now := now) (seg := .T) (s := s)
    obtain ⟨⟨-, -, -, -, -, -, lineS, -⟩, -⟩ := foldl_absents (stationsOn .T s.tables.stations) (cutOff now .T s)
    rw [← restartSegment_asked] at lineS
    refine ⟨t, exec_eq, answer, restarted_of rfl same conditions reports, ?_,
      (butReports_same (·.lineS) same fun _ => rfl).trans lineS, ?_, ?_, ?_⟩ <;> rw [lsc, scheduler] <;> rfl
  · have answers : restart port (s.asked now) = accept .nothing ((s.asked now).restartSegment .S) := by
      rw [restart, two]
      rfl
    obtain ⟨t, exec_eq, answer, same, -, conditions, lsc, reports⟩ := request_accepted (seq := seq) (code := 0x03) listens answers
    obtain ⟨links, lamp, q, scheduler⟩ := restarted_scheduler (now := now) (seg := .S) (s := s)
    obtain ⟨⟨-, -, -, -, -, lineT, -⟩, -⟩ := foldl_absents (stationsOn .S s.tables.stations) (cutOff now .S s)
    rw [← restartSegment_asked] at lineT
    refine ⟨t, exec_eq, answer, restarted_of rfl same conditions reports, fun dark => ?_,
      (butReports_same (·.lineT) same fun _ => rfl).trans lineT, ?_⟩
    · rw [lsc]
      exact restarted_queue dark
    · rw [lsc, scheduler]
      rfl
  · have due' : ((s.setNow now).seg seg).silentUntil = some (s.setNow now).now := by rw [seg_setNow]; exact due
    refine (event_outside_reset now (State.endSilence seg) s on).trans ?_
    rw [State.endSilence, if_pos due', seg_setNow]
  · have early' : ((s.setNow now).seg seg).silentUntil ≠ some (s.setNow now).now := by rw [seg_setNow]; exact early
    refine (event_outside_reset now (State.endSilence seg) s on).trans ?_
    rw [State.endSilence, if_neg early']

end Sys2Proof.Proofs
end

section
/-! A cycle start, unit by unit: the segments, the mark, the wind, the start and the settle count (R7, R8, R33, R85 to R96, R109, R134). -/

namespace Sys2Proof.Proofs

open Sys2Proof.Machine Sys2Proof.Claims

/-! ### A segment at a cycle start (R7, R8, R26) -/

/-- The stations that a schedule grants a slot in a cycle. -/
def grantedIn (table : List SchedEntry) (mark : Nat) : List Nat :=
  (table.filter fun e => decide (mark % 256 % e.interval = e.phase)).map (·.addr)

/-- A segment's line unit with TIME in its shifter. -/
def timeUnit (now : Time) (count : Nat) (u : LineUnit) : LineUnit :=
  ⟨u.counters, u.txSeq + 1, some ⟨0xFF, 0x01, 0x01, u.txSeq, BitVec.ofNat 8 count :: u32 now⟩, aheadOf now u, u.dropping⟩

section
variable (s : State) (seg : Seg)

theorem beginCycle_silent {s : State} {seg : Seg} (silent : (s.seg seg).silent s.now = true) :
    s.beginCycle seg = s.setSeg seg { s.seg seg with granted := [] } := if_pos silent

theorem beginCycle_loud {s : State} {seg : Seg} (loud : (s.seg seg).silent s.now = false) :
    s.beginCycle seg = (s.setLine (portFor seg) (timeUnit s.now s.lsc.cycleCount (s.line (portFor seg)))).setSeg seg
      { s.seg seg with granted := grantedIn (s.tables.schedule seg) s.lsc.cycleCount, silentUntil := none } := by
  unfold State.beginCycle
  simp only [loud, Bool.false_eq_true, if_false, portOfSeg_eq, sendOwn_setSeg]
  have mark : s.markNumber.toNat = s.lsc.cycleCount % 256 := BitVec.toNat_ofNat ..
  rw [mark]
  rfl

/-- A cycle begun on a segment touches LSC and its line unit only. -/
theorem beginCycle_same {α : Type} (f : State → α)
    (seen : ∀ s lsc lineT lineS, f { s with lsc := lsc, lineT := lineT, lineS := lineS } = f s) : f (s.beginCycle seg) = f s := by
  rcases Bool.eq_false_or_eq_true ((s.seg seg).silent s.now) with silent | loud
  · rw [beginCycle_silent silent]
    cases seg <;> exact seen s _ _ _
  · rw [beginCycle_loud loud]
    cases seg <;> exact seen s _ _ _

theorem beginCycle_count : (s.beginCycle seg).lsc.cycleCount = s.lsc.cycleCount := by
  rcases Bool.eq_false_or_eq_true ((s.seg seg).silent s.now) with silent | loud
  · rw [beginCycle_silent silent]
    cases seg <;> rfl
  · rw [beginCycle_loud loud]
    cases seg <;> rfl

theorem portOfSeg_injective {a b : Seg} (same : portOfSeg a = portOfSeg b) : a = b := by
  cases a <;> cases b <;> simp_all [portOfSeg]

theorem beginCycle_other {other : Seg} (apart : other ≠ seg) :
    (s.beginCycle seg).seg other = s.seg other ∧ (s.beginCycle seg).line (portFor other) = s.line (portFor other) := by
  have ports : portFor other ≠ portFor seg := by
    rw [← portOfSeg_eq, ← portOfSeg_eq]
    exact fun same => apart (portOfSeg_injective same)
  rcases Bool.eq_false_or_eq_true ((s.seg seg).silent s.now) with silent | loud
  · rw [beginCycle_silent silent, State.seg_setSeg_ne _ _ _ _ apart, State.line_setSeg]
    exact ⟨rfl, rfl⟩
  · rw [beginCycle_loud loud, State.seg_setSeg_ne _ _ _ _ apart, State.seg_setLine, State.line_setSeg,
      State.line_setLine_ne _ _ _ _ ports]
    exact ⟨rfl, rfl⟩

/-- What a segment and its line unit hold once the cycle has begun on it. -/
theorem beginCycle_own :
    ((s.seg seg).silent s.now = true → ((s.beginCycle seg).seg seg).granted = [] ∧
      (s.beginCycle seg).line (portFor seg) = s.line (portFor seg)) ∧
    ((s.seg seg).silent s.now = false →
      ((s.beginCycle seg).seg seg).granted = grantedIn (s.tables.schedule seg) s.lsc.cycleCount ∧
      (s.beginCycle seg).line (portFor seg) = timeUnit s.now s.lsc.cycleCount (s.line (portFor seg))) := by
  constructor
  · intro silent
    rw [beginCycle_silent silent, State.seg_setSeg_self, State.line_setSeg]
    exact ⟨rfl, rfl⟩
  · intro loud
    rw [beginCycle_loud loud, State.seg_setSeg_self, State.line_setSeg, State.line_setLine_self]
    exact ⟨rfl, rfl⟩

end

/-! ### Both segments and the mark (R7, R33) -/

/-- A state whose two segments have begun a cycle. -/
def cycleBegun (now : Time) (s : State) : State := ((s.setNow now).beginCycle .T).beginCycle .S

section
variable (now : Time) (s : State)

theorem cycleBegun_same {α : Type} (f : State → α)
    (seen : ∀ s lsc lineT lineS, f { s with lsc := lsc, lineT := lineT, lineS := lineS } = f s) :
    f (cycleBegun now s) = f (s.setNow now) :=
  (beginCycle_same _ .S f seen).trans (beginCycle_same _ .T f seen)

theorem cycleBegun_count : (cycleBegun now s).lsc.cycleCount = s.lsc.cycleCount :=
  (beginCycle_count _ .S).trans (beginCycle_count (s.setNow now) .T)

theorem cycleBegun_own (seg : Seg) :
    ((s.seg seg).silent now = true → ((cycleBegun now s).seg seg).granted = [] ∧
      (cycleBegun now s).line (portFor seg) = s.line (portFor seg)) ∧
    ((s.seg seg).silent now = false →
      ((cycleBegun now s).seg seg).granted = grantedIn (s.tables.schedule seg) s.lsc.cycleCount ∧
      (cycleBegun now s).line (portFor seg) = timeUnit now s.lsc.cycleCount (s.line (portFor seg))) := by
  cases seg with
  | T =>
    obtain ⟨kept, line⟩ := beginCycle_other ((s.setNow now).beginCycle .T) .S (other := .T) nofun
    unfold cycleBegun
    rw [kept, line]
    exact beginCycle_own (s.setNow now) .T
  | S =>
    obtain ⟨kept, line⟩ := beginCycle_other (s.setNow now) .T (other := .S) nofun
    have own := beginCycle_own ((s.setNow now).beginCycle .T) .S
    have time : ((s.setNow now).beginCycle .T).now = now := beginCycle_same (s.setNow now) .T State.now fun _ _ _ _ => rfl
    have tables : ((s.setNow now).beginCycle .T).tables = s.tables :=
      beginCycle_same (s.setNow now) .T State.tables fun _ _ _ _ => rfl
    rw [kept, line, beginCycle_count, time, tables] at own
    exact own

end

/-! ### The wind (R85, R92, R94, R95, R96) -/

/-- The wind indices of the contexts that a change moves to another state. -/
def windMoved (f : WindContext → WindContext) (contexts : List WindContext) : List Nat :=
  (contexts.filter fun c => decide ((f c).state ≠ c.state)).map (·.index)

theorem windChanged_of_indicated {l : List Nat} {old new : Condition} (up : old.i = true) :
    WindChanged l old new ↔ new = old := by
  unfold WindChanged
  rw [if_pos up]

theorem windChanged_of_unset {index : Nat} {rest : List Nat} {old : Condition} (unset : old.i = false) :
    WindChanged (index :: rest) old ⟨old.v, true, index⟩ := (if_neg (by simp [unset])).symm

theorem windChanged_nil (c : Condition) : WindChanged [] c c := (ite_self c).symm

/-- WIND_CHANGE raised for a first context, and what is raised after it. -/
theorem windChanged_cons {s : State} {index : Nat} {rest : List Nat} {new : Condition}
    (later : WindChanged rest (s.raise .windChange index).conditions.windChange new) :
    WindChanged (index :: rest) s.conditions.windChange new := by
  have up : (s.raise .windChange index).conditions.windChange.i = true :=
    (State.raise_indicates s .windChange index (by decide)).1
  rw [windChanged_of_indicated up] at later
  rw [later]
  rcases Bool.eq_false_or_eq_true s.conditions.windChange.i with indicated | unset
  · rw [State.raise_again s .windChange index indicated, windChanged_of_indicated indicated]
  · have raised : (s.raise .windChange index).conditions.windChange = ⟨s.conditions.windChange.v, true, index⟩ :=
      raise_get (c := .windChange) index unset
    rw [raised]
    exact windChanged_of_unset unset

theorem noteChanges_windChange (f : WindContext → WindContext) (contexts : List WindContext) (s : State) :
    WindChanged (windMoved f contexts) s.conditions.windChange
      (s.noteChanges contexts (contexts.map f)).conditions.windChange := by
  induction contexts generalizing s with
  | nil => exact windChanged_nil _
  | cons c rest ih =>
    by_cases same : c.state = (f c).state
    · have step : s.noteChanges (c :: rest) ((c :: rest).map f) = s.noteChanges rest (rest.map f) := by
        simp [State.noteChanges, same]
      rw [step, windMoved, List.filter_cons_of_neg (by simp [same])]
      exact ih s
    · have step : s.noteChanges (c :: rest) ((c :: rest).map f) =
          (s.raise .windChange c.index).noteChanges rest (rest.map f) := by
        simp [State.noteChanges, same]
      rw [step, windMoved, List.filter_cons_of_pos (by simpa using Ne.symm same), List.map_cons]
      exact windChanged_cons (ih (s.raise .windChange c.index))

/-- WND once each context has written its grid entry. -/
def windAfter (tables : Tables) (now : Time) (contexts : List WindContext) : WindUnit :=
  let new := contexts.map (WindContext.tick tables.hill now)
  let means := (new.filter fun c => inStartWindow tables.stations c.index).map fun c =>
    (c.index, stationMean tables.hill.liveSpan c.ring)
  ⟨new, liveWindOf means, means⟩

section
variable (s : State)

/-- The wind at a cycle start touches WND, the conditions and the office queue. -/
theorem windTick_frame : ∃ conditions office, s.windTick =
    { s with wnd := windAfter s.tables s.now s.wnd.contexts, conditions := conditions, office := office } := by
  obtain ⟨c, o, noted⟩ := State.noteChanges_frame { s with wnd := windAfter s.tables s.now s.wnd.contexts } s.wnd.contexts
    (s.wnd.contexts.map (WindContext.tick s.tables.hill s.now))
  obtain ⟨c', o', set⟩ := State.setV_frame
    (State.noteChanges s.wnd.contexts (s.wnd.contexts.map (WindContext.tick s.tables.hill s.now))
      { s with wnd := windAfter s.tables s.now s.wnd.contexts }) .liveWindUnavailable
    (windAfter s.tables s.now s.wnd.contexts).liveWind.isNone
  refine ⟨c', o', set.trans ?_⟩
  rw [noted]

theorem windTick_conditions :
    WindChanged (windMoved (WindContext.tick s.tables.hill s.now) s.wnd.contexts) s.conditions.windChange
        s.windTick.conditions.windChange ∧
      s.windTick.conditions.liveWindUnavailable.v = s.windTick.wnd.liveWind.isNone := by
  have changed := noteChanges_windChange (WindContext.tick s.tables.hill s.now) s.wnd.contexts
    { s with wnd := windAfter s.tables s.now s.wnd.contexts }
  obtain ⟨y, lost, o, set⟩ := State.setV_touches
    (State.noteChanges s.wnd.contexts (s.wnd.contexts.map (WindContext.tick s.tables.hill s.now))
      { s with wnd := windAfter s.tables s.now s.wnd.contexts }) .liveWindUnavailable
    (windAfter s.tables s.now s.wnd.contexts).liveWind.isNone
  constructor
  · have same : s.windTick.conditions.windChange = (State.noteChanges s.wnd.contexts
        (s.wnd.contexts.map (WindContext.tick s.tables.hill s.now))
        { s with wnd := windAfter s.tables s.now s.wnd.contexts }).conditions.windChange :=
      congrArg (·.conditions.windChange) set
    rw [same]
    exact changed
  · obtain ⟨c, o', frame⟩ := windTick_frame s
    have wnd : s.windTick.wnd.liveWind = (windAfter s.tables s.now s.wnd.contexts).liveWind := by rw [frame]
    rw [wnd]
    exact State.setV_value (State.noteChanges s.wnd.contexts (s.wnd.contexts.map (WindContext.tick s.tables.hill s.now))
      { s with wnd := windAfter s.tables s.now s.wnd.contexts }) .liveWindUnavailable
      (windAfter s.tables s.now s.wnd.contexts).liveWind.isNone (by decide)

end

end Sys2Proof.Proofs
end

section
/-! The start at a cycle start, and the cycle start as a whole (O51). -/

namespace Sys2Proof.Proofs

open Sys2Proof.Machine Sys2Proof.Claims

/-! ### The live wind and a CLEARED record (R109, R112) -/

/-- A state with the live wind stored in STU. -/
def windStored (s : State) : State := { s with stu := { s.stu with lastLiveWind := s.wnd.liveWind } }

/-- A live wind within the band of the HILL table. -/
def InBand (h : HillTable) (live : Option Int) : Prop := ∃ w, live = some w ∧ h.bandLow ≤ w ∧ w ≤ h.bandHigh

section
variable {s : State} {k : Fin 4} {r : JumpRecord}

theorem testLiveWind_green (found : s.jtb.inState (fun x => decide (x = .cleared)) = some (k, r))
    (band : InBand s.tables.hill s.wnd.liveWind) : s.testLiveWind = (windStored s).enterGreen k := by
  obtain ⟨w, live, low, high⟩ := band
  unfold State.testLiveWind
  simp only [found]
  rw [show windStored s = { s with stu := { s.stu with lastLiveWind := s.wnd.liveWind } } from rfl]
  simp only [live]
  exact if_pos ⟨low, high⟩

theorem testLiveWind_stays
    (idle : s.jtb.inState (fun x => decide (x = .cleared)) = none ∨ ¬InBand s.tables.hill s.wnd.liveWind) :
    s.testLiveWind = windStored s := by
  unfold State.testLiveWind
  dsimp only
  split
  · next found live =>
    rcases idle with none | outside
    · rw [none] at found
      cases found
    · exact if_neg fun band => outside ⟨_, live, band⟩
  · rfl

theorem inState_cleared_none (none : ∀ k r, s.jtb.get k = some r → r.state ≠ .cleared) :
    s.jtb.inState (fun x => decide (x = .cleared)) = .none :=
  JumpTable.inState_none_iff.2 fun k r held => decide_eq_false (none k r held)

/-- What the test of the live wind leaves: the record taken to GREEN at most. -/
theorem testLiveWind_shown (s : State) :
    ∃ jtb stu lamp, ButShown { s with jtb := jtb, stu := stu, lsc := { s.lsc with lampSlot := lamp } } s.testLiveWind ∧
      stu.lastLiveWind = s.wnd.liveWind ∧
      ((∃ k r, jtb.get k = some r ∧ r.state = .landing) ↔ ∃ k r, s.jtb.get k = some r ∧ r.state = .landing) := by
  by_cases green : ∃ x, s.jtb.inState (fun x => decide (x = .cleared)) = some x ∧ InBand s.tables.hill s.wnd.liveWind
  · obtain ⟨⟨k, r⟩, found, band⟩ := green
    have held : (windStored s).jtb.get k = some r := get_of_inState found
    have cleared : r.state = .cleared := of_decide_eq_true (state_of_inState found held)
    rw [testLiveWind_green found band, enterGreen_eq held]
    obtain ⟨entered, -, -⟩ := enterState_shown (lamp := _) .green (greening_get (s := windStored s) (k := k) (r := r)) rfl
    refine ⟨_, _, _, butShown_trans (display_butShown _ (greening k r (windStored s)).dsp)
      (butShown_trans entered (sendCountdown_butShown _ _)), ?_, ?_⟩
    · change ((windStored s).stu.goGreen s.tables.hill s.now).lastLiveWind = _
      rw [StartUnit.goGreen, fixReference_eq]
      rfl
    · have other : ∀ j a, s.jtb.get j = some a → a.state = .landing → j ≠ k := by
        rintro j a stands landing rfl
        cases held.symm.trans stands
        rw [cleared] at landing
        cases landing
      have get : ∀ j, ((greening k r (windStored s)).jtb.set k (some ((greenTimed (windStored s) r).inState .green))).get j =
          if j = k then some ((greenTimed (windStored s) r).inState .green) else s.jtb.get j := by
        intro j
        rw [JumpTable.get_set]
        split
        · rfl
        · next apart => exact (JumpTable.get_set ..).trans (if_neg apart)
      constructor
      · rintro ⟨j, a, stands, landing⟩
        replace stands := (get j).symm.trans stands
        split at stands
        · cases stands
          cases landing
        · exact ⟨j, a, stands, landing⟩
      · rintro ⟨j, a, stands, landing⟩
        exact ⟨j, a, (get j).trans ((if_neg (other j a stands landing)).trans stands), landing⟩
  · have stays : s.testLiveWind = windStored s := by
      refine testLiveWind_stays ?_
      by_contra both
      obtain ⟨some, band⟩ := not_or.1 both
      obtain ⟨x, found⟩ := Option.ne_none_iff_exists'.1 some
      exact green ⟨x, found, not_not.1 band⟩
    rw [stays]
    exact ⟨s.jtb, (windStored s).stu, s.lsc.lampSlot, rfl, rfl, Iff.rfl⟩

end

/-! ### The cycle start -/

theorem cycleDue_of_fresh {now : Time} {s : State} (ready : s.ready = true) (whole : now.toNat % 1000 = 0) (later : now ≠ 0)
    (fresh : ∀ m x rest, s.hck.marks = (m, x) :: rest → x ≠ now) : (s.setNow now).cycleDue = true := by
  have last : (s.setNow now).lastCycleStart ≠ some now := by
    change s.hck.marks.head?.map (·.2) ≠ some now
    cases marks : s.hck.marks with
    | nil => exact nofun
    | cons m rest => exact fun same => fresh m.1 m.2 rest marks (Option.some.inj same)
  exact Bool.and_eq_true_iff.2 ⟨ready, decide_eq_true ⟨whole, later, last⟩⟩

/-- A state whose wind unit has ticked at a cycle start. -/
def ticked (now : Time) (s : State) : State := (cycleBegun now s).pushMark.windTick

section
variable (now : Time) (s : State)

theorem ticked_frame : ∃ conditions office, ticked now s =
    { (cycleBegun now s).pushMark with
      wnd := windAfter s.tables now s.wnd.contexts, conditions := conditions, office := office } := by
  obtain ⟨c, o, frame⟩ := windTick_frame (cycleBegun now s).pushMark
  have time : (cycleBegun now s).pushMark.now = now := cycleBegun_same now s State.now fun _ _ _ _ => rfl
  have tables : (cycleBegun now s).pushMark.tables = s.tables := cycleBegun_same now s State.tables fun _ _ _ _ => rfl
  have wnd : (cycleBegun now s).pushMark.wnd = s.wnd := cycleBegun_same now s State.wnd fun _ _ _ _ => rfl
  have after : windAfter (cycleBegun now s).pushMark.tables (cycleBegun now s).pushMark.now
      (cycleBegun now s).pushMark.wnd.contexts = windAfter s.tables now s.wnd.contexts := by rw [time, tables, wnd]
  rw [after] at frame
  exact ⟨c, o, frame⟩

/-- The wind unit's part, and the time, do not touch what neither LSC nor HCK nor a condition is. -/
theorem ticked_same {α : Type} (f : State → α)
    (seen : ∀ s lsc lineT lineS hck wnd conditions office, f { s with
      lsc := lsc, lineT := lineT, lineS := lineS, hck := hck, wnd := wnd, conditions := conditions, office := office } = f s) :
    f (ticked now s) = f s := by
  obtain ⟨c, o, frame⟩ := ticked_frame now s
  rw [frame]
  exact (seen (cycleBegun now s) ..).trans ((cycleBegun_same now s f fun v lsc lineT lineS => seen v lsc lineT lineS ..).trans
    (seen s s.lsc s.lineT s.lineS _ s.wnd s.conditions s.office))

theorem ticked_marks : (ticked now s).hck = ⟨now, ((BitVec.ofNat 8 s.lsc.cycleCount, now) :: s.hck.marks).take 16⟩ := by
  obtain ⟨c, o, frame⟩ := ticked_frame now s
  have hck : (cycleBegun now s).hck = (s.setNow now).hck := cycleBegun_same now s State.hck fun _ _ _ _ => rfl
  have mark : (cycleBegun now s).markNumber = BitVec.ofNat 8 s.lsc.cycleCount :=
    congrArg (BitVec.ofNat 8) (cycleBegun_count now s)
  have pushed : (cycleBegun now s).pushMark.hck =
      ⟨(cycleBegun now s).hck.time,
        (((cycleBegun now s).markNumber, (cycleBegun now s).hck.time) :: (cycleBegun now s).hck.marks).take 16⟩ := rfl
  rw [frame]
  refine pushed.trans ?_
  rw [mark, hck]
  rfl

theorem ticked_wnd : (ticked now s).wnd = windAfter s.tables now s.wnd.contexts := by
  obtain ⟨c, o, frame⟩ := ticked_frame now s
  rw [frame]

theorem ticked_conditions :
    WindChanged (windMoved (WindContext.tick s.tables.hill now) s.wnd.contexts) s.conditions.windChange
        (ticked now s).conditions.windChange ∧
      (ticked now s).conditions.liveWindUnavailable.v = (ticked now s).wnd.liveWind.isNone := by
  have conditions := windTick_conditions (cycleBegun now s).pushMark
  have time : (cycleBegun now s).pushMark.now = now := cycleBegun_same now s State.now fun _ _ _ _ => rfl
  have tables : (cycleBegun now s).pushMark.tables = s.tables := cycleBegun_same now s State.tables fun _ _ _ _ => rfl
  have wnd : (cycleBegun now s).pushMark.wnd = s.wnd := cycleBegun_same now s State.wnd fun _ _ _ _ => rfl
  have old : (cycleBegun now s).pushMark.conditions = s.conditions :=
    cycleBegun_same now s State.conditions fun _ _ _ _ => rfl
  rw [time, tables, wnd, old] at conditions
  exact conditions

/-- Segments and line units as the beginning of the cycle left them. -/
theorem ticked_segment (seg : Seg) : (ticked now s).seg seg = (cycleBegun now s).seg seg ∧
    (ticked now s).line (portFor seg) = (cycleBegun now s).line (portFor seg) := by
  obtain ⟨c, o, frame⟩ := ticked_frame now s
  rw [frame]
  cases seg <;> exact ⟨rfl, rfl⟩

theorem ticked_count : (ticked now s).lsc.cycleCount = s.lsc.cycleCount + 1 := by
  obtain ⟨c, o, frame⟩ := ticked_frame now s
  rw [frame]
  exact congrArg (· + 1) (cycleBegun_count now s)

end

/-- The settle count of a state with a record in LANDING (R134). -/
theorem countSettle_spec (v : State) :
    ((∃ k r, v.jtb.get k = some r ∧ r.state = .landing) → atOrAfter v.now v.flu.firstArrival = true →
      v.countSettle = { v with flu := { v.flu with settleCount := min 2 (v.flu.settleCount + 1) } }) ∧
    ((∀ k r, v.jtb.get k = some r → r.state ≠ .landing) → v.countSettle = v) := by
  constructor
  · rintro ⟨k, r, held, landing⟩ after
    have found : (v.jtb.inState fun x => decide (x = .landing)).isSome = true :=
      (inState_isSome_iff _ _).2 ⟨k, r, held, decide_eq_true landing⟩
    rw [State.countSettle, found, after]
    rfl
  · intro none
    have found : (v.jtb.inState fun x => decide (x = .landing)) = .none :=
      JumpTable.inState_none_iff.2 fun k r held => decide_eq_false (none k r held)
    rw [State.countSettle, found]
    rfl

theorem countSettle_same {α : Type} (f : State → α) (v : State) (seen : ∀ s flu, f { s with flu := flu } = f s) :
    f v.countSettle = f v := by
  unfold State.countSettle
  split
  · exact seen v _
  · rfl

/-! ### The record that the live wind takes to GREEN (R109, R112) -/

section
variable {now : Time} {s : State} {k : Fin 4} {r : JumpRecord}

theorem ticked_band (s : State) (now : Time) :
    InBand (ticked now s).tables.hill (ticked now s).wnd.liveWind ↔ InBand s.tables.hill (ticked now s).wnd.liveWind := by
  rw [ticked_same now s State.tables fun _ _ _ _ _ _ _ _ => rfl]

theorem ticked_cleared (one : OneActive s.jtb) (held : s.jtb.get k = some r) (cleared : r.state = .cleared) :
    (ticked now s).jtb.inState (fun x => decide (x = .cleared)) = some (k, r) := by
  rw [ticked_same now s State.jtb fun _ _ _ _ _ _ _ _ => rfl]
  exact inState_of_state one rfl held cleared

/-- Within the band the record goes to GREEN. -/
theorem ticked_green (one : OneActive s.jtb) (records : RecordsInRound s) (held : s.jtb.get k = some r)
    (cleared : r.state = .cleared) (band : InBand s.tables.hill (ticked now s).wnd.liveWind) :
    (ticked now s).testLiveWind.jtb = s.jtb.set k (some (greenRecord s.tables.hill now s.stu.gate r)) ∧
      (ticked now s).testLiveWind.stu =
        { wentGreen s.tables.hill now s.stu with lastLiveWind := (ticked now s).wnd.liveWind } ∧
      (ticked now s).testLiveWind.dsp.countdownSeconds = s.tables.hill.startTime := by
  have jtb : (ticked now s).jtb = s.jtb := ticked_same now s State.jtb fun _ _ _ _ _ _ _ _ => rfl
  have stu : (ticked now s).stu = s.stu := ticked_same now s State.stu fun _ _ _ _ _ _ _ _ => rfl
  have tables : (ticked now s).tables = s.tables := ticked_same now s State.tables fun _ _ _ _ _ _ _ _ => rfl
  have competition : (ticked now s).competition = s.competition :=
    ticked_same now s State.competition fun _ _ _ _ _ _ _ _ => rfl
  have time : (windStored (ticked now s)).now = now := congrArg (·.time) (ticked_marks now s)
  have active : r.state.active = true := by rw [cleared]; rfl
  rw [testLiveWind_green (ticked_cleared one held cleared) ((ticked_band s now).2 band)]
  obtain ⟨shown, -, seconds, -⟩ := enterGreen_shown (s := windStored (ticked now s)) (jtb ▸ held)
    (competition ▸ isOpen_of_record records held) (jtb ▸ aloneIn_of_active one held active)
  refine ⟨(butShown_same State.jtb shown fun _ => rfl :).trans ?_, (butShown_same State.stu shown fun _ => rfl :).trans ?_,
    seconds.trans (congrArg (·.hill.startTime) tables)⟩
  · change (ticked now s).jtb.set k (some (greenRecord (ticked now s).tables.hill (windStored (ticked now s)).now
      (ticked now s).stu.gate r)) = _
    rw [jtb, stu, time, tables]
  · change wentGreen (ticked now s).tables.hill (windStored (ticked now s)).now
      { (ticked now s).stu with lastLiveWind := (ticked now s).wnd.liveWind } = _
    rw [stu, time, tables]
    rfl

/-- Without a CLEARED record, or outside the band, the live wind is stored and nothing else. -/
theorem ticked_stays
    (idle : (∀ k r, s.jtb.get k = some r → r.state ≠ .cleared) ∨ ¬InBand s.tables.hill (ticked now s).wnd.liveWind) :
    (ticked now s).testLiveWind.jtb = s.jtb ∧
      (ticked now s).testLiveWind.stu = { s.stu with lastLiveWind := (ticked now s).wnd.liveWind } ∧
      (ticked now s).testLiveWind.dsp = s.dsp := by
  have jtb : (ticked now s).jtb = s.jtb := ticked_same now s State.jtb fun _ _ _ _ _ _ _ _ => rfl
  have stu : (ticked now s).stu = s.stu := ticked_same now s State.stu fun _ _ _ _ _ _ _ _ => rfl
  have dsp : (ticked now s).dsp = s.dsp := ticked_same now s State.dsp fun _ _ _ _ _ _ _ _ => rfl
  rw [testLiveWind_stays (idle.imp (fun none => inState_cleared_none (jtb ▸ none)) (mt (ticked_band s now).1))]
  refine ⟨jtb, ?_, dsp⟩
  rw [← stu]
  rfl

end

end Sys2Proof.Proofs
end

section
/-! CYCLE_START (O51). -/

namespace Sys2Proof.Proofs

open Sys2Proof.Machine Sys2Proof.Claims

/-- Settles O51: a cycle start begins the cycle on each segment that is not silent, and takes each unit through its part. -/
theorem cycleStarts : Obligations.CycleStarts := by
  intro now s on ready whole later fresh
  have due := cycleDue_of_fresh ready whole later fresh
  have taken : State.startCycle (s.setNow now) = (ticked now s).testLiveWind.countSettle := if_pos due
  obtain ⟨t, exec_eq, same, shows, conditions, lsc, -⟩ := event_taken (body := State.startCycle) on taken
  obtain ⟨jtb, stu, lamp, shown, live, landing⟩ := testLiveWind_shown (ticked now s)
  have fromTest {α : Type} (f : State → α) (h : ∀ v, f v = f (unreported v)) (h' : ∀ v flu, f { v with flu := flu } = f v) :
      f t = f (ticked now s).testLiveWind := (butReports_same f same h).trans (countSettle_same f _ h')
  have fromTicked {α : Type} (f : State → α) (h : ∀ v, f v = f (unshown v)) (h' : ∀ v flu, f { v with flu := flu } = f v)
      (h'' : ∀ v jtb stu lsc, f { v with jtb := jtb, stu := stu, lsc := { v.lsc with lampSlot := lsc } } = f v) :
      f t = f (ticked now s) :=
    (butShown_same f (butShown_of_reports same) h).trans ((countSettle_same f _ h').trans
      ((butShown_same f shown h).trans (h'' ..)))
  have kept {α : Type} (f : State → α) (h : ∀ v, f v = f (unshown v)) (h' : ∀ v flu, f { v with flu := flu } = f v)
      (h'' : ∀ v jtb stu lsc, f { v with jtb := jtb, stu := stu, lsc := { v.lsc with lampSlot := lsc } } = f v)
      (h''' : ∀ s lsc lineT lineS hck wnd conditions office, f { s with
        lsc := lsc, lineT := lineT, lineS := lineS, hck := hck, wnd := wnd, conditions := conditions, office := office } = f s) :
      f t = f s := (fromTicked f h h' h'').trans (ticked_same now s f h''')
  have wnd : t.wnd = (ticked now s).wnd := fromTicked State.wnd (fun _ => rfl) (fun _ _ => rfl) fun _ _ _ _ => rfl
  have winds := ticked_wnd now s
  obtain ⟨changed, unavailable⟩ := ticked_conditions now s
  have segT : t.lsc.segT.granted = (cycleBegun now s).lsc.segT.granted :=
    (fromTicked (·.lsc.segT.granted) (fun _ => rfl) (fun _ _ => rfl) fun _ _ _ _ => rfl).trans
      (congrArg (·.granted) (ticked_segment now s .T).1)
  have segS : t.lsc.segS.granted = (cycleBegun now s).lsc.segS.granted :=
    (fromTicked (·.lsc.segS.granted) (fun _ => rfl) (fun _ _ => rfl) fun _ _ _ _ => rfl).trans
      (congrArg (·.granted) (ticked_segment now s .S).1)
  have lineT : t.lineT = (cycleBegun now s).lineT :=
    (fromTicked State.lineT (fun _ => rfl) (fun _ _ => rfl) fun _ _ _ _ => rfl).trans (ticked_segment now s .T).2
  have lineS : t.lineS = (cycleBegun now s).lineS :=
    (fromTicked State.lineS (fun _ => rfl) (fun _ _ => rfl) fun _ _ _ _ => rfl).trans (ticked_segment now s .S).2
  obtain ⟨silentT, loudT⟩ := cycleBegun_own now s .T
  obtain ⟨silentS, loudS⟩ := cycleBegun_own now s .S
  have stuOf := fromTest State.stu (fun _ => rfl) fun _ _ => rfl
  have jtbOf := fromTest State.jtb (fun _ => rfl) fun _ _ => rfl
  have dspOf : t.dsp = (ticked now s).testLiveWind.dsp := shows.trans (countSettle_same State.dsp _ fun _ _ => rfl)
  have fluOf : (ticked now s).testLiveWind.flu = s.flu :=
    (butShown_same State.flu shown fun _ => rfl :).trans (ticked_same now s State.flu fun _ _ _ _ _ _ _ _ => rfl)
  have tflu : t.flu = (ticked now s).testLiveWind.countSettle.flu := butReports_same State.flu same fun _ => rfl
  have lands : (∃ k r, (ticked now s).testLiveWind.jtb.get k = some r ∧ r.state = .landing) ↔
      ∃ k r, s.jtb.get k = some r ∧ r.state = .landing := by
    have first : (ticked now s).testLiveWind.jtb = jtb := butShown_same State.jtb shown fun _ => rfl
    rw [first, landing, ticked_same now s State.jtb fun _ _ _ _ _ _ _ _ => rfl]
  refine ⟨t, exec_eq,
    (fromTicked (·.lsc.cycleCount) (fun _ => rfl) (fun _ _ => rfl) fun _ _ _ _ => rfl).trans (ticked_count now s),
    (fromTicked State.hck (fun _ => rfl) (fun _ _ => rfl) fun _ _ _ _ => rfl).trans (ticked_marks now s),
    fun loud => ?_, fun loud => ?_, fun x until_ silent => ?_, fun x until_ silent => ?_, ?_, ?_, ?_, ?_, ?_, ?_,
    kept State.tables (fun _ => rfl) (fun _ _ => rfl) (fun _ _ _ _ => rfl) fun _ _ _ _ _ _ _ _ => rfl,
    kept State.startList (fun _ => rfl) (fun _ _ => rfl) (fun _ _ _ _ => rfl) fun _ _ _ _ _ _ _ _ => rfl,
    kept State.results (fun _ => rfl) (fun _ _ => rfl) (fun _ _ _ _ => rfl) fun _ _ _ _ _ _ _ _ => rfl,
    kept State.competition (fun _ => rfl) (fun _ _ => rfl) (fun _ _ _ _ => rfl) fun _ _ _ _ _ _ _ _ => rfl,
    fun k r one records held cleared => ⟨fun w wind low high => ?_, fun outside => ?_⟩, fun none => ?_, fun some after => ?_,
    fun none => ?_⟩
  · obtain ⟨granted, line⟩ := loudT ((not_silent_iff ..).2 loud)
    exact ⟨segT.trans granted, lineT.trans line⟩
  · obtain ⟨granted, line⟩ := loudS ((not_silent_iff ..).2 loud)
    exact ⟨segS.trans granted, lineS.trans line⟩
  · obtain ⟨granted, line⟩ := silentT ((silent_iff ..).2 ⟨x, until_, silent⟩)
    exact ⟨segT.trans granted, lineT.trans line⟩
  · obtain ⟨granted, line⟩ := silentS ((silent_iff ..).2 ⟨x, until_, silent⟩)
    exact ⟨segS.trans granted, lineS.trans line⟩
  · rw [wnd, winds]
    rfl
  · rw [fromTicked (·.conditions.windChange) (fun _ => rfl) (fun _ _ => rfl) fun _ _ _ _ => rfl]
    exact changed
  · rw [wnd, winds]
    rfl
  · rw [wnd, winds]
    rfl
  · rw [stuOf, wnd, ← live]
    exact congrArg (·.lastLiveWind) (butShown_same State.stu shown fun _ => rfl :)
  · rw [fromTicked (·.conditions.liveWindUnavailable.v) (fun _ => rfl) (fun _ _ => rfl) fun _ _ _ _ => rfl, wnd]
    exact unavailable
  · rw [wnd] at wind
    obtain ⟨records', unit, seconds⟩ := ticked_green one records held cleared ⟨w, wind, low, high⟩
    rw [jtbOf, stuOf, dspOf, ← wind]
    exact ⟨records', unit, seconds⟩
  · rw [wnd] at outside ⊢
    obtain ⟨records', unit, -⟩ := ticked_stays (now := now) (s := s)
      (.inr fun ⟨w, wind, band⟩ => outside w wind band)
    rw [jtbOf, stuOf]
    exact ⟨records', unit⟩
  · rw [wnd, jtbOf, stuOf, dspOf]
    exact ticked_stays (.inl none)
  · have time : (ticked now s).testLiveWind.now = now :=
      (butShown_same State.now shown fun _ => rfl :).trans (congrArg (·.time) (ticked_marks now s))
    rw [tflu, (countSettle_spec _).1 (lands.2 some) (by rw [time, fluOf]; exact after), fluOf]
  · rw [tflu, (countSettle_spec _).2 (fun k r held landing => ?_), fluOf]
    obtain ⟨j, a, stands, lands⟩ := lands.1 ⟨k, r, held, landing⟩
    exact none j a stands lands

end Sys2Proof.Proofs
end

section
/-! The checks of LOAD_END, and the swaps of every table but STATIONS (R43, R91, R92, R193). -/

namespace Sys2Proof.Proofs

open Sys2Proof.Machine Sys2Proof.Claims

/-! ### Checks 5 to 7 (R43, R193) -/

/-- Why a table may not become active now, in the order of R193. -/
def swapRefusals (x : LoadedTable) (s : State) : List (Prop × Status) :=
  [(RoundOpen s ∧ ((∃ h, x = .hill h) ∨ ∃ d, x = .distance d), .locked),
    (RoundOpen s ∧ ∃ n, x = .stations n ∧ ¬∀ w, w ∈ windPlaces n ↔ w ∈ windPlaces s.tables.stations, .locked),
    (∃ c, x = .competitors c ∧
      ∃ bib, (bib ∈ s.startList ∨ bib ∈ recordBibs s ∨ ∃ e ∈ s.results, e.bib = bib) ∧ ∀ y ∈ c, y.bib ≠ bib, .wrongState)]

theorem windEntriesDiffer_iff (a b : List StationEntry) :
    windEntriesDiffer a b = true ↔ ¬∀ w, w ∈ windPlaces a ↔ w ∈ windPlaces b := by
  unfold windEntriesDiffer
  rw [Bool.not_eq_true', ← Bool.not_eq_true, not_iff_not, Bool.and_eq_true, List.all_eq_true, List.all_eq_true]
  simp only [decide_eq_true_eq]
  exact ⟨fun ⟨there, back⟩ w => ⟨there w, back w⟩, fun same => ⟨fun w => (same w).1, fun w => (same w).2⟩⟩

theorem keepsBibs_iff (s : State) (c : List Competitor) :
    keepsBibs s c = false ↔
      ∃ bib, (bib ∈ s.startList ∨ bib ∈ recordBibs s ∨ ∃ e ∈ s.results, e.bib = bib) ∧ ∀ y ∈ c, y.bib ≠ bib := by
  unfold keepsBibs
  rw [List.all_eq_false]
  refine exists_congr fun bib => and_congr ?_ ?_
  · rw [List.mem_append, List.mem_append, or_assoc, List.mem_map (l := s.results)]
    rfl
  · rw [Bool.not_eq_true, ← competitorOf_isNone_iff, ← Option.not_isSome, Bool.not_eq_true']

/-- The first refusal that applies is the one the model gives. -/
theorem swapRefusal_of_first {x : LoadedTable} {s : State} {o : Option Status} (first : FirstOf (swapRefusals x s) o) :
    swapRefusal s x = o := by
  have round := isOpen_iff_roundOpen s
  cases x with
  | hill h =>
    simp only [swapRefusals, FirstOf, LoadedTable.hill.injEq, exists_eq', true_or, and_true, reduceCtorEq, false_and, and_false,
      exists_false, not_false_iff, true_and, false_or, ← round] at first
    unfold swapRefusal
    obtain ⟨locked, rfl⟩ | ⟨free, rfl⟩ := first
    · exact if_pos locked
    · exact if_neg free
  | distance d =>
    simp only [swapRefusals, FirstOf, LoadedTable.distance.injEq, exists_eq', or_true, and_true, reduceCtorEq, false_and,
      and_false, exists_false, not_false_iff, true_and, false_or, ← round] at first
    unfold swapRefusal
    obtain ⟨locked, rfl⟩ | ⟨free, rfl⟩ := first
    · exact if_pos locked
    · exact if_neg free
  | stations n =>
    simp only [swapRefusals, FirstOf, LoadedTable.stations.injEq, exists_eq_left', reduceCtorEq, false_and, and_false,
      exists_false, or_self, not_false_iff, true_and, false_or, ← round, ← windEntriesDiffer_iff, ← Bool.and_eq_true] at first
    unfold swapRefusal
    obtain ⟨locked, rfl⟩ | ⟨free, rfl⟩ := first
    · exact if_pos locked
    · exact if_neg free
  | competitors c =>
    simp only [swapRefusals, FirstOf, LoadedTable.competitors.injEq, exists_eq_left', reduceCtorEq, false_and, and_false,
      exists_false, or_self, not_false_iff, true_and, false_or, ← keepsBibs_iff] at first
    unfold swapRefusal
    obtain ⟨drops, rfl⟩ | ⟨keeps, rfl⟩ := first
    · exact if_neg (by simp [drops])
    · exact if_pos (by simpa using keeps)
  | schedT n =>
    simp only [swapRefusals, FirstOf, reduceCtorEq, exists_false, or_self, and_false, false_and, not_false_iff, true_and,
      false_or] at first
    exact first.symm
  | schedS n =>
    simp only [swapRefusals, FirstOf, reduceCtorEq, exists_false, or_self, and_false, false_and, not_false_iff, true_and,
      false_or] at first
    exact first.symm

/-! ### LOAD_END up to the swap -/

section
variable {s : State}

theorem loadEnd_unopened (closed : s.loadBuffer = none) : loadEnd s = refuse .wrongState s := by
  rw [loadEnd, closed]

variable {b : LoadBuffer} (opened : s.loadBuffer = some b)
include opened

theorem loadEnd_busy (busy : s.engine ≠ none) : loadEnd s = refuse .busy s := by
  rw [loadEnd, opened]
  exact if_pos (Option.isSome_iff_ne_none.2 busy)

variable (idle : s.engine = none)
include idle

theorem loadEnd_bad (bad : b.content.length < b.length ∨ tableOfImage s.tables.stations b.table b.content = none) :
    loadEnd s = refuse .badValue { s with loadBuffer := none } := by
  rw [loadEnd, opened]
  dsimp only
  rw [idle, if_neg (by simp)]
  split
  · rfl
  · next full =>
    rcases bad with short | unreadable
    · exact absurd short full
    · rw [unreadable]

variable (full : b.length ≤ b.content.length) {x : LoadedTable}
  (reads : tableOfImage s.tables.stations b.table b.content = some x)
include full reads

theorem loadEnd_refused {status : Status} (refused : swapRefusal s x = some status) :
    loadEnd s = refuse status { s with loadBuffer := none } := by
  rw [loadEnd, opened]
  dsimp only
  rw [idle, if_neg (by simp), if_neg (Nat.not_lt.2 full), reads]
  dsimp only
  rw [refused]

theorem loadEnd_swaps (passes : swapRefusal s x = none) :
    loadEnd s = accept (.tableLoaded b.table.code b.length) (State.swapTable x { s with loadBuffer := none }) := by
  rw [loadEnd, opened]
  dsimp only
  rw [idle, if_neg (by simp), if_neg (Nat.not_lt.2 full), reads]
  dsimp only
  rw [passes]

end

/-! ### A HILL swap (R91, R92) -/

/-- A state with another HILL table active, before its wind contexts are tested again. -/
def hillSwapped (h : HillTable) (s : State) : State := { s with tables := { s.tables with hill := h } }

section
variable (h : HillTable) (s : State)

theorem retest_state (c : WindContext) :
    decide ((c.retest h).state ≠ c.state) =
      decide (c.state ≠ .lost ∧ (h.lostThreshold ≤ c.badRun ∨ c.ring.length < h.lostThreshold)) := by
  unfold WindContext.retest
  rw [decide_eq_decide]
  split
  · next falls => exact ⟨fun moves => ⟨Ne.symm moves, falls⟩, fun moves => Ne.symm moves.1⟩
  · next stays => exact ⟨fun moves => absurd rfl moves, fun moves => absurd moves.2 stays⟩

/-- A HILL swap touches HILL, the wind contexts, the conditions and the office queue. -/
theorem swapHill_frame : ∃ conditions office, State.swapTable (.hill h) s =
    { s with
      tables := { s.tables with hill := h }
      wnd := { s.wnd with contexts := s.wnd.contexts.map (WindContext.retest h) }
      conditions := conditions
      office := office } := by
  obtain ⟨c, o, frame⟩ := State.noteChanges_frame
    { hillSwapped h s with wnd := { s.wnd with contexts := s.wnd.contexts.map (WindContext.retest h) } }
    s.wnd.contexts (s.wnd.contexts.map (WindContext.retest h))
  exact ⟨c, o, frame⟩

theorem swapHill_windChange :
    WindChanged ((s.wnd.contexts.filter fun c =>
        decide (c.state ≠ .lost ∧ (h.lostThreshold ≤ c.badRun ∨ c.ring.length < h.lostThreshold))).map (·.index))
      s.conditions.windChange (State.swapTable (.hill h) s).conditions.windChange := by
  have noted := noteChanges_windChange (WindContext.retest h) s.wnd.contexts
    { hillSwapped h s with wnd := { s.wnd with contexts := s.wnd.contexts.map (WindContext.retest h) } }
  unfold windMoved at noted
  simp only [retest_state] at noted
  exact noted

end

end Sys2Proof.Proofs
end

section
/-! The stations that a STATIONS swap drops (R12, R13, R118, R120). -/

namespace Sys2Proof.Proofs

open Sys2Proof.Machine Sys2Proof.Claims

/-! ### WIND_CHANGE under a presence change -/

section
variable (s : State) (addr : Nat) (old new : Presence)

theorem announcePresence_windChange :
    (s.announcePresence addr old new).conditions.windChange = s.conditions.windChange := by
  have raised : (s.announcePresence addr old new).conditions.windChange =
      (s.reportStation addr old new).conditions.windChange :=
    State.raise_others (s.reportStation addr old new) .stationChange .windChange addr (by decide) (by decide)
  exact raised.trans (butReports_same (·.conditions.windChange) (reportStation_butReports s addr old new) fun _ => rfl)

theorem loseLight_windChange : s.loseLight.conditions.windChange = s.conditions.windChange := by
  unfold State.loseLight
  cases found : s.jtb.inState fun x => decide (x = .cleared ∨ x = .green) with
  | none => rfl
  | some x => exact (butShown_same (·.conditions.windChange) (withdraw_shown .lightLost (get_of_inState found)).1 fun _ => rfl :)

theorem lightChanged_windChange : (s.lightChanged old new).conditions.windChange = s.conditions.windChange := by
  have lost : (if old = .present then s.loseLight else s).conditions.windChange = s.conditions.windChange := by
    split
    · exact loseLight_windChange s
    · rfl
  unfold State.lightChanged
  dsimp only
  split
  · rw [endEcho_eq]
    exact lost
  · exact lost

end

/-! ### One station dropped -/

/-- A station that a swap drops, and that the light is. -/
def dropsLight (x : StationEntry × Presence) : Prop := x.1.role.kind = .light ∧ x.2 = .present

section
variable (s : State) {x : StationEntry × Presence}

theorem dropStation_absent (absent : x.2 = .absent) : s.dropStation x = s := if_pos absent

theorem dropStation_light (light : x.1.role.kind = .light) (here : x.2 ≠ .absent) :
    s.dropStation x = s.presenceChanged x.1.addr .light x.2 .absent := by
  rw [State.dropStation, if_neg here]
  exact if_pos light

theorem dropStation_other (other : x.1.role.kind ≠ .light) (here : x.2 ≠ .absent) :
    s.dropStation x = s.announcePresence x.1.addr x.2 .absent := by
  rw [State.dropStation, if_neg here]
  exact if_neg other

/-- A station other than the light moves no more than its announcement does. -/
theorem announcePresence_absents (addr : Nat) (old : Presence) : Absents 1 s (s.announcePresence addr old .absent) :=
  presenceChanged_absents s addr .wind old

theorem dropStation_absents (x : StationEntry × Presence) : Absents 1 s (s.dropStation x) := by
  by_cases absent : x.2 = .absent
  · rw [dropStation_absent s absent]
    obtain ⟨spares, gains, rest⟩ := absents_refl s
    exact ⟨spares, gains.trans (.refl s 4), rest⟩
  · by_cases light : x.1.role.kind = .light
    · rw [dropStation_light s light absent]
      exact presenceChanged_absents ..
    · rw [dropStation_other s light absent]
      exact announcePresence_absents ..

theorem dropStation_scheduler (x : StationEntry × Presence) : ∃ lamp q, (s.dropStation x).lsc =
    { s.lsc with lampSlot := lamp, segS := { s.lsc.segS with queue := q } } := by
  by_cases absent : x.2 = .absent
  · exact ⟨s.lsc.lampSlot, s.lsc.segS.queue, by rw [dropStation_absent s absent]⟩
  · by_cases light : x.1.role.kind = .light
    · rw [dropStation_light s light absent]
      exact presenceChanged_scheduler ..
    · exact ⟨s.lsc.lampSlot, s.lsc.segS.queue, by rw [dropStation_other s light absent, State.announcePresence_lsc]⟩

theorem dropStation_windChange (x : StationEntry × Presence) :
    (s.dropStation x).conditions.windChange = s.conditions.windChange := by
  by_cases absent : x.2 = .absent
  · rw [dropStation_absent s absent]
  · by_cases light : x.1.role.kind = .light
    · rw [dropStation_light s light absent]
      exact (lightChanged_windChange _ x.2 .absent).trans (announcePresence_windChange ..)
    · rw [dropStation_other s light absent, announcePresence_windChange]

/-- What is left as it stands by the loss of a station that is not the light. -/
def Unlit (s u : State) : Prop :=
  u.lsc = s.lsc ∧ u.stu = s.stu ∧ u.jtb = s.jtb ∧ u.startList = s.startList ∧
    u.conditions.lampMismatch.v = s.conditions.lampMismatch.v

theorem dropStation_unlit (other : x.1.role.kind ≠ .light) : Unlit s (s.dropStation x) := by
  by_cases absent : x.2 = .absent
  · rw [dropStation_absent s absent]
    exact ⟨rfl, rfl, rfl, rfl, rfl⟩
  · rw [dropStation_other s other absent]
    have same := announcePresence_noted s x.1.addr x.2 .absent
    exact ⟨State.announcePresence_lsc .., State.announcePresence_stu .., State.announcePresence_jtb ..,
      State.announcePresence_startList .., (butNoted_same (·.conditions.lampMismatch.v) same fun _ => rfl :)⟩

/-- A station whose loss takes no record. -/
theorem dropStation_stands
    (harmless : ¬dropsLight x ∨ ∀ k r, s.jtb.get k = some r → r.state ≠ .cleared ∧ r.state ≠ .green) :
    Stands s (s.dropStation x) := by
  by_cases absent : x.2 = .absent
  · rw [dropStation_absent s absent]
    exact ⟨rfl, rfl⟩
  by_cases light : x.1.role.kind = .light
  · rw [dropStation_light s light absent]
    have same := presenceChanged_noted s x.1.addr .light x.2 .absent
    have stays : lostFrom x.2 (stationChanged s) = stationChanged s := by
      unfold lostFrom
      split
      · next present =>
        rcases harmless with away | none
        · exact absurd ⟨light, present⟩ away
        · exact inLost_none none
      · rfl
    rw [inMoved_light_absent, stays] at same
    exact ⟨(butNoted_same (·.jtb) same fun _ => rfl :), (butNoted_same (·.startList) same fun _ => rfl :)⟩
  · obtain ⟨-, -, jtb, list, -⟩ := dropStation_unlit s light
    exact ⟨jtb, list⟩

/-- The record of a slot is freed, its bib returned. -/
def Returned (k : Fin 4) (r : JumpRecord) (s u : State) : Prop := u.jtb = s.jtb.set k none ∧ u.startList = r.bib :: s.startList

variable {u : State} {k : Fin 4} {r : JumpRecord} (one : OneActive s.jtb) (held : s.jtb.get k = some r)
  (start : r.state = .cleared ∨ r.state = .green)
include one held start

theorem dropStation_takes (light : dropsLight x) (stands : Stands s u) : Returned k r s (u.dropStation x) := by
  obtain ⟨kind, present⟩ := light
  obtain ⟨jtb, list⟩ := stands
  rw [dropStation_light u kind (by rw [present]; exact nofun), present]
  obtain ⟨jtb', list'⟩ := presenceChanged_light u x.1.addr .absent
  rw [Returned, jtb', list', inLost_start (s := stationChanged u) (jtb ▸ one) (jtb ▸ held) start]
  exact ⟨congrArg (·.set k none) jtb, congrArg (r.bib :: ·) list⟩

theorem returned_leaves_none (returned : Returned k r s u) (j : Fin 4) (y : JumpRecord) (stands : u.jtb.get j = some y) :
    y.state ≠ .cleared ∧ y.state ≠ .green := by
  have active : r.state.active = true := by
    obtain h | h := start <;> rw [h] <;> rfl
  rw [returned.1, JumpTable.get_set] at stands
  split at stands
  · cases stands
  · next apart =>
    have idle := aloneIn_of_active one held active j y apart stands
    constructor <;> intro h <;> rw [h] at idle <;> cases idle

theorem dropStation_returned (returned : Returned k r s u) : Returned k r s (u.dropStation x) := by
  obtain ⟨jtb, list⟩ := dropStation_stands u (x := x) (.inr (returned_leaves_none s one held start returned))
  exact ⟨jtb.trans returned.1, list.trans returned.2⟩

end

/-! ### The stations of a list -/

section
variable (l : List (StationEntry × Presence)) (s : State)

theorem foldl_drops_absents : Absents l.length s (l.foldl State.dropStation s) := by
  induction l generalizing s with
  | nil => exact absents_refl s
  | cons x rest ih =>
    rw [List.foldl_cons, List.length_cons, Nat.add_comm]
    exact absents_trans (dropStation_absents s x) (ih _)

theorem foldl_drops_scheduler : ∃ lamp q, (l.foldl State.dropStation s).lsc =
    { s.lsc with lampSlot := lamp, segS := { s.lsc.segS with queue := q } } := by
  induction l generalizing s with
  | nil => exact ⟨s.lsc.lampSlot, s.lsc.segS.queue, rfl⟩
  | cons x rest ih =>
    obtain ⟨_, _, first⟩ := dropStation_scheduler s x
    obtain ⟨lamp, q, later⟩ := ih (s.dropStation x)
    exact ⟨lamp, q, by rw [List.foldl_cons, later, first]⟩

theorem foldl_drops_windChange : (l.foldl State.dropStation s).conditions.windChange = s.conditions.windChange := by
  induction l generalizing s with
  | nil => rfl
  | cons x rest ih => exact (ih _).trans (dropStation_windChange s x)

theorem foldl_drops_unlit (other : ∀ x ∈ l, x.1.role.kind ≠ .light) : Unlit s (l.foldl State.dropStation s) := by
  induction l generalizing s with
  | nil => exact ⟨rfl, rfl, rfl, rfl, rfl⟩
  | cons x rest ih =>
    obtain ⟨lsc, stu, jtb, list, mismatch⟩ := dropStation_unlit s (other x List.mem_cons_self)
    obtain ⟨lsc', stu', jtb', list', mismatch'⟩ := ih (s.dropStation x) fun y listed => other y (List.mem_cons_of_mem _ listed)
    exact ⟨lsc'.trans lsc, stu'.trans stu, jtb'.trans jtb, list'.trans list, mismatch'.trans mismatch⟩

/-- Of the stations of a list the PRESENT light takes the record, or one before it has. -/
theorem foldl_drops_takes {k : Fin 4} {r : JumpRecord} (one : OneActive s.jtb) (held : s.jtb.get k = some r)
    (start : r.state = .cleared ∨ r.state = .green) {u : State} {x : StationEntry × Presence} (light : dropsLight x)
    (either : (Stands s u ∧ x ∈ l) ∨ Returned k r s u) : Returned k r s (l.foldl State.dropStation u) := by
  induction l generalizing u with
  | nil => exact either.resolve_left fun ⟨_, listed⟩ => nomatch listed
  | cons y rest ih =>
    refine ih ?_
    rcases either with ⟨stands, listed⟩ | returned
    · by_cases takes : dropsLight y
      · exact .inr (dropStation_takes s one held start takes stands)
      · obtain ⟨jtb, list⟩ := dropStation_stands u (x := y) (.inl takes)
        have later := (List.mem_cons.1 listed).resolve_left fun same => takes (same ▸ light)
        exact .inl ⟨⟨jtb.trans stands.1, list.trans stands.2⟩, later⟩
    · exact .inr (dropStation_returned s one held start returned)

/-- What a dropped station that was not ABSENT leaves. -/
theorem foldl_drops_station {x : StationEntry × Presence} (listed : x ∈ l) (here : x.2 ≠ .absent) :
    (l.foldl State.dropStation s).conditions.stationChange.i = true ∧
      (s.enables.station = true → s.office.count + 4 * l.length < 64 →
        .station x.1.addr x.2 .absent ∈ (l.foldl State.dropStation s).office.reports) ∧
      (x.1.role.kind = .light → (l.foldl State.dropStation s).stu.echoRun = 0 ∧
        (l.foldl State.dropStation s).conditions.lampMismatch.v = false) := by
  obtain ⟨before, behind, rfl⟩ := List.append_of_mem listed
  obtain ⟨⟨-, -, -, -, -, -, -, -, -, -, -, -, -, enables, -⟩, gains, -⟩ := foldl_drops_absents before s
  rw [List.foldl_append, List.foldl_cons]
  generalize before.foldl State.dropStation s = p at enables gains
  obtain ⟨-, gains', -, change, -, mismatch, echo⟩ := foldl_drops_absents behind (p.dropStation x)
  have counts := gains.count
  have room (fits : s.office.count + 4 * (before ++ x :: behind).length < 64) : p.office.count < 60 := by
    rw [List.length_append, List.length_cons] at fits
    omega
  by_cases light : x.1.role.kind = .light
  · rw [dropStation_light p light here] at gains' change mismatch echo ⊢
    obtain ⟨-, mismatch', echo'⟩ := presenceChanged_absent p x.1.addr .light x.2
    exact ⟨change (presenceChanged_indicates ..),
      fun enabled fits => gains'.keeps_report (presenceChanged_reports p x.1.addr .light x.2 .absent (enables ▸ enabled) (room fits)),
      fun _ => ⟨echo echo', mismatch mismatch'⟩⟩
  · rw [dropStation_other p light here] at gains' change mismatch echo ⊢
    exact ⟨change (State.raise_indicates (p.reportStation x.1.addr x.2 .absent) .stationChange x.1.addr (by decide)).1,
      fun enabled fits => gains'.keeps_report (announcePresence_reports p x.1.addr x.2 .absent (enables ▸ enabled) (room fits)),
      fun kind => absurd kind light⟩

end

end Sys2Proof.Proofs
end

section
/-! A STATIONS swap: presence, queues and slots, the wind contexts, the light and the gate (R9, R13, R25, R79, R101, R120). -/

namespace Sys2Proof.Proofs

open Sys2Proof.Machine Sys2Proof.Claims

/-! ### Stations that stand in both tables (R13, R25) -/

theorem keepsStation_iff (n : List StationEntry) (e : StationEntry) : keepsStation n e = true ↔ StandsIn n e := by
  unfold keepsStation StandsIn
  rw [Option.any_eq_true]
  simp only [decide_eq_true_eq]

theorem keepsStation_false (n : List StationEntry) (e : StationEntry) : keepsStation n e = false ↔ ¬StandsIn n e := by
  rw [← keepsStation_iff, Bool.not_eq_true]

theorem keepsFrame_eq (old new : List StationEntry) (seg : Seg) : keepsFrame old new seg = staysQueued old new seg := by
  funext f
  unfold keepsFrame staysQueued
  cases was : stationAt old f.station with
  | none => rfl
  | some a =>
    have addr := stationAt_addr was
    rw [Option.any_some, Option.any_some, keepsStation, addr]
    cases stationAt new f.station with
    | none => rfl
    | some b =>
      rw [Option.any_some, Option.any_some, Option.any_some, Bool.decide_and]
      exact congrArg (· && decide (b.port = seg)) (decide_eq_decide.2 eq_comm)

theorem swap_slot (old new : List StationEntry) (seg : Seg) (g : Segment) :
    (g.slot = none → (g.swap old new seg).slot = none) ∧
      ∀ slot, g.slot = some slot →
        (StandsIn new slot.entry → (g.swap old new seg).slot = some slot) ∧
          (¬StandsIn new slot.entry → (g.swap old new seg).slot = some { slot with orphan := true }) := by
  refine ⟨fun free => by rw [Segment.swap, free]; rfl, fun slot taken => ⟨fun stands => ?_, fun gone => ?_⟩⟩
  · rw [Segment.swap, taken, Option.map_some, (keepsStation_iff ..).2 stands, Bool.not_true, Bool.or_false]
  · rw [Segment.swap, taken, Option.map_some, (keepsStation_false ..).2 gone, Bool.not_false, Bool.or_true]

/-! ### Presence at a swap (R13) -/

section
variable (old : List StationEntry) (links : List Link)

theorem swappedLink_addr (e : StationEntry) : (swappedLink old links e).addr = e.addr := by
  unfold swappedLink
  split
  · cases found : linkAt links e.addr with
    | none => rfl
    | some l => exact linkAt_addr found
  · rfl

theorem linkAt_swapped (n : List StationEntry) (a : Nat) :
    linkAt (n.map (swappedLink old links)) a = (stationAt n a).map (swappedLink old links) := by
  unfold linkAt stationAt
  rw [List.find?_map]
  congr 2
  funext e
  rw [Function.comp, swappedLink_addr]

end

/-! ### LSC's part of the swap, and the stations it drops -/

/-- A state with another STATIONS table active, LSC having met it. -/
def stationsSwapped (n : List StationEntry) (s : State) : State :=
  { s with
    tables := { s.tables with stations := n }
    lsc := { s.lsc with
      segT := s.lsc.segT.swap s.tables.stations n .T
      segS := s.lsc.segS.swap s.tables.stations n .S
      links := n.map (swappedLink s.tables.stations s.lsc.links) } }

/-- The stations that a swap drops or re-kinds, each with its presence before it. -/
def lostStations (n : List StationEntry) (s : State) : List (StationEntry × Presence) :=
  (s.tables.stations.filter fun e => !keepsStation n e).map fun e =>
    (e, ((linkAt s.lsc.links e.addr).map (·.presence)).getD .absent)

/-- A state whose dropped stations are lost. -/
def dropped (n : List StationEntry) (s : State) : State :=
  (lostStations n s).foldl State.dropStation (stationsSwapped n s)

theorem swapStations_eq (n : List StationEntry) (s : State) :
    s.swapStations n = ((dropped n s).followLight.windSwap).followGate := rfl

theorem lostStations_length (n : List StationEntry) (s : State) :
    (lostStations n s).length ≤ s.tables.stations.length := by
  rw [lostStations, List.length_map]
  exact List.length_filter_le _ _

theorem mem_lostStations {n : List StationEntry} {s : State} {e : StationEntry} {l : Link} (listed : e ∈ s.tables.stations)
    (gone : ¬StandsIn n e) (found : linkAt s.lsc.links e.addr = some l) : (e, l.presence) ∈ lostStations n s := by
  refine List.mem_map.2 ⟨e, List.mem_filter.2 ⟨listed, ?_⟩, ?_⟩
  · rw [(keepsStation_false ..).2 gone]
    rfl
  · rw [found]
    rfl

theorem lostStations_unlit {n : List StationEntry} {s : State}
    (lit : ∀ e ∈ s.tables.stations, e.role.kind = .light → StandsIn n e) : ∀ x ∈ lostStations n s, x.1.role.kind ≠ .light := by
  intro x lost light
  obtain ⟨e, filtered, rfl⟩ := List.mem_map.1 lost
  obtain ⟨listed, gone⟩ := List.mem_filter.1 filtered
  rw [(keepsStation_iff ..).2 (lit e listed light)] at gone
  cases gone

/-! ### The wind contexts (R79) -/

/-- `u` is `s` after WIND_CHANGE was raised for the contexts of some wind indices. -/
def WindNoted (l : List Nat) (s u : State) : Prop :=
  (∃ conditions office, u = { s with conditions := conditions, office := office }) ∧
    u.conditions.stationChange = s.conditions.stationChange ∧ u.conditions.lampMismatch = s.conditions.lampMismatch ∧
    WindChanged l s.conditions.windChange u.conditions.windChange ∧ ∀ r ∈ s.office.reports, r ∈ u.office.reports

theorem windNoted_foldl (l : List WindContext) (s : State) :
    WindNoted (l.map (·.index)) s (l.foldl (fun s c => s.raise .windChange c.index) s) := by
  induction l generalizing s with
  | nil => exact ⟨⟨_, _, rfl⟩, rfl, rfl, windChanged_nil _, fun _ => id⟩
  | cons c rest ih =>
    obtain ⟨⟨conditions, office, frame⟩, change, mismatch, moved, reports⟩ := ih (s.raise .windChange c.index)
    obtain ⟨y, lost, o, raised⟩ := State.raise_touches s .windChange c.index
    refine ⟨⟨conditions, office, ?_⟩, ?_, ?_, windChanged_cons moved,
      fun r waits => reports r ((State.raise_gains s .windChange c.index).keeps_report waits)⟩
    · rw [List.foldl_cons, frame, raised]
    · rw [List.foldl_cons, change, raised]
      rfl
    · rw [List.foldl_cons, mismatch, raised]
      rfl

/-- A state with the wind contexts of its STATIONS table. -/
def contextsSwapped (s : State) : State :=
  { s with wnd := { s.wnd with contexts := swappedContexts s.wnd.contexts s.tables.stations } }

theorem windSwap_noted (s : State) :
    WindNoted ((s.wnd.contexts.filter fun c =>
        decide (c.state ≠ .lost ∧ (windPlaceOf s.tables.stations c.index).map (·.bearing) ≠ some c.bearing)).map (·.index))
      (contextsSwapped s) s.windSwap := by
  have same : (fun c : WindContext => lostAtSwap s.tables.stations c && decide (c.state ≠ .lost)) = fun c =>
      decide (c.state ≠ .lost ∧ (windPlaceOf s.tables.stations c.index).map (·.bearing) ≠ some c.bearing) := by
    funext c
    rw [lostAtSwap, Bool.and_comm, Bool.decide_and]
  rw [← same]
  exact windNoted_foldl _ (contextsSwapped s)

theorem swappedContexts_indices (old : List WindContext) (n : List StationEntry) :
    (swappedContexts old n).map (·.index) = (freshContexts n).map (·.index) := by
  rw [swappedContexts, List.map_map]
  refine List.map_congr_left fun c _ => ?_
  rw [Function.comp]
  split
  · next x found => exact (of_decide_eq_true (List.find?_some (p := fun x : WindContext =>
      decide (x.index = c.index ∧ x.bearing = c.bearing)) found)).1
  · rfl

theorem mem_swappedContexts {old : List WindContext} {n : List StationEntry} {c : WindContext} (listed : c ∈ swappedContexts old n) :
    ∃ w ∈ windPlaces n, w.index = c.index ∧
      c = (old.find? fun y => decide (y.index = w.index ∧ y.bearing = w.bearing)).getD
        ⟨w.index, w.bearing, [], 0, [], .lost, 0, 0, 0, 0⟩ := by
  obtain ⟨f, fresh, rfl⟩ := List.mem_map.1 listed
  obtain ⟨w, place, rfl⟩ := mem_freshContexts.1 fresh
  refine ⟨w, place, ?_, ?_⟩
  · split
    · next x found => exact (of_decide_eq_true (List.find?_some (p := fun x : WindContext =>
        decide (x.index = w.index ∧ x.bearing = w.bearing)) found)).1.symm
    · rfl
  · change _ = (old.find? fun y => decide (y.index = w.index ∧ y.bearing = w.bearing)).getD (WindContext.begin w.index w.bearing)
    split
    · next x found =>
      have found' : (old.find? fun y => decide (y.index = w.index ∧ y.bearing = w.bearing)) = some x := found
      rw [found']
      rfl
    · next found =>
      have found' : (old.find? fun y => decide (y.index = w.index ∧ y.bearing = w.bearing)) = none := found
      rw [found']
      rfl

/-! ### The light and the gate (R101, R120) -/

theorem followLight_eq (s : State) : s.followLight = if s.lightAway then echoEnded s else s := by
  rw [State.followLight, endEcho_eq]
  rfl

/-- GATE_FROZEN follows the gate of the table, and nothing else moves but what reports change. -/
theorem followGate_frame (s : State) :
    ∃ gate lost office, s.followGate =
        { s with conditions := { s.conditions with gateFrozen := gate, reportLost := lost }, office := office } ∧
      gate.v = !s.isPresent .gate := by
  have value : s.followGate.conditions.gateFrozen.v = !s.isPresent .gate := s.setV_value .gateFrozen _ (by decide)
  obtain ⟨y, lost, o, touched⟩ := s.setV_touches .gateFrozen (!s.isPresent .gate)
  have frame : s.followGate =
      { s with conditions := { s.conditions with gateFrozen := y, reportLost := lost }, office := o } := touched
  refine ⟨y, lost, o, frame, ?_⟩
  rw [frame] at value
  exact value

/-! ### The swap as a whole -/

section
variable (n : List StationEntry) (s : State)

/-- What follows the loss of the dropped stations: the light's echo run, the wind contexts, GATE_FROZEN. -/
theorem swapStations_frame :
    ∃ conditions office, s.swapStations n =
        { contextsSwapped (dropped n s).followLight with conditions := conditions, office := office } ∧
      conditions.stationChange = (dropped n s).conditions.stationChange ∧
      conditions.lampMismatch = (dropped n s).followLight.conditions.lampMismatch ∧
      WindChanged (((dropped n s).wnd.contexts.filter fun c =>
          decide (c.state ≠ .lost ∧ (windPlaceOf (dropped n s).tables.stations c.index).map (·.bearing) ≠ some c.bearing)).map
            (·.index)) (dropped n s).conditions.windChange conditions.windChange ∧
      conditions.gateFrozen.v = (!(dropped n s).isPresent .gate) ∧ ∀ r ∈ (dropped n s).office.reports, r ∈ office.reports := by
  have light {α : Type} (f : State → α) (seen : ∀ v, f (echoEnded v) = f v) : f (dropped n s).followLight = f (dropped n s) := by
    rw [followLight_eq]
    split
    · exact seen _
    · rfl
  obtain ⟨⟨c, o, frame⟩, change, mismatch, moved, reports⟩ := windSwap_noted (dropped n s).followLight
  obtain ⟨gate, lost, o', gated, value⟩ := followGate_frame (dropped n s).followLight.windSwap
  have gains := State.setV_gains (dropped n s).followLight.windSwap .gateFrozen (!(dropped n s).followLight.windSwap.isPresent .gate)
  rw [light State.wnd fun _ => rfl, light State.tables fun _ => rfl] at moved
  refine ⟨{ c with gateFrozen := gate, reportLost := lost }, o', ?_, ?_, ?_, ?_, ?_, fun r waits => ?_⟩
  · rw [swapStations_eq, gated, frame]
  · rw [frame] at change
    exact change.trans (light (·.conditions.stationChange) fun _ => rfl)
  · rw [frame] at mismatch
    exact mismatch
  · rw [frame] at moved
    have before : (contextsSwapped (dropped n s).followLight).conditions.windChange = (dropped n s).conditions.windChange :=
      light (·.conditions.windChange) fun _ => rfl
    rw [before] at moved
    exact moved
  · rw [value, frame]
    exact congrArg (!·) (light (fun v => v.isPresent .gate) fun _ => rfl)
  · have kept := gains.keeps_report (reports r (by
      have office : (contextsSwapped (dropped n s).followLight).office = (dropped n s).office := light State.office fun _ => rfl
      rw [office]
      exact waits))
    have last : (dropped n s).followLight.windSwap.followGate.office.reports = o'.reports := by rw [gated]
    rw [← last]
    exact kept

end

end Sys2Proof.Proofs
end

section
/-! LOAD_END (O39). -/

namespace Sys2Proof.Proofs

open Sys2Proof.Machine Sys2Proof.Claims

/-! ### A state that LOAD_END leaves, seen through its table -/

section
variable {s t : State}

theorem lightAway_congr (stations : t.tables.stations = s.tables.stations) (links : t.lsc.links = s.lsc.links) :
    LightAway t ↔ LightAway s := by
  unfold LightAway
  rw [stations, links]

theorem stationPresent_congr (kind : StationKind) (stations : t.tables.stations = s.tables.stations)
    (links : t.lsc.links = s.lsc.links) : StationPresent t kind ↔ StationPresent s kind := by
  unfold StationPresent
  rw [stations, links]

end

/-- The state in which a table becomes active within the request: the buffer closed. -/
def closedBuffer (now : Time) (s : State) : State := { s.asked now with loadBuffer := none }

theorem closedBuffer_count (now : Time) (s : State) : (closedBuffer now s).office.count ≤ s.office.count + 1 := asked_count now s

section
variable {s : State} {n : List StationEntry}

/-- What a STATIONS swap leaves beside the stations it drops (R9, R13, R25, R79, R101, R120). -/
def StationsSwapped (n : List StationEntry) (s t : State) : Prop :=
  t.tables = { s.tables with stations := n } ∧
    (∃ lamp q, t.lsc = { (stationsSwapped n s).lsc with
      lampSlot := lamp, segS := { (stationsSwapped n s).lsc.segS with queue := q } }) ∧
    t.wnd = { s.wnd with contexts := swappedContexts s.wnd.contexts n } ∧
    WindChanged ((s.wnd.contexts.filter fun c =>
        decide (c.state ≠ .lost ∧ (windPlaceOf n c.index).map (·.bearing) ≠ some c.bearing)).map (·.index))
      s.conditions.windChange t.conditions.windChange ∧
    (t.conditions.gateFrozen.v = true ↔ ¬StationPresent t .gate) ∧
    (LightAway t → t.stu = noEcho (dropped n s).stu ∧ t.conditions.lampMismatch.v = false) ∧
    (¬LightAway t → t.stu = (dropped n s).stu ∧
      t.conditions.lampMismatch.v = (dropped n s).conditions.lampMismatch.v) ∧
    t.lsc = (dropped n s).lsc ∧ t.jtb = (dropped n s).jtb ∧ t.startList = (dropped n s).startList ∧
    t.conditions.stationChange = (dropped n s).conditions.stationChange ∧
    (∀ r ∈ (dropped n s).office.reports, r ∈ t.office.reports) ∧
    t.loadBuffer = s.loadBuffer ∧ t.results = s.results ∧ t.competition = s.competition ∧ t.hck = s.hck

theorem swapStations_swapped (n : List StationEntry) (s : State) : StationsSwapped n s (s.swapStations n) := by
  obtain ⟨c, o, frame, change, mismatch, moved, gate, reports⟩ := swapStations_frame n s
  obtain ⟨⟨-, -, -, -, -, -, -, -, tables, hck, wnd, results, competition, -, -, loadBuffer, -⟩, -⟩ :=
    foldl_drops_absents (lostStations n s) (stationsSwapped n s)
  obtain ⟨lamp, q, scheduler⟩ := foldl_drops_scheduler (lostStations n s) (stationsSwapped n s)
  have windChange : (dropped n s).conditions.windChange = s.conditions.windChange :=
    foldl_drops_windChange (lostStations n s) (stationsSwapped n s)
  change (dropped n s).tables = _ at tables
  change (dropped n s).hck = _ at hck
  change (dropped n s).wnd = _ at wnd
  change (dropped n s).lsc = _ at scheduler
  have light {α : Type} (f : State → α) (seen : ∀ v, f (echoEnded v) = f v) : f (dropped n s).followLight = f (dropped n s) := by
    rw [followLight_eq]
    split
    · exact seen _
    · rfl
  have read {α : Type} (f : State → α) (seen : ∀ v wnd conditions office,
      f { v with wnd := wnd, conditions := conditions, office := office } = f v) :
      f (s.swapStations n) = f (dropped n s).followLight := by
    rw [frame]
    exact seen (dropped n s).followLight _ c o
  have seen {α : Type} (f : State → α) (h : ∀ v wnd conditions office,
      f { v with wnd := wnd, conditions := conditions, office := office } = f v) (h' : ∀ v, f (echoEnded v) = f v) :
      f (s.swapStations n) = f (dropped n s) := (read f h).trans (light f h')
  have conditions : (s.swapStations n).conditions = c := by rw [frame]
  have active := seen State.tables (fun _ _ _ _ => rfl) fun _ => rfl
  have lsc := seen State.lsc (fun _ _ _ _ => rfl) fun _ => rfl
  have away : LightAway (s.swapStations n) ↔ LightAway (dropped n s) :=
    lightAway_congr (congrArg (·.stations) active) (congrArg (·.links) lsc)
  rw [wnd, tables, windChange] at moved
  refine ⟨active.trans tables, ⟨lamp, q, lsc.trans scheduler⟩, ?_, conditions ▸ moved, ?_, fun gone => ?_, fun here => ?_, lsc,
    seen State.jtb (fun _ _ _ _ => rfl) fun _ => rfl, seen State.startList (fun _ _ _ _ => rfl) fun _ => rfl,
    (congrArg (·.stationChange) conditions).trans change, fun r waits => ?_,
    (seen State.loadBuffer (fun _ _ _ _ => rfl) fun _ => rfl).trans loadBuffer,
    (seen State.results (fun _ _ _ _ => rfl) fun _ => rfl).trans results,
    (seen State.competition (fun _ _ _ _ => rfl) fun _ => rfl).trans competition,
    (seen State.hck (fun _ _ _ _ => rfl) fun _ => rfl).trans hck⟩
  · have contexts : (contextsSwapped (dropped n s).followLight).wnd =
        { s.wnd with contexts := swappedContexts s.wnd.contexts n } := by
      rw [contextsSwapped, light State.wnd fun _ => rfl, light State.tables fun _ => rfl, wnd, tables]
      rfl
    rw [frame]
    exact contexts
  · have present : StationPresent (s.swapStations n) .gate ↔ StationPresent (dropped n s) .gate :=
      stationPresent_congr .gate (congrArg (·.stations) active) (congrArg (·.links) lsc)
    rw [conditions, gate, present, ← isPresent_iff_stationPresent, Bool.not_eq_true', Bool.not_eq_true]
  · have ended : (dropped n s).followLight = echoEnded (dropped n s) := by
      rw [followLight_eq, if_pos ((lightAway_iff _).2 (away.1 gone))]
    rw [conditions, mismatch, read State.stu fun _ _ _ _ => rfl, ended]
    exact ⟨rfl, rfl⟩
  · have stays : (dropped n s).followLight = dropped n s := by
      rw [followLight_eq, if_neg fun gone => here (away.2 ((lightAway_iff _).1 gone))]
    rw [conditions, mismatch, read State.stu fun _ _ _ _ => rfl, stays]
    exact ⟨rfl, rfl⟩
  · rw [frame]
    exact reports r waits

theorem swappedLink_kept {e old : StationEntry} {l : Link} (was : stationAt s.tables.stations e.addr = some old)
    (same : old.role.kind = e.role.kind) (found : linkAt s.lsc.links e.addr = some l) :
    swappedLink s.tables.stations s.lsc.links e = l := by
  rw [swappedLink, if_pos ((keepsStation_iff ..).2 ⟨old, was, same⟩), found]
  rfl

theorem swappedLink_new {e : StationEntry}
    (apart : ∀ old, stationAt s.tables.stations e.addr = some old → old.role.kind ≠ e.role.kind) :
    swappedLink s.tables.stations s.lsc.links e = ⟨e.addr, .absent, 0, 0⟩ := by
  rw [swappedLink, if_neg]
  rw [keepsStation_iff]
  rintro ⟨old, was, same⟩
  exact apart old was same

end

/-- Settles O39: LOAD_END checks in the order of R193, and swaps each table as its rules state. -/
theorem loadEndSwapsTable : Obligations.LoadEndSwapsTable := by
  intro now seq s listens
  refine ⟨fun closed => request_refused listens (loadEnd_unopened (s := s.asked now) closed), fun b opened => ⟨fun busy =>
    request_refused listens (loadEnd_busy (s := s.asked now) opened busy), fun idle => ⟨fun bad => ?_,
    fun x o full reads first => ⟨fun status refusal => ?_, fun passes => ?_⟩⟩⟩⟩
  · exact request_replied (u := { s with loadBuffer := none }) listens (loadEnd_bad (s := s.asked now) opened idle bad)
  · subst refusal
    exact request_replied (u := { s with loadBuffer := none }) listens
      (loadEnd_refused (s := s.asked now) opened idle full reads (swapRefusal_of_first (s := s) first))
  subst passes
  have swaps := loadEnd_swaps (s := s.asked now) opened idle full reads (swapRefusal_of_first (s := s) first)
  refine ⟨?_, ?_, ?_, ?_, ?_, ?_⟩
  · rintro n rfl
    exact request_replied (u := { s with loadBuffer := none, tables := { s.tables with schedT := n } }) listens swaps
  · rintro n rfl
    exact request_replied (u := { s with loadBuffer := none, tables := { s.tables with schedS := n } }) listens swaps
  · rintro n rfl
    exact request_replied (u := { s with loadBuffer := none, tables := { s.tables with distance := n } }) listens swaps
  · rintro n rfl
    exact request_replied (u := { s with loadBuffer := none, tables := { s.tables with competitors := n } }) listens swaps
  · rintro n rfl
    obtain ⟨t, exec_eq, answer, same, -, conditions, lsc, -⟩ := request_accepted (now := now) (seq := seq) (code := 0x07) listens swaps
    obtain ⟨c, office, frame⟩ := swapHill_frame n (closedBuffer now s)
    have moved := swapHill_windChange n (closedBuffer now s)
    have seen {α : Type} (f : State → α) (h : ∀ v, f v = f (unreported v)) :
        f t = f (State.swapTable (.hill n) (closedBuffer now s)) := butReports_same f same h
    rw [frame] at seen
    refine ⟨t, exec_eq, answer, seen State.loadBuffer fun _ => rfl, seen State.tables fun _ => rfl,
      seen (·.wnd.contexts) fun _ => rfl, ?_, seen (·.wnd.liveWind) fun _ => rfl, seen State.stu fun _ => rfl,
      seen State.jtb fun _ => rfl, seen State.startList fun _ => rfl, seen State.results fun _ => rfl,
      seen State.competition fun _ => rfl, seen State.lsc fun _ => rfl, seen (·.hck.marks) fun _ => rfl⟩
    rw [conditions]
    exact moved
  · rintro n rfl
    obtain ⟨t, exec_eq, answer, same, -, conditions, lsc, waiting⟩ :=
      request_accepted (now := now) (seq := seq) (code := 0x07) listens swaps
    have swapped := swapStations_swapped n (closedBuffer now s)
    change ∀ r ∈ ((closedBuffer now s).swapStations n).office.reports, Reported t r at waiting
    change ButReports ((closedBuffer now s).swapStations n) t at same
    change t.conditions = ((closedBuffer now s).swapStations n).conditions at conditions
    change t.lsc = ((closedBuffer now s).swapStations n).lsc at lsc
    generalize (closedBuffer now s).swapStations n = u at same conditions lsc waiting swapped
    obtain ⟨tables, ⟨lamp, q, scheduler⟩, wnd, moved, gate, away, near, lscOf, jtbOf, listOf, changeOf, reports, buffer, results,
      competition, hck⟩ := swapped
    have seen {α : Type} (f : State → α) (h : ∀ v, f v = f (unreported v)) : f t = f u := butReports_same f same h
    have tablesOf := seen State.tables fun _ => rfl
    have stuOf := seen State.stu fun _ => rfl
    have tlsc := lsc.trans scheduler
    have links : t.lsc.links = n.map (swappedLink s.tables.stations s.lsc.links) := by rw [tlsc]; rfl
    have lightIff : LightAway t ↔ LightAway u := lightAway_congr (congrArg (·.stations) tablesOf) (congrArg (·.links) lsc)
    have contexts : t.wnd.contexts = swappedContexts s.wnd.contexts n :=
      congrArg (·.contexts) ((seen State.wnd fun _ => rfl).trans wnd)
    refine ⟨t, exec_eq, answer, (seen State.loadBuffer fun _ => rfl).trans buffer, tablesOf.trans tables, ?_, ?_, ?_, ?_, ?_,
      congrArg (·.liveWind) ((seen State.wnd fun _ => rfl).trans wnd), congrArg (·.means) ((seen State.wnd fun _ => rfl).trans wnd),
      ?_, ?_, fun c listed => mem_swappedContexts (contexts ▸ listed), conditions ▸ moved, ?_, fun gone => ?_,
      fun e l listed gone found here => ?_, fun lit => ?_, (seen State.results fun _ => rfl).trans results,
      (seen State.competition fun _ => rfl).trans competition, congrArg (·.marks) ((seen State.hck fun _ => rfl).trans hck)⟩
    · rw [links, List.map_map]
      exact List.map_congr_left fun e _ => swappedLink_addr _ _ e
    · intro e _ old l first was kind found
      rw [links, linkAt_swapped, first, Option.map_some, swappedLink_kept was kind found]
    · intro e _ first apart
      rw [links, linkAt_swapped, first, Option.map_some, swappedLink_new apart]
    · intro seg
      unfold State.seg
      rw [tlsc]
      cases seg with
      | T => exact ⟨rfl, rfl, swap_slot s.tables.stations n .T s.lsc.segT⟩
      | S => exact ⟨rfl, rfl, swap_slot s.tables.stations n .S s.lsc.segS⟩
    · rw [tlsc, ← keepsFrame_eq]
      rfl
    · rw [contexts, swappedContexts_indices]
      exact freshContexts_indices n
    · rw [contexts, swappedContexts_indices]
      exact freshContexts_ordered n
    · rw [conditions, gate, stationPresent_congr .gate (congrArg (·.stations) tablesOf) (congrArg (·.links) lsc)]
    · obtain ⟨stu, mismatch⟩ := away (lightIff.1 gone)
      rw [stuOf, conditions, stu]
      exact ⟨rfl, mismatch⟩
    · have lost : (e, l.presence) ∈ lostStations n (closedBuffer now s) := mem_lostStations (s := closedBuffer now s) listed gone found
      obtain ⟨change, report, light⟩ := foldl_drops_station _ (stationsSwapped n (closedBuffer now s)) lost here
      refine ⟨?_, fun enabled room => waiting _ (reports _ (report enabled ?_)), fun kind => ?_,
        fun k r kind present one held start => ?_⟩
      · rw [conditions, changeOf]
        exact change
      · have base : (stationsSwapped n (closedBuffer now s)).office.count ≤ s.office.count + 1 := closedBuffer_count now s
        have fits : (lostStations n (closedBuffer now s)).length ≤ s.tables.stations.length := lostStations_length n (closedBuffer now s)
        omega
      · obtain ⟨echo, mismatch⟩ := light kind
        rw [stuOf, conditions]
        by_cases gone' : LightAway u
        · obtain ⟨stu, mismatch'⟩ := away gone'
          rw [stu]
          exact ⟨rfl, mismatch'⟩
        · obtain ⟨stu, mismatch'⟩ := near gone'
          rw [stu, mismatch']
          exact ⟨echo, mismatch⟩
      · obtain ⟨jtb, list⟩ := foldl_drops_takes (lostStations n (closedBuffer now s)) (stationsSwapped n (closedBuffer now s))
          one held start (u := stationsSwapped n (closedBuffer now s)) (x := (e, l.presence)) ⟨kind, present⟩ (.inl ⟨⟨rfl, rfl⟩, lost⟩)
        exact ⟨(seen State.jtb fun _ => rfl).trans (jtbOf.trans jtb), (seen State.startList fun _ => rfl).trans (listOf.trans list)⟩
    · obtain ⟨lscKept, stuKept, jtbKept, listKept, mismatchKept⟩ := foldl_drops_unlit (lostStations n (closedBuffer now s))
        (stationsSwapped n (closedBuffer now s)) (lostStations_unlit (s := closedBuffer now s) lit)
      have unlit : t.lsc = (stationsSwapped n (closedBuffer now s)).lsc := lsc.trans (lscOf.trans lscKept)
      refine ⟨?_, fun gone => ?_, fun here => ?_, (seen State.jtb fun _ => rfl).trans (jtbOf.trans jtbKept),
        (seen State.startList fun _ => rfl).trans (listOf.trans listKept), ?_⟩
      · rw [unlit, ← keepsFrame_eq]
        rfl
      · obtain ⟨stu, -⟩ := away (lightIff.1 gone)
        rw [stuOf, stu]
        exact congrArg noEcho stuKept
      · obtain ⟨stu, mismatch⟩ := near (mt lightIff.2 here)
        rw [stuOf, stu, conditions, mismatch]
        exact ⟨stuKept, mismatchKept⟩
      · rw [unlit]
        rfl

end Sys2Proof.Proofs
end
